-- ==== Sys2Proof/Word.lean ====
section
/-! DEFINITION. The word types of the WY-240: the byte of every frame and store block, and the two and
four byte numbers that the layouts of 10.6 carry. Quantities the manual counts with are plain numbers. -/

namespace Sys2Proof

/-- One byte of a frame or of a store block. -/
abbrev Byte := BitVec 8

/-- A two-byte field: a tag, a model code, a raise mask, a door history word. -/
abbrev Word16 := BitVec 16

/-- A four-byte field: a unit serial. -/
abbrev Word32 := BitVec 32

end Sys2Proof
end

