-- ==== Sys2Proof/Config.lean ====
section
/-! DEFINITION. What is fixed for every WY-240: the sizes and limits the manual states, and the one free
value, the bytes of a block whose write or erase was cut off (log entry 11). -/

namespace Sys2Proof.Config

/-- Free bytes: the `n`-th byte the manual leaves open. Nothing constrains it (log entry 11). -/
opaque freeByte : Nat → BitVec 8

/-- The start byte 0x7E of host and post-line frames (R177). -/
def startByte : BitVec 8 := 0x7E
/-- The escape byte 0x7D (R177). -/
def escapeByte : BitVec 8 := 0x7D
/-- The largest payload of a received host frame (R177). -/
def maxPayload : Nat := 272
/-- The payload length of a STATUS, counting from the address to the last field (10.6). -/
def statusLength : Nat := 21
/-- Type byte of a POLL (10.6). -/
def pollType : BitVec 8 := 0x51
/-- Type byte of a STATUS (10.6). -/
def statusType : BitVec 8 := 0x52
/-- Type byte of a NOTICE (10.6). -/
def noticeType : BitVec 8 := 0xF0

/-- The start timer of a run, in seconds (R96). -/
def startTimer : Int := 60
/-- The stuck timer of a run, in seconds (R106). -/
def stuckTimer : Int := 60
/-- The deferral after a failed start or an abort by a suspension, in seconds (R105). -/
def abortDeferral : Int := 600
/-- The hold timer of a gather station, in seconds (R187). -/
def gatherHold : Int := 2
/-- The gather stations (R186). -/
def stationCount : Nat := 12
/-- The most items one station holds (R186). -/
def stationItems : Nat := 6
/-- The places of the notice transmit queue (R188). -/
def noticePlaces : Nat := 24
/-- The places of the reply queue (R179). -/
def replyPlaces : Nat := 4
/-- The most frames on the exception stack (R157). -/
def stackFrames : Nat := 8
/-- The most posts one queue may serve (R70). -/
def queuePosts : Nat := 40
/-- The hours remaining an engine-bay request needs, in tenths of an hour (R82). -/
def engineBayHours : Nat := 20
/-- The bytes of packed records one image block holds (10.6). -/
def imageRoom : Nat := 248
/-- The first and the last image block (11.1). -/
def firstImage : Nat := 38
def lastImage : Nat := 101

end Sys2Proof.Config
end

