-- ==== Sys2Proof/Syntax.lean ====
section
/-! DEFINITION. The commands of the WY-240: one constructor of `Instr` for each row of spec/opcode_table.json, with
the operands that the row's rule gives the event. A host request carries its tag and the arguments of the catalogue
of 10.3; an event of a post line its line; an expiry its post. -/

namespace Sys2Proof

/-- The two post lines (00_scope, "Posts and addresses"). -/
inductive Line where
  | a | b
  deriving DecidableEq, Repr

/-- A post index, 0 to 239: A1 to A120 are 0 to 119, B1 to B120 are 120 to 239. -/
abbrev Post := Fin 240

/-- The key switch (00_scope, "Connections and ratings"). -/
inductive KeySwitch where
  | run | service
  deriving DecidableEq, Repr

/-- The positions of the line-rate switch (R176). -/
inductive LineRate where
  | r19200 | r57600 | r115200
  deriving DecidableEq, Repr

/-- The commands, one for each row of the table. -/
inductive Instr where
  /-- ROUND_START (R4): the line's round period floor has passed. -/
  | roundStart (line : Line)
  /-- STATUS (R6): a frame that began with a start byte has ended; `bytes` came after the start byte. -/
  | status (line : Line) (bytes : List Byte)
  /-- RESPONSE_WINDOW_EXPIRY (R6). -/
  | responseWindowExpiry (line : Line)
  /-- POST_FRAME_GAP_TIMEOUT (R6). -/
  | postFrameGapTimeout (line : Line)
  /-- POST_LINE_STRAY_BYTES (R6). -/
  | postLineStrayBytes (line : Line) (bytes : List Byte)
  /-- START_TIMER_EXPIRY (R96). -/
  | startTimerExpiry (post : Post)
  /-- MAX_DURATION_EXPIRY (R97). -/
  | maxDurationExpiry (post : Post)
  /-- SUSPENSION_LIMIT_EXPIRY (R104). -/
  | suspensionLimitExpiry (post : Post)
  /-- STUCK_TIMER_EXPIRY (R106). -/
  | stuckTimerExpiry (post : Post)
  /-- GATHER_HOLD_EXPIRY (R187). -/
  | gatherHoldExpiry (post : Post)
  /-- HOST_FRAME (R177, R178): bytes received on the host line. -/
  | hostFrame (bytes : List Byte)
  /-- HOST_FRAME_GAP_TIMEOUT (R177). -/
  | hostFrameGapTimeout
  /-- UNKNOWN_REQUEST (R180): a well-formed frame whose type is not in the catalogue. -/
  | unknownRequest (type : Byte) (tag : Word16) (payload : List Byte)
  /-- YARD_STATUS (R190). -/
  | yardStatus (tag : Word16)
  /-- LINE_QUERY (R22). -/
  | lineQuery (tag : Word16) (line : Byte)
  /-- TRAILER_QUERY (R43). -/
  | trailerQuery (tag : Word16) (post : Byte)
  /-- TRAILER_LIST (R44). -/
  | trailerList (tag : Word16) (filter start : Byte)
  /-- FIND_UNIT (R45). -/
  | findUnit (tag : Word16) (serial : Word32)
  /-- BIND_PROFILE (R46). -/
  | bindProfile (tag : Word16) (post profile : Byte)
  /-- RELEASE_POST (R47). -/
  | releasePost (tag : Word16) (post : Byte)
  /-- SET_WEATHER (R59): relative humidity and ambient temperature, both signed. -/
  | setWeather (tag : Word16) (rh ta : Word16)
  /-- DEFROST_NOW (R87). -/
  | defrostNow (tag : Word16) (post : Byte)
  /-- DEFROST_CANCEL (R88). -/
  | defrostCancel (tag : Word16) (post : Byte) (minutes : Word16)
  /-- DEFROST_INHIBIT (R89): 0 OFF, 1 ON. -/
  | defrostInhibit (tag : Word16) (post on : Byte)
  /-- FEEDER_QUERY (R91). -/
  | feederQuery (tag : Word16) (queue : Byte)
  /-- DECLARE_CUSTODY (R143). -/
  | declareCustody (tag : Word16) (post : Byte) (custodyTag : List Byte)
  /-- CLEAR_CUSTODY (R145). -/
  | clearCustody (tag : Word16) (post : Byte)
  /-- SET_RAISE_MASK (R163). -/
  | setRaiseMask (tag : Word16) (post : Byte) (mask : Word16)
  /-- ACK_FINDING (R162). -/
  | ackFinding (tag : Word16) (post cls : Byte)
  /-- TAKE_EXCEPTION (R160). -/
  | takeException (tag : Word16)
  /-- PEEK_EXCEPTIONS (R161). -/
  | peekExceptions (tag : Word16)
  /-- POST_OUTPUT (R174): selectors 0 OFF or CLEAR, 1 ON or SET, 2 KEEP. -/
  | postOutput (tag : Word16) (post contactor beacon forceOff forceOn : Byte)
  /-- STORE_READ (R192). -/
  | storeRead (tag : Word16) (block : Byte)
  /-- STORE_WRITE (R193). -/
  | storeWrite (tag : Word16) (block : Byte) (content : List Byte)
  /-- STORE_WRITE_COMPLETE (R194). -/
  | storeWriteComplete
  /-- SET_CLOCK (R199): a signed yard-clock setting. -/
  | setClock (tag : Word16) (setting : Word32)
  /-- RESTART (R199). -/
  | restart (tag : Word16)
  /-- TRANSMIT_COMPLETE (R184). -/
  | transmitComplete
  /-- MAINS_LOSS (R195). -/
  | mainsLoss
  /-- IMAGE_BLOCK_WRITTEN (R196). -/
  | imageBlockWritten
  /-- MAINS_RETURN (R197). -/
  | mainsReturn
  /-- SUPPLY_FAIL (R197). -/
  | supplyFail
  /-- POWER_ON (R198): whether the clock battery has kept the clock. -/
  | powerOn (batteryGood : Bool)
  /-- KEY_SWITCH_CHANGE (R193). -/
  | keySwitchChange (position : KeySwitch)
  /-- LINE_RATE_SWITCH_CHANGE (R176). -/
  | lineRateSwitchChange (position : LineRate)
  /-- IMAGE_BLOCK_ERASED (R198). -/
  | imageBlockErased
  deriving DecidableEq, Repr

end Sys2Proof
end

