-- ==== Sys2Proof/Decode.lean ====
section
/-! DEFINITION. Bytes on the wire: the byte order of numbers, the CRC, the escaping and the framing of the host line and
the post lines (R176 to R178, 10.6), the request catalogue (10.3), and the reading of a request frame as the command
it spells, with the writing of a command as its request frame beside it. No row of spec/opcode_table.json gives bits,
so `decodeTableWord` answers none. -/

namespace Sys2Proof

/-! ## Byte order (R189: numbers high byte first) -/

/-- The `k` low bytes of `n`, high byte first. -/
def beBytes : Nat → Nat → List Byte
  | 0, _ => []
  | k + 1, n => BitVec.ofNat 8 (n >>> (8 * k)) :: beBytes k n

/-- A one-byte number. -/
def byte1 (n : Nat) : Byte := BitVec.ofNat 8 n

/-- The number that bytes spell, high byte first. -/
def beNat (bs : List Byte) : Nat := bs.foldl (fun n b => n * 256 + b.toNat) 0

/-- The bytes of a two-byte field. -/
def bytes16 (w : Word16) : List Byte := beBytes 2 w.toNat

/-- The bytes of a four-byte field. -/
def bytes32 (w : Word32) : List Byte := beBytes 4 w.toNat

/-- A signed two-byte number in two's complement. -/
def signed16 (v : Int) : List Byte := bytes16 (BitVec.ofInt 16 v)

/-- A signed four-byte number in two's complement. -/
def signed32 (v : Int) : List Byte := bytes32 (BitVec.ofInt 32 v)

/-- The byte at place `i`. -/
def byteAt (bs : List Byte) (i : Nat) : Byte := bs.getD i 0

/-- The two-byte field at place `i`. -/
def word16At (bs : List Byte) (i : Nat) : Word16 := BitVec.ofNat 16 (beNat ((bs.drop i).take 2))

/-- The four-byte field at place `i`. -/
def word32At (bs : List Byte) (i : Nat) : Word32 := BitVec.ofNat 32 (beNat ((bs.drop i).take 4))

/-! ## The CRC (R178): polynomial x^16 + x^12 + x^5 + 1, initial value 0xFFFF, most significant bit first -/

/-- One bit of the code. -/
def crcBit (c : Word16) : Word16 := if c.msb then (c <<< 1) ^^^ 0x1021 else c <<< 1

/-- One byte of the code. -/
def crcByte (c : Word16) (b : Byte) : Word16 :=
  crcBit (crcBit (crcBit (crcBit (crcBit (crcBit (crcBit (crcBit (c ^^^ (b.zeroExtend 16 <<< 8)))))))))

/-- The CRC of a frame's contents. -/
def crc16 (bs : List Byte) : Word16 := bs.foldl crcByte 0xFFFF

/-! ## Escaping (10.1) -/

/-- The bytes that carry one contents byte on the wire. -/
def escapeOne (b : Byte) : List Byte :=
  if b = Config.startByte ∨ b = Config.escapeByte then [Config.escapeByte, b ^^^ 0x20] else [b]

/-- Contents as they travel on the wire. -/
def escape (bs : List Byte) : List Byte := bs.flatMap escapeOne

/-- The contents that wire bytes carry; none when an unescaped or escaped start byte stands among them (R177) or the
last byte is a held escape. -/
def unescape : List Byte → Option (List Byte)
  | [] => some []
  | b :: rest =>
    if b = Config.startByte then none
    else if b = Config.escapeByte then
      match rest with
      | [] => none
      | c :: rest' => if c = Config.startByte then none else (unescape rest').map ((c ^^^ 0x20) :: ·)
    else (unescape rest).map (b :: ·)

/-- A frame on the wire: start byte, then the contents and their CRC, escaped (10.1, R178). -/
def wireOf (contents : List Byte) : List Byte :=
  Config.startByte :: escape (contents ++ bytes16 (crc16 contents))

/-! ## Host frames (10.1, 10.6) -/

/-- A well-formed host frame: type, tag and payload. -/
structure HostFrame where
  type : Byte
  tag : Word16
  payload : List Byte
  deriving DecidableEq, Repr

/-- The contents of a frame before its CRC: length, type, tag, payload. -/
def HostFrame.contents (f : HostFrame) : List Byte :=
  beBytes 2 f.payload.length ++ f.type :: bytes16 f.tag ++ f.payload

/-- The frame on the wire. -/
def HostFrame.wire (f : HostFrame) : List Byte := wireOf f.contents

/-- The payload length that the first two contents bytes give (R177). -/
def announcedLength (contents : List Byte) : Nat := beNat (contents.take 2)

/-- Whether contents of a host frame are complete: 2 + 1 + 2 + length + 2 bytes (R177). -/
def frameComplete (contents : List Byte) : Bool :=
  2 ≤ contents.length ∧ contents.length = 7 + announcedLength contents

/-- The CRC check of a completed frame (R178). -/
def checkFrame (contents : List Byte) : Option HostFrame :=
  let body := contents.take (contents.length - 2)
  if crc16 body = word16At contents (contents.length - 2) then
    some { type := byteAt contents 2, tag := word16At contents 3, payload := body.drop 5 }
  else none

/-! ## The request catalogue (10.3) -/

/-- The 23 requests of the catalogue. -/
inductive RequestType where
  | yardStatus | lineQuery | trailerQuery | trailerList | findUnit | bindProfile | releasePost | setWeather
  | defrostNow | defrostCancel | defrostInhibit | feederQuery | declareCustody | clearCustody | setRaiseMask
  | ackFinding | takeException | peekExceptions | postOutput | storeRead | storeWrite | setClock | restart
  deriving DecidableEq, Repr

/-- The catalogue in its order. -/
def RequestType.all : List RequestType :=
  [.yardStatus, .lineQuery, .trailerQuery, .trailerList, .findUnit, .bindProfile, .releasePost, .setWeather,
   .defrostNow, .defrostCancel, .defrostInhibit, .feederQuery, .declareCustody, .clearCustody, .setRaiseMask,
   .ackFinding, .takeException, .peekExceptions, .postOutput, .storeRead, .storeWrite, .setClock, .restart]

/-- The type code of a request (10.3). -/
def RequestType.code : RequestType → Byte
  | .yardStatus => 0x01 | .lineQuery => 0x02 | .trailerQuery => 0x03 | .trailerList => 0x04
  | .findUnit => 0x05 | .bindProfile => 0x06 | .releasePost => 0x07 | .setWeather => 0x08
  | .defrostNow => 0x09 | .defrostCancel => 0x0A | .defrostInhibit => 0x0B | .feederQuery => 0x0C
  | .declareCustody => 0x0D | .clearCustody => 0x0E | .setRaiseMask => 0x0F | .ackFinding => 0x10
  | .takeException => 0x11 | .peekExceptions => 0x12 | .postOutput => 0x13 | .storeRead => 0x14
  | .storeWrite => 0x15 | .setClock => 0x16 | .restart => 0x17

/-- The payload lengths a request allows (10.3). -/
def RequestType.lengthOk (t : RequestType) (n : Nat) : Bool :=
  match t with
  | .yardStatus | .takeException | .peekExceptions | .restart => n = 0
  | .lineQuery | .trailerQuery | .releasePost | .defrostNow | .feederQuery | .clearCustody | .storeRead => n = 1
  | .trailerList | .bindProfile | .defrostInhibit | .ackFinding => n = 2
  | .defrostCancel | .setRaiseMask => n = 3
  | .findUnit | .setWeather | .setClock => n = 4
  | .postOutput => n = 5
  | .declareCustody => 1 ≤ n ∧ n ≤ 13
  | .storeWrite => n = 257

/-- The request a type byte names, if the catalogue has one (R180, check 1). -/
def RequestType.ofCode (c : Byte) : Option RequestType := RequestType.all.find? (·.code = c)

/-- The command a payload spells, for a payload of an allowed length (arguments in payload order, 10.3). -/
def RequestType.read (t : RequestType) (tag : Word16) (p : List Byte) : Instr :=
  match t with
  | .yardStatus => .yardStatus tag
  | .lineQuery => .lineQuery tag (byteAt p 0)
  | .trailerQuery => .trailerQuery tag (byteAt p 0)
  | .trailerList => .trailerList tag (byteAt p 0) (byteAt p 1)
  | .findUnit => .findUnit tag (word32At p 0)
  | .bindProfile => .bindProfile tag (byteAt p 0) (byteAt p 1)
  | .releasePost => .releasePost tag (byteAt p 0)
  | .setWeather => .setWeather tag (word16At p 0) (word16At p 2)
  | .defrostNow => .defrostNow tag (byteAt p 0)
  | .defrostCancel => .defrostCancel tag (byteAt p 0) (word16At p 1)
  | .defrostInhibit => .defrostInhibit tag (byteAt p 0) (byteAt p 1)
  | .feederQuery => .feederQuery tag (byteAt p 0)
  | .declareCustody => .declareCustody tag (byteAt p 0) (p.drop 1)
  | .clearCustody => .clearCustody tag (byteAt p 0)
  | .setRaiseMask => .setRaiseMask tag (byteAt p 0) (word16At p 1)
  | .ackFinding => .ackFinding tag (byteAt p 0) (byteAt p 1)
  | .takeException => .takeException tag
  | .peekExceptions => .peekExceptions tag
  | .postOutput => .postOutput tag (byteAt p 0) (byteAt p 1) (byteAt p 2) (byteAt p 3) (byteAt p 4)
  | .storeRead => .storeRead tag (byteAt p 0)
  | .storeWrite => .storeWrite tag (byteAt p 0) (p.drop 1)
  | .setClock => .setClock tag (word32At p 0)
  | .restart => .restart tag

/-- What the first two checks of R180 make of a request frame. -/
inductive RequestReading where
  | unknownRequest
  | badLength
  | request (i : Instr)
  deriving DecidableEq, Repr

/-- Checks 1 and 2 of R180, and the command the frame spells. -/
def decodeRequest (f : HostFrame) : RequestReading :=
  match RequestType.ofCode f.type with
  | none => .unknownRequest
  | some t => if t.lengthOk f.payload.length then .request (t.read f.tag f.payload) else .badLength

/-- The request frame of a command, for the rows that are requests (10.3): the encoder beside `decodeRequest`. -/
def Instr.frame : Instr → Option HostFrame
  | .unknownRequest ty tag p => some ⟨ty, tag, p⟩
  | .yardStatus tag => some ⟨0x01, tag, []⟩
  | .lineQuery tag l => some ⟨0x02, tag, [l]⟩
  | .trailerQuery tag p => some ⟨0x03, tag, [p]⟩
  | .trailerList tag f p => some ⟨0x04, tag, [f, p]⟩
  | .findUnit tag s => some ⟨0x05, tag, bytes32 s⟩
  | .bindProfile tag p n => some ⟨0x06, tag, [p, n]⟩
  | .releasePost tag p => some ⟨0x07, tag, [p]⟩
  | .setWeather tag rh ta => some ⟨0x08, tag, bytes16 rh ++ bytes16 ta⟩
  | .defrostNow tag p => some ⟨0x09, tag, [p]⟩
  | .defrostCancel tag p m => some ⟨0x0A, tag, p :: bytes16 m⟩
  | .defrostInhibit tag p on => some ⟨0x0B, tag, [p, on]⟩
  | .feederQuery tag q => some ⟨0x0C, tag, [q]⟩
  | .declareCustody tag p t => some ⟨0x0D, tag, p :: t⟩
  | .clearCustody tag p => some ⟨0x0E, tag, [p]⟩
  | .setRaiseMask tag p m => some ⟨0x0F, tag, p :: bytes16 m⟩
  | .ackFinding tag p c => some ⟨0x10, tag, [p, c]⟩
  | .takeException tag => some ⟨0x11, tag, []⟩
  | .peekExceptions tag => some ⟨0x12, tag, []⟩
  | .postOutput tag p c b f n => some ⟨0x13, tag, [p, c, b, f, n]⟩
  | .storeRead tag b => some ⟨0x14, tag, [b]⟩
  | .storeWrite tag b c => some ⟨0x15, tag, b :: c⟩
  | .setClock tag w => some ⟨0x16, tag, bytes32 w⟩
  | .restart tag => some ⟨0x17, tag, []⟩
  | .roundStart _ | .status _ _ | .responseWindowExpiry _ | .postFrameGapTimeout _ | .postLineStrayBytes _ _
  | .startTimerExpiry _ | .maxDurationExpiry _ | .suspensionLimitExpiry _ | .stuckTimerExpiry _ | .gatherHoldExpiry _
  | .hostFrame _ | .hostFrameGapTimeout | .storeWriteComplete | .transmitComplete | .mainsLoss | .imageBlockWritten
  | .mainsReturn | .supplyFail | .powerOn _ | .keySwitchChange _ | .lineRateSwitchChange _ | .imageBlockErased => none

/-- The command a word spells by the bits of spec/opcode_table.json: no row of the table gives bits. -/
def decodeTableWord (_nbits _w : Nat) : Option Instr := none

end Sys2Proof
end

