-- ==== Sys2Proof/Machine/Types.lean ====
section
/-! DEFINITION. The plain data the WY-240's blocks hold: the enumerations of 00_scope and the records of each chapter.
Times are run-counter seconds as whole numbers that may lie below 0 (R133, R198). -/

namespace Sys2Proof.Machine

/-- A run-counter or yard-clock time in whole seconds. -/
abbrev Time := Int

/-- A profile id, 0 to 31. -/
abbrev ProfileId := Fin 32

/-- A queue: F0 to F7 are 0 to 7, ENGINE-BAY is 8 (R91). -/
abbrev Queue := Fin 9

/-- The ENGINE-BAY queue. -/
def Queue.engineBay : Queue := 8

/-! ## Post lines (chapter 1) -/

/-- Unit mode (00_scope). -/
inductive Mode where
  | off | cool | null | heat | defrost | fault
  deriving DecidableEq, Repr

/-- Power source (00_scope). -/
inductive PowerSource where
  | shore | engine | none
  deriving DecidableEq, Repr

/-- The door as a status reports it (00_scope). -/
inductive DoorReport where
  | closed | opened | unknown
  deriving DecidableEq, Repr

/-- The plug and unit link of a status: plug NONE; PLUGGED with link ABSENT; PLUGGED with link PRESENT (10.6). -/
inductive PlugLink where
  | unplugged | noUnit | unit
  deriving DecidableEq, Repr

/-- The four output levels of a post (chapter 9), true for ON. -/
structure Levels where
  contactor : Bool
  permit : Bool
  beacon : Bool
  demand : Bool
  deriving DecidableEq, Repr

/-- A STATUS (R20, 10.6). A temperature is absent when it carries the not-fitted code. -/
structure StatusReport where
  plugLink : PlugLink
  serial : Word32
  model : Word16
  mode : Mode
  power : PowerSource
  tr : Option Int
  tc : Option Int
  door : DoorReport
  heaterCurrent : Nat
  fuelRaw : Nat
  actual : Levels
  deriving DecidableEq, Repr

/-- Post state (1.4). -/
inductive PostState where
  | unseen | live | lost
  deriving DecidableEq, Repr

/-- An entry of the post state table (1.4). -/
structure PostEntry where
  state : PostState
  missed : Nat
  lastGood : Option Time
  pluggedNoUnit : Bool
  deriving DecidableEq, Repr

/-- Line state (1.5). -/
inductive LineState where
  | off | up | disturbed | recovering | down
  deriving DecidableEq, Repr

/-- The settings of a line (1.1). Bit `n` of `installed` stands for address `n + 1`. -/
structure LineSettings where
  installed : BitVec 120
  floor : Nat
  window : Nat
  recover : Nat
  deriving DecidableEq, Repr

/-- A poll exchange in flight: the post polled, whether it is the retry, and the levels its POLL carried (R5, R7). -/
structure Exchange where
  post : Post
  retry : Bool
  levels : Levels
  deriving DecidableEq, Repr

/-- A round in progress (R3): whether it began with the line RECOVERING (R16), whether it has held a GOOD result and
whether a MISS in it has brought the run of misses to 3 or more (R13), the posts still to poll in their order, and the
exchange in flight. -/
structure Round where
  beganRecovering : Bool
  hadGood : Bool
  spoiled : Bool
  remaining : List Post
  exchange : Exchange
  deriving DecidableEq, Repr

/-- A line controller's own state (1.5, R1, R4). -/
structure LineController where
  state : LineState
  misses : Nat
  goodRounds : Nat
  silentRounds : Nat
  sinceUp : Option Nat
  settings : LineSettings
  lastStart : Option Time
  round : Option Round
  deriving DecidableEq, Repr

/-- The output state of a post (9.1). -/
structure OutputState where
  contactor : Bool
  beacon : Bool
  forceOff : Bool
  forceOn : Bool
  delivered : Option Levels
  actual : Option Levels
  mismatch : Nat
  nextToggle : Bool
  thisToggle : Option Bool
  deriving DecidableEq, Repr

/-! ## Findings (chapter 8) -/

/-- The sixteen finding classes (8.1). -/
inductive FindingClass where
  | linkLost | outputMismatch | unknownModel | duplicateUnit | recordRebuilt | sensor | defrostStartFailed
  | defrostAborted | heaterWeak | unitStuckDefrost | fuelLoss | lowFuel | senderFault | doorAjar | doorSensor
  | custodyBreak
  deriving DecidableEq, Repr

/-- What a raised class does to the trailer (8.3). -/
inductive Action where
  | none | beacon | inhibitDefrost | cutHeater
  deriving DecidableEq, Repr

/-- A class of the active set: its detail (R147) and the push number held with it (R150). -/
structure ActiveFinding where
  cls : FindingClass
  detail : Nat
  push : Option Nat
  deriving DecidableEq, Repr

/-- A class of the note set with its detail (R147, R149). -/
structure NotedFinding where
  cls : FindingClass
  detail : Nat
  deriving DecidableEq, Repr

/-- The actions in force for a record, each with the cause it came into force with, 0 for none (R152). -/
structure ActionsInForce where
  beacon : Option Nat
  inhibit : Option Nat
  cut : Option Nat
  deriving DecidableEq, Repr

/-- An exception frame (8.4). -/
structure ExceptionFrame where
  push : Nat
  cls : FindingClass
  post : Post
  yardTime : Time
  detail : Nat
  cause : Nat
  truncated : Bool
  deriving DecidableEq, Repr

/-- One entry of the finding table (8.3). -/
structure TableEntry where
  severity : Nat
  action : Action
  deriving DecidableEq, Repr

/-! ## Requests and runs (chapters 4 and 5) -/

/-- Request class, highest rank first (4.2). -/
inductive RequestClass where
  | forced | host | unit | threshold
  deriving DecidableEq, Repr

/-- A defrost request (4.2). -/
structure Request where
  post : Post
  cls : RequestClass
  filed : Time
  load : Nat
  passes : Nat
  deriving DecidableEq, Repr

/-- A suspension cause (5.5). -/
inductive SuspCause where
  | door | line | post | cut
  deriving DecidableEq, Repr

/-- The cause of an abort (5.1), in the order of the outcome codes of 10.6. -/
inductive AbortCause where
  | door | line | post | cut | host | inhibit | departure | move | rebuild
  deriving DecidableEq, Repr

/-- The outcome of a run (5.1). -/
inductive RunOutcome where
  | cleared | timedOut | unitEnded | startFailed
  | aborted (cause : AbortCause)
  deriving DecidableEq, Repr

/-- A cause of a suspension with the time it joined and, for CUT, the push number it carries, 0 for none (R100). -/
structure CauseEntry where
  cause : SuspCause
  joined : Time
  push : Nat
  deriving DecidableEq, Repr

/-- The state a suspension will resume to (R101). -/
inductive PriorState where
  | commanded | heating
  deriving DecidableEq, Repr

/-- The state of a run with what each state holds (5.1): the heating start while HEATING, the suspension while
SUSPENDED, the ending start, the outcome and whether a status has been evaluated since (R106) while ENDING. -/
inductive RunState where
  | commanded
  | heating (start : Time)
  | suspended (start : Time) (prior : PriorState) (causes : List CauseEntry)
  | ending (start : Time) (outcome : RunOutcome) (evaluated : Bool)
  deriving DecidableEq, Repr

/-- The profile values a run works to (R95). -/
structure RunLimits where
  termination : Int
  maxDuration : Nat
  suspendLimit : Nat
  minCurrent : Nat
  deriving DecidableEq, Repr

/-- A run record (5.1). `byAction` records that its abort came from the INHIBIT-DEFROST action (R107). -/
structure RunRecord where
  state : RunState
  grantTime : Time
  cls : RequestClass
  queue : Queue
  load : Nat
  f0 : Nat
  limits : RunLimits
  heatingTime : Nat
  heatCount : Nat
  heaterWeak : Bool
  suspendedTime : Nat
  byAction : Bool
  link : Option Nat
  deriving DecidableEq, Repr

/-! ## Fuel, doors and the trailer record (chapters 2, 6 and 7) -/

/-- A burn window (6.1). -/
structure BurnWindow where
  start : Time
  lfStart : Nat
  heating : Bool
  engine : Bool
  deriving DecidableEq, Repr

/-- The fuel fields (6.1). -/
structure FuelAccount where
  started : Bool
  lf16 : Nat
  lastLevel : Option Nat
  invalidCount : Nat
  refuelPending : Bool
  window : Option BurnWindow
  bs : Option Nat
  hours : Nat
  deriving DecidableEq, Repr

/-- The held door state (7.1). -/
inductive Door where
  | closed | opened
  deriving DecidableEq, Repr

/-- The door fields (7.1). -/
structure DoorGroup where
  held : Option Door
  unknownCount : Nat
  openingTime : Option Time
  ajarReported : Bool
  history : Word16
  pn : Option Int
  deriving DecidableEq, Repr

/-- Custody with its tag, present while CLOSED or BROKEN (R142). -/
inductive Custody where
  | none
  | closed (tag : List Byte)
  | broken (tag : List Byte)
  | unknown
  deriving DecidableEq, Repr

/-- Record state (2.1). -/
inductive RecordState where
  | vacant | arriving | enrolled | held | restored
  deriving DecidableEq, Repr

/-- A trailer record (2.1). `checkError` is the exclusive or of the record's 16-bit check code and the code computed
over its other fields: 0 exactly when the code verifies (R27, log entry 8). -/
structure TrailerRecord where
  state : RecordState
  serial : Word32
  model : Word16
  profile : Option ProfileId
  arrival : Option Time
  lastStatus : Option Time
  lastEval : Option Time
  unitAbsent : Nat
  tr : Option Int
  tc : Option Int
  trInvalid : Nat
  tcInvalid : Nat
  f : Nat
  r : Nat
  lastDefrostEnd : Option Time
  door : DoorGroup
  custody : Custody
  fuel : FuelAccount
  inhibit : Bool
  deferral : Option Time
  run : Option RunRecord
  active : List ActiveFinding
  noted : List NotedFinding
  mask : Word16
  checkError : Word16
  deriving DecidableEq, Repr

/-! ## Configuration (chapters 1, 3, 4, 8, 9, 11) -/

/-- A profile (11.1 and the chapters that read its values). The curve is nine points (raw, litres). -/
structure Profile where
  model : Word16
  load : Nat
  fth : Nat
  minInterval : Nat
  maxInterval : Nat
  termination : Int
  maxDuration : Nat
  suspendLimit : Nat
  minCurrent : Nat
  sender : Bool
  curve : Vector (Nat × Nat) 9
  refuel : Nat
  tolerance : Nat
  engineBurn : Nat
  defrostBurn : Nat
  lowHours : Nat
  ajar : Nat
  mask : Word16
  deriving DecidableEq, Repr

/-- The content in force of store blocks 1 to 37 (11.1). -/
structure YardConfig where
  lineA : LineSettings
  lineB : LineSettings
  map : Vector Queue 240
  startOn : Vector Bool 240
  capacity : Vector Nat 8
  table : Vector TableEntry 16
  mdef : Nat
  hp : Nat
  profiles : Vector (Option Profile) 32
  deriving DecidableEq, Repr

/-- The weather state (3.4). -/
structure Weather where
  rh : Nat
  ta : Int
  receipt : Option Time
  deriving DecidableEq, Repr

/-! ## Host line (chapter 10) -/

/-- A notice item's kind and what it carries (R185). -/
inductive ItemBody where
  | arrived (serial : Word32) (model : Word16)
  | enrolled (profile : ProfileId)
  | moved (owner arriving : Post)
  | departed (serial : Word32)
  | defrostStarted (cls : RequestClass) (queue : Queue) (load : Nat) (first : PriorState)
  | defrostEnded (outcome : RunOutcome) (f0 heating suspended : Nat) (stuck : Bool)
  | refuel (amount level : Nat)
  | findingNoted (cls : FindingClass) (severity detail cause : Nat)
  | findingRaised (cls : FindingClass) (severity detail push cause : Nat)
  | findingCleared (cls : FindingClass) (acknowledged : Bool)
  | custodyChanged (custody : Custody)
  deriving DecidableEq, Repr

/-- A notice item with the yard-clock time of its production (R185). -/
structure NoticeItem where
  yardTime : Time
  body : ItemBody
  deriving DecidableEq, Repr

/-- An open gather station (R186). -/
structure Station where
  post : Post
  opened : Time
  items : List NoticeItem
  deriving DecidableEq, Repr

/-- A notice (R187). -/
structure Notice where
  post : Post
  items : List NoticeItem
  deriving DecidableEq, Repr

/-- Reply statuses in the order of their codes 0 to 9 (R181). -/
inductive Status where
  | ok | unknownRequest | badLength | badArgument | noTrailer | wrongState | isProtected | storeBusy | doorNotClosed
  | restarting
  deriving DecidableEq, Repr

/-- A reply frame before framing (R181): `body` follows the status byte. -/
structure Reply where
  type : Byte
  tag : Word16
  status : Status
  body : List Byte
  deriving DecidableEq, Repr

/-- A frame the transmitter sends (R184). -/
inductive TxFrame where
  | reply (r : Reply)
  | notice (n : Notice)
  deriving DecidableEq, Repr

/-- The receive side (R177): HUNTING, or IN-FRAME with the contents so far and whether an escape is held. -/
inductive RxState where
  | hunting
  | inFrame (contents : List Byte) (escaped : Bool)
  deriving DecidableEq, Repr

/-! ## Store and hold-up (chapter 11) -/

/-- A store block: its 256 bytes and, for blocks 0 to 37, the completion mark beside them (11.1). -/
structure StoreBlock where
  bytes : List Byte
  mark : Bool
  deriving DecidableEq, Repr

/-- A store write in flight (R193). -/
structure StoreWrite where
  block : Fin 102
  content : List Byte
  tag : Word16
  deriving DecidableEq, Repr

/-- Restart reasons (11.3 to 11.5). -/
inductive Reason where
  | powerOn | mainsLoss | mainsDip | tableFault | hostRestart
  deriving DecidableEq, Repr

/-- The restart record of the clock's battery-backed memory (R195). -/
structure RestartRecord where
  primary : Option Reason
  secondary : Option Reason
  deriving DecidableEq, Repr

/-- Where the module stands between starts (R195 to R198). `flushWaiting`, `flushing` and `awaitingMains` are the stages of a
pending restart: waiting for a write in flight, writing the image (`next` is the block being written, `blocks` its bytes
and those after it), waiting for mains. `starting` erases image block `block`. -/
inductive Phase where
  | running
  | flushWaiting
  | flushing (next : Nat) (blocks : List (List Byte))
  | awaitingMains
  | starting (block : Nat)
  | off
  deriving DecidableEq, Repr

end Sys2Proof.Machine
end

