-- ==== Sys2Proof/Machine/Layout.lean ====
section
/-! DEFINITION. The numbers of enumerations (R189), and the content of store blocks 1 to 37: its byte layout, its
validation (R193, check 4) and its factory values (R191). The manual gives these blocks' values and ranges but no byte
layout; the layout here is the model's (log entry 6): the values in the manual's order, high byte first. -/

namespace Sys2Proof.Machine

/-- The vector whose place `i` holds `f i`. -/
def buildVec (n : Nat) {α : Type} (f : Fin n → α) : Vector α n := ⟨⟨(List.finRange n).map f⟩, by simp⟩

/-! ## Enumerations as numbers (R189: numbered from 0 in the order of their values) -/

def Mode.code : Mode → Nat
  | .off => 0 | .cool => 1 | .null => 2 | .heat => 3 | .defrost => 4 | .fault => 5

def Mode.ofCode : Nat → Option Mode
  | 0 => some .off | 1 => some .cool | 2 => some .null | 3 => some .heat | 4 => some .defrost | 5 => some .fault
  | _ => none

def PowerSource.code : PowerSource → Nat
  | .shore => 0 | .engine => 1 | .none => 2

def PowerSource.ofCode : Nat → Option PowerSource
  | 0 => some .shore | 1 => some .engine | 2 => some .none | _ => Option.none

def DoorReport.code : DoorReport → Nat
  | .closed => 0 | .opened => 1 | .unknown => 2

def DoorReport.ofCode : Nat → Option DoorReport
  | 0 => some .closed | 1 => some .opened | 2 => some .unknown | _ => none

/-- The codes 0, 1 and 3 of the plug and link byte (10.6). -/
def PlugLink.code : PlugLink → Nat
  | .unplugged => 0 | .noUnit => 1 | .unit => 3

def PlugLink.ofCode : Nat → Option PlugLink
  | 0 => some .unplugged | 1 => some .noUnit | 3 => some .unit | _ => none

def PostState.code : PostState → Nat
  | .unseen => 0 | .live => 1 | .lost => 2

def LineState.code : LineState → Nat
  | .off => 0 | .up => 1 | .disturbed => 2 | .recovering => 3 | .down => 4

def Door.code : Door → Nat
  | .closed => 0 | .opened => 1

def Custody.code : Custody → Nat
  | .none => 0 | .closed _ => 1 | .broken _ => 2 | .unknown => 3

def RecordState.code : RecordState → Nat
  | .vacant => 0 | .arriving => 1 | .enrolled => 2 | .held => 3 | .restored => 4

def RequestClass.code : RequestClass → Nat
  | .forced => 0 | .host => 1 | .unit => 2 | .threshold => 3

def SuspCause.code : SuspCause → Nat
  | .door => 0 | .line => 1 | .post => 2 | .cut => 3

def AbortCause.code : AbortCause → Nat
  | .door => 0 | .line => 1 | .post => 2 | .cut => 3 | .host => 4 | .inhibit => 5 | .departure => 6 | .move => 7
  | .rebuild => 8

/-- Outcome codes 1 to 13 (10.6). -/
def RunOutcome.code : RunOutcome → Nat
  | .cleared => 1 | .timedOut => 2 | .unitEnded => 3 | .startFailed => 4 | .aborted c => 5 + c.code

def Status.code : Status → Nat
  | .ok => 0 | .unknownRequest => 1 | .badLength => 2 | .badArgument => 3 | .noTrailer => 4 | .wrongState => 5
  | .isProtected => 6 | .storeBusy => 7 | .doorNotClosed => 8 | .restarting => 9

/-- Restart reasons as YARD-STATUS codes them (log entry 7). -/
def Reason.code : Reason → Nat
  | .powerOn => 0 | .mainsLoss => 1 | .mainsDip => 2 | .tableFault => 3 | .hostRestart => 4

def Action.code : Action → Nat
  | .none => 0 | .beacon => 1 | .inhibitDefrost => 2 | .cutHeater => 3

def Action.ofCode : Nat → Option Action
  | 0 => some .none | 1 => some .beacon | 2 => some .inhibitDefrost | 3 => some .cutHeater | _ => Option.none

/-- The number of a finding class (8.1). -/
def FindingClass.num : FindingClass → Nat
  | .linkLost => 0 | .outputMismatch => 1 | .unknownModel => 2 | .duplicateUnit => 3 | .recordRebuilt => 4
  | .sensor => 5 | .defrostStartFailed => 6 | .defrostAborted => 7 | .heaterWeak => 8 | .unitStuckDefrost => 9
  | .fuelLoss => 10 | .lowFuel => 11 | .senderFault => 12 | .doorAjar => 13 | .doorSensor => 14 | .custodyBreak => 15

/-- The sixteen classes in order (8.1). -/
def FindingClass.all : List FindingClass :=
  [.linkLost, .outputMismatch, .unknownModel, .duplicateUnit, .recordRebuilt, .sensor, .defrostStartFailed,
   .defrostAborted, .heaterWeak, .unitStuckDefrost, .fuelLoss, .lowFuel, .senderFault, .doorAjar, .doorSensor,
   .custodyBreak]

/-- The class of a number (8.1). -/
def FindingClass.ofNum (n : Nat) : Option FindingClass := FindingClass.all[n]?

/-- Latched classes stand until acknowledged; the others are self-clearing (8.1). -/
def FindingClass.latched : FindingClass → Bool
  | .duplicateUnit | .recordRebuilt | .defrostStartFailed | .defrostAborted | .heaterWeak | .unitStuckDefrost
  | .fuelLoss | .custodyBreak => true
  | .linkLost | .outputMismatch | .unknownModel | .sensor | .lowFuel | .senderFault | .doorAjar | .doorSensor => false

/-- The output level byte: CONTACTOR bit 0, HEATER-PERMIT bit 1, BEACON bit 2, DEFROST-DEMAND bit 3 (10.6). -/
def Levels.code (l : Levels) : Nat :=
  (if l.contactor then 1 else 0) + (if l.permit then 2 else 0) + (if l.beacon then 4 else 0)
    + (if l.demand then 8 else 0)

/-- The levels of an output level byte; bits 4 to 7 are zero (10.6). -/
def Levels.ofCode (n : Nat) : Option Levels :=
  if n < 16 then
    some { contactor := n.testBit 0, permit := n.testBit 1, beacon := n.testBit 2, demand := n.testBit 3 }
  else none

/-! ## Blocks 1 to 5 -/

/-- Block 1: for line A then line B, the installed set in 15 bytes (address 1 at bit 0 of the last), the floor, the
response window and the recover count in one byte each. -/
def LineSettings.bytes (l : LineSettings) : List Byte :=
  beBytes 15 l.installed.toNat ++ [byte1 l.floor, byte1 l.window, byte1 l.recover]

/-- Line settings within the ranges of 1.1. -/
def readLine (bs : List Byte) : Option LineSettings :=
  let l : LineSettings :=
    { installed := BitVec.ofNat 120 (beNat (bs.take 15)), floor := (byteAt bs 15).toNat,
      window := (byteAt bs 16).toNat, recover := (byteAt bs 17).toNat }
  if 2 ≤ l.floor ∧ l.floor ≤ 30 ∧ 10 ≤ l.window ∧ l.window ≤ 100 ∧ 1 ≤ l.recover ∧ l.recover ≤ 15 then some l
  else none

/-- Zeros to the end of a 256-byte block. -/
def padBlock (bs : List Byte) : List Byte := bs ++ List.replicate (256 - bs.length) 0

/-- Block 2: for each post index one byte, the queue in bits 0 to 6 and the start level in bit 7. -/
def mapBytes (map : Vector Queue 240) (startOn : Vector Bool 240) : List Byte :=
  (List.finRange 240).map fun p => byte1 ((map.get p).val + if startOn.get p then 128 else 0)

/-- How many post indices a map assigns to a queue (R70). -/
def mapCount (map : Vector Queue 240) (q : Queue) : Nat :=
  (List.finRange 240).countP fun p => decide (map.get p = q)

/-- Block 2 read: queue numbers 0 to 8 and at most 40 posts on any queue (R70, R193). -/
def readMap (bs : List Byte) : Option (Vector Queue 240 × Vector Bool 240) :=
  let queueOf (p : Fin 240) : Nat := (byteAt bs p.val).toNat % 128
  if (List.finRange 240).all (fun p => decide (queueOf p ≤ 8)) then
    let map : Vector Queue 240 := buildVec 240 fun p => Fin.ofNat 9 (queueOf p)
    if (List.finRange 9).all (fun q => decide (mapCount map q ≤ Config.queuePosts)) then
      some (map, buildVec 240 fun p => decide (128 ≤ (byteAt bs p.val).toNat))
    else none
  else none

/-- Block 3: the capacities of F0 to F7, two bytes each. -/
def capacityBytes (c : Vector Nat 8) : List Byte := (List.finRange 8).flatMap fun i => beBytes 2 (c.get i)

/-- Block 3 read: capacities of 400 or less (R70, R193). -/
def readCapacities (bs : List Byte) : Option (Vector Nat 8) :=
  let c : Vector Nat 8 := buildVec 8 fun i => (word16At bs (2 * i.val)).toNat
  if (List.finRange 8).all (fun i => decide (c.get i ≤ 400)) then some c else none

/-- Block 4: for each class its severity and its action, one byte each. -/
def tableBytes (t : Vector TableEntry 16) : List Byte :=
  (List.finRange 16).flatMap fun i => [byte1 (t.get i).severity, byte1 (t.get i).action.code]

/-- Block 4 read: severities 1 to 3 and the four actions (R156). -/
def readTable (bs : List Byte) : Option (Vector TableEntry 16) :=
  let severityOf (i : Fin 16) : Nat := (byteAt bs (2 * i.val)).toNat
  let actionOf (i : Fin 16) : Option Action := Action.ofCode (byteAt bs (2 * i.val + 1)).toNat
  if (List.finRange 16).all (fun i => decide (1 ≤ severityOf i ∧ severityOf i ≤ 3) && (actionOf i).isSome) then
    some (buildVec 16 fun i => { severity := severityOf i, action := (actionOf i).getD .none })
  else none

/-- Block 5: Mdef in one byte, Hp in two. -/
def defaultsBytes (mdef hp : Nat) : List Byte := byte1 mdef :: beBytes 2 hp

/-- Block 5 read: Mdef 0 to 16 (R61) and Hp 60 to 3600 (R193). -/
def readDefaults (bs : List Byte) : Option (Nat × Nat) :=
  let mdef := (byteAt bs 0).toNat
  let hp := (word16At bs 1).toNat
  if mdef ≤ 16 ∧ 60 ≤ hp ∧ hp ≤ 3600 then some (mdef, hp) else none

/-! ## Profile blocks -/

/-- A profile's values after its present mark, in the order of 11.1. -/
def Profile.values (p : Profile) : List Byte :=
  bytes16 p.model ++ [byte1 p.load] ++ beBytes 2 p.fth ++ beBytes 4 p.minInterval ++ beBytes 4 p.maxInterval
    ++ signed16 p.termination ++ beBytes 2 p.maxDuration ++ beBytes 2 p.suspendLimit ++ beBytes 2 p.minCurrent
    ++ [if p.sender then 1 else 0]
    ++ ((List.finRange 9).flatMap fun i => beBytes 2 (p.curve.get i).1 ++ beBytes 2 (p.curve.get i).2)
    ++ beBytes 2 p.refuel ++ beBytes 2 p.tolerance ++ beBytes 2 p.engineBurn ++ beBytes 2 p.defrostBurn
    ++ beBytes 2 p.lowHours ++ beBytes 2 p.ajar ++ bytes16 p.mask

/-- A profile block: the present mark, then the values; all zeros where there is no profile, so that no factory value of
a profile stands anywhere (log entry 37). -/
def profileBytes : Option Profile → List Byte
  | none => [0]
  | some p => 1 :: p.values

/-- The values of a profile block as they stand in its bytes. -/
def rawProfile (bs : List Byte) : Profile :=
  let n2 (i : Nat) : Nat := (word16At bs i).toNat
  { model := word16At bs 1, load := (byteAt bs 3).toNat, fth := n2 4, minInterval := (word32At bs 6).toNat,
    maxInterval := (word32At bs 10).toNat, termination := (word16At bs 14).toInt, maxDuration := n2 16,
    suspendLimit := n2 18, minCurrent := n2 20, sender := decide ((byteAt bs 22).toNat = 1),
    curve := buildVec 9 fun i => (n2 (23 + 4 * i.val), n2 (25 + 4 * i.val)),
    refuel := n2 59, tolerance := n2 61, engineBurn := n2 63, defrostBurn := n2 65, lowHours := n2 67,
    ajar := n2 69, mask := word16At bs 71 }

/-- The curve's condition: raw points 0 to 1023 strictly ascending, litres 0 to 9999 non-decreasing (R118, R129). -/
def Profile.curveOk (p : Profile) : Bool :=
  (List.finRange 9).all (fun i => decide ((p.curve.get i).1 ≤ 1023 ∧ (p.curve.get i).2 ≤ 9999)) &&
  (List.finRange 8).all (fun i =>
    decide ((p.curve.get i.castSucc).1 < (p.curve.get i.succ).1 ∧ (p.curve.get i.castSucc).2 ≤ (p.curve.get i.succ).2))

/-- Every range of a profile (R68, R70, R95, R129, R141; 4.1, 5.2, 6.1). -/
def Profile.ok (p : Profile) : Bool :=
  decide (1 ≤ p.load ∧ p.load ≤ 40) && decide (1000 ≤ p.fth ∧ p.fth ≤ 65535) && decide (p.minInterval ≤ 43200) &&
  decide (3600 ≤ p.maxInterval ∧ p.maxInterval ≤ 172800) && decide (p.minInterval < p.maxInterval) &&
  decide (50 ≤ p.termination ∧ p.termination ≤ 250) && decide (600 ≤ p.maxDuration ∧ p.maxDuration ≤ 5400) &&
  decide (60 ≤ p.suspendLimit ∧ p.suspendLimit ≤ 900) && decide (p.minCurrent ≤ 500) && p.curveOk &&
  decide (50 ≤ p.refuel ∧ p.refuel ≤ 2000) && decide (5 ≤ p.tolerance ∧ p.tolerance ≤ 500) &&
  decide (p.engineBurn ≤ 999) && decide (p.defrostBurn ≤ 999) && decide (10 ≤ p.lowHours ∧ p.lowHours ≤ 720) &&
  decide (60 ≤ p.ajar ∧ p.ajar ≤ 7200)

/-- A profile block read: no profile where the present mark is clear, the profile where its values lie in their ranges,
and no reading otherwise (R193). -/
def readProfile (bs : List Byte) : Option (Option Profile) :=
  match (byteAt bs 0).toNat with
  | 0 => some none
  | 1 => if (byteAt bs 22).toNat ≤ 1 ∧ (rawProfile bs).ok then some (some (rawProfile bs)) else none
  | _ => none

/-! ## Content of a block -/

/-- What blocks 1 to 37 hold (11.1). -/
inductive BlockContent where
  | lines (a b : LineSettings)
  | postMap (map : Vector Queue 240) (startOn : Vector Bool 240)
  | capacities (c : Vector Nat 8)
  | findingTable (t : Vector TableEntry 16)
  | defaults (mdef hp : Nat)
  | profile (id : ProfileId) (p : Option Profile)
  deriving DecidableEq, Repr

/-- The content of block `b`, 1 to 37, where its bytes are within their ranges; the comparison of model codes between
profiles is made by `YardConfig.admits`. -/
def readBlock (b : Nat) (bs : List Byte) : Option BlockContent :=
  if b = 1 then
    match readLine bs, readLine (bs.drop 18) with
    | some la, some lb => some (.lines la lb)
    | _, _ => none
  else if b = 2 then (readMap bs).map fun m => .postMap m.1 m.2
  else if b = 3 then (readCapacities bs).map .capacities
  else if b = 4 then (readTable bs).map .findingTable
  else if b = 5 then (readDefaults bs).map fun d => .defaults d.1 d.2
  else if 6 ≤ b ∧ b ≤ 37 then (readProfile bs).map (.profile (Fin.ofNat 32 (b - 6)))
  else none

/-- The bytes of a block's content, 256 of them. -/
def BlockContent.bytes : BlockContent → List Byte
  | .lines a b => padBlock (a.bytes ++ b.bytes)
  | .postMap m s => padBlock (mapBytes m s)
  | .capacities c => padBlock (capacityBytes c)
  | .findingTable t => padBlock (tableBytes t)
  | .defaults m h => padBlock (defaultsBytes m h)
  | .profile _ p => padBlock (profileBytes p)

/-- The configuration with one block's content in force. -/
def YardConfig.put (c : YardConfig) : BlockContent → YardConfig
  | .lines a b => { c with lineA := a, lineB := b }
  | .postMap m s => { c with map := m, startOn := s }
  | .capacities k => { c with capacity := k }
  | .findingTable t => { c with table := t }
  | .defaults m h => { c with mdef := m, hp := h }
  | .profile i p => { c with profiles := c.profiles.set i.val p i.isLt }

/-- A profile whose model code is not 0 carries no other valid profile's model code (R193); other content is free of
this check. -/
def YardConfig.admits (c : YardConfig) : BlockContent → Bool
  | .profile i (some p) =>
    decide (p.model = 0) ||
    (List.finRange 32).all fun j =>
      decide (j = i) || match c.profiles.get j with | some q => decide (q.model ≠ p.model) | none => true
  | .lines _ _ | .postMap _ _ | .capacities _ | .findingTable _ | .defaults _ _ | .profile _ none => true

/-! ## Factory content (1.1, 4.1, 8.3, R61, R165, R191) -/

/-- The line defaults of 1.1: no installed address. -/
def factoryLine : LineSettings := { installed := 0, floor := 5, window := 30, recover := 3 }

/-- Post index i to feeder F(floor(i/30)) (4.1). -/
def factoryMap : Vector Queue 240 := buildVec 240 fun p => Fin.ofNat 9 (p.val / 30)

/-- Every start level ON (9.1). -/
def factoryStart : Vector Bool 240 := Vector.replicate 240 true

/-- Every capacity 0 (4.1). -/
def factoryCapacity : Vector Nat 8 := Vector.replicate 8 0

/-- The factory entry of a class (8.3). -/
def factoryEntry : FindingClass → TableEntry
  | .linkLost => ⟨2, .none⟩ | .outputMismatch => ⟨2, .beacon⟩ | .unknownModel => ⟨1, .none⟩
  | .duplicateUnit => ⟨2, .beacon⟩ | .recordRebuilt => ⟨2, .none⟩ | .sensor => ⟨2, .none⟩
  | .defrostStartFailed => ⟨2, .none⟩ | .defrostAborted => ⟨2, .none⟩ | .heaterWeak => ⟨1, .none⟩
  | .unitStuckDefrost => ⟨3, .inhibitDefrost⟩ | .fuelLoss => ⟨3, .beacon⟩ | .lowFuel => ⟨2, .none⟩
  | .senderFault => ⟨1, .none⟩ | .doorAjar => ⟨2, .beacon⟩ | .doorSensor => ⟨1, .none⟩ | .custodyBreak => ⟨3, .beacon⟩

/-- The factory finding table (8.3). -/
def factoryTable : Vector TableEntry 16 :=
  buildVec 16 fun i => factoryEntry ((FindingClass.ofNum i.val).getD .linkLost)

/-- The factory configuration. -/
def YardConfig.factory : YardConfig :=
  { lineA := factoryLine, lineB := factoryLine, map := factoryMap, startOn := factoryStart,
    capacity := factoryCapacity, table := factoryTable, mdef := 10, hp := 900, profiles := Vector.replicate 32 none }

/-- The content of block `b` in a configuration. -/
def YardConfig.block (c : YardConfig) (b : Nat) : BlockContent :=
  if b = 1 then .lines c.lineA c.lineB
  else if b = 2 then .postMap c.map c.startOn
  else if b = 3 then .capacities c.capacity
  else if b = 4 then .findingTable c.table
  else if b = 5 then .defaults c.mdef c.hp
  else .profile (Fin.ofNat 32 (b - 6)) (c.profiles.get (Fin.ofNat 32 (b - 6)))

end Sys2Proof.Machine
end

