-- ==== Sys2Proof/Machine/State.lean ====
section
/-! DEFINITION. The state of the WY-240: everything the manual gives the module, with the queue of commands that wait,
and the machine right after a cold start from factory content (log entry 9). -/

namespace Sys2Proof.Machine

/-- Faults. The manual gives the module no event at which it stops: what goes wrong in the yard is a finding, what goes
wrong on the host line is a reply status or a count, and mains loss and table faults begin a restart. So no command
raises a fault (log entry 32). -/
inductive Fault where
  deriving DecidableEq, Repr

/-- Refusals. -/
inductive Refusal where
  /-- Raised by `exec`'s arm of a command that has no meaning in the model yet, named as the table names it. Safe: the
  model stops where the module goes on. No arm raises it now. -/
  | notModelled (mnemonic : String)
  deriving DecidableEq, Repr

/-- The state of the module. -/
structure State where
  /-- The run counter in whole seconds (00_scope, "Time"). -/
  runCounter : Nat
  /-- The yard clock minus the run counter (R199). -/
  yardOffset : Int
  clockInvalid : Bool
  keySwitch : KeySwitch
  rateSwitch : LineRate
  /-- The rate in force since the last start (R176). -/
  rate : LineRate
  /-- The mains monitor: whether it reports mains (R195). -/
  mainsPresent : Bool
  /-- The 102 blocks of the settings store (11.1). -/
  store : Vector StoreBlock 102
  /-- Blocks found invalid at the last start, ascending (R191). -/
  invalidBlocks : List Nat
  /-- Blocks taken as factory content or as no profile now (R191, R192). -/
  asFactory : List Nat
  /-- The store write in flight (R193). -/
  write : Option StoreWrite
  /-- The content in force of blocks 1 to 37. -/
  config : YardConfig
  phase : Phase
  restartRecord : RestartRecord
  /-- The reasons of the last start (R198). -/
  startPrimary : Reason
  startSecondary : Option Reason
  /-- The flush number of the image read at the last start (R196). -/
  imageNumber : Option Nat
  /-- Restart causes handed to Hold-Up Control and not yet taken (R29, R198). -/
  heldCauses : List Reason
  lineA : LineController
  lineB : LineController
  /-- The post state table: an entry for each installed address (1.4). -/
  posts : Vector (Option PostEntry) 240
  /-- The output state of each installed address (9.1). -/
  outputs : Vector (Option OutputState) 240
  /-- The trailer table (2.1). -/
  records : Vector TrailerRecord 240
  /-- The unit directory (2.2). -/
  directory : List (Word32 × Post)
  /-- The rebuild history, newest last (R29). -/
  rebuilds : List Time
  weather : Weather
  /-- The queues of the Feeder Arbiter (4.2). -/
  queues : Vector (List Request) 9
  /-- The committed load of each queue (R71). -/
  committed : Vector Nat 9
  /-- The actions in force for each record (R152). -/
  actions : Vector ActionsInForce 240
  /-- The exception stack, top first (8.4). -/
  stack : List ExceptionFrame
  nextPush : Nat
  rx : RxState
  discardedFrames : Nat
  overruns : Nat
  /-- The holding place (R179). -/
  held : Option HostFrame
  /-- The reply queue, oldest first (R182). -/
  replies : List Reply
  /-- The frame the transmitter is sending, if it is not idle (R184). -/
  tx : Option TxFrame
  /-- The open gather stations in the order they were opened (R186). -/
  stations : List Station
  /-- The notice transmit queue, oldest first (R188). -/
  notices : List Notice
  noticesLost : Bool
  /-- The model's own: how many free bytes have been drawn (log entry 31). -/
  freeCount : Nat
  /-- The model's own: the commands that wait, first in, first out. -/
  pending : List Instr
  deriving DecidableEq, Repr

/-- The vacant values of the fuel fields (R115). -/
def FuelAccount.start : FuelAccount :=
  { started := false, lf16 := 0, lastLevel := none, invalidCount := 0, refuelPending := false, window := none,
    bs := none, hours := 9999 }

/-- The vacant values of the door fields (R133). -/
def DoorGroup.vacant : DoorGroup :=
  { held := none, unknownCount := 0, openingTime := none, ajarReported := false, history := 0, pn := none }

/-- The vacant values (R23). -/
def TrailerRecord.vacant : TrailerRecord :=
  { state := .vacant, serial := 0, model := 0, profile := none, arrival := none, lastStatus := none, lastEval := none,
    unitAbsent := 0, tr := none, tc := none, trInvalid := 0, tcInvalid := 0, f := 0, r := 0, lastDefrostEnd := none,
    door := .vacant, custody := .none, fuel := .start, inhibit := false, deferral := none, run := none, active := [],
    noted := [], mask := 0xFFFF, checkError := 0 }

/-- No action in force. -/
def ActionsInForce.none : ActionsInForce := { beacon := Option.none, inhibit := Option.none, cut := Option.none }

/-- A line with no round and its fields at their start values (R18). -/
def LineController.start (state : LineState) (settings : LineSettings) : LineController :=
  { state := state, misses := 0, goodRounds := 0, silentRounds := 0, sinceUp := none, settings := settings,
    lastStart := none, round := none }

/-- An erased image block (10.6). -/
def erasedBlock : StoreBlock := { bytes := List.replicate 256 0xFF, mark := true }

/-- The store as it leaves the factory: block 0 zeros (log entry 10), blocks 1 to 37 valid factory content (R191),
the image area erased. -/
def factoryStore : Vector StoreBlock 102 :=
  buildVec 102 fun b =>
    if b.val = 0 then { bytes := List.replicate 256 0, mark := true }
    else if b.val < Config.firstImage then { bytes := (YardConfig.factory.block b.val).bytes, mark := true }
    else erasedBlock

/-- The module right after a cold start at its first power-on (R18, R23, R42, R58, R71, R74, R157, R165, R177 to R179,
R186, R188, R198; log entry 9 for the switches, the monitor and the clock). -/
def State.reset : State where
  runCounter := 0
  yardOffset := 0
  clockInvalid := false
  keySwitch := .run
  rateSwitch := .r19200
  rate := .r19200
  mainsPresent := true
  store := factoryStore
  invalidBlocks := []
  asFactory := []
  write := none
  config := YardConfig.factory
  phase := .running
  restartRecord := { primary := none, secondary := none }
  startPrimary := .powerOn
  startSecondary := none
  imageNumber := none
  heldCauses := []
  lineA := .start .off factoryLine
  lineB := .start .off factoryLine
  posts := Vector.replicate 240 none
  outputs := Vector.replicate 240 none
  records := Vector.replicate 240 .vacant
  directory := []
  rebuilds := []
  weather := { rh := 0, ta := 0, receipt := none }
  queues := Vector.replicate 9 []
  committed := Vector.replicate 9 0
  actions := Vector.replicate 240 .none
  stack := []
  nextPush := 1
  rx := .hunting
  discardedFrames := 0
  overruns := 0
  held := none
  replies := []
  tx := none
  stations := []
  notices := []
  noticesLost := false
  freeCount := 0
  pending := []

end Sys2Proof.Machine
end

