-- ==== Sys2Proof/Machine/Ops.lean ====
section
/-! DEFINITION. The operations over State that every block shares: reading and writing records, posts, outputs and line
controllers; posts, lines and addresses; notice items, gather stations and the notice transmit queue (R185 to R188); the
reply queue and the transmitter (R179 to R184); restart causes handed to Hold-Up Control. -/

namespace Sys2Proof.Machine

/-! ## Clock and phase -/

/-- The run counter as a time. -/
def State.now (s : State) : Time := (s.runCounter : Int)

/-- The yard clock: the run counter plus the offset (00_scope, "Time"). -/
def State.yardNow (s : State) : Time := s.now + s.yardOffset

/-- The yard-clock time of a run-counter time. -/
def State.yardTime (s : State) (t : Time) : Time := t + s.yardOffset

/-- Whether a restart is pending (R195). -/
def Phase.restartPending : Phase → Bool
  | .flushWaiting | .flushing _ _ | .awaitingMains => true
  | .running | .starting _ | .off => false

/-- Whether the blocks of the module act: neither a restart, nor a start, nor power off. -/
def State.running (s : State) : Bool := decide (s.phase = .running)

/-- Whether the host line is served: from the end of a start to the next start or power off (R180, R188). -/
def State.hostServed (s : State) : Bool := s.running || s.phase.restartPending

/-! ## Posts, lines and addresses (00_scope, "Posts and addresses") -/

/-- The line of a post. -/
def postLine (p : Post) : Line := if p.val < 120 then .a else .b

/-- The address index of a post on its line: the address minus 1. -/
def addressIndex (p : Post) : Fin 120 := Fin.ofNat 120 (p.val % 120)

/-- The address of a post on its line, 1 to 120. -/
def postAddress (p : Post) : Nat := p.val % 120 + 1

/-- The post of an address index on a line. -/
def postAt (l : Line) (i : Fin 120) : Post :=
  match l with
  | .a => Fin.ofNat 240 i.val
  | .b => Fin.ofNat 240 (120 + i.val)

/-- The posts of a line in ascending address order. -/
def postsOn (l : Line) : List Post := (List.finRange 120).map (postAt l)

/-- Every post index in ascending order. -/
def allPosts : List Post := List.finRange 240

/-- The post a request's byte names, if it is not above 239. -/
def postOf (b : Byte) : Option Post := if h : b.toNat < 240 then some ⟨b.toNat, h⟩ else none

/-- The posts that an installed-address set declares on a line, ascending (R3). -/
def installedPosts (l : Line) (set : BitVec 120) : List Post :=
  ((List.finRange 120).filter fun i => set.getLsbD i.val).map (postAt l)

/-! ## Reading and writing the parts of State -/

/-- The trailer record of a post. -/
def State.trailer (s : State) (p : Post) : TrailerRecord := s.records.get p

/-- A record with its check code recomputed (R27). -/
def TrailerRecord.sealed (r : TrailerRecord) : TrailerRecord := { r with checkError := 0 }

/-- Whether a record's check code verifies (R27). -/
def TrailerRecord.verifies (r : TrailerRecord) : Bool := decide (r.checkError = 0)

/-- Whether a record differs from another in any field beside the check code. -/
def TrailerRecord.differs (r old : TrailerRecord) : Bool := decide (r.sealed ≠ old.sealed)

/-- A record given whole (vacant, fresh, carried, rebuilt or restored values), its check code computed (R27). -/
def State.putTrailer (s : State) (p : Post) (r : TrailerRecord) : State :=
  { s with records := s.records.set p.val r.sealed p.isLt }

/-- Change fields of a record: its check code is recomputed where that changes the record, and kept where the fields
already stand so (R27; log entry 33). -/
def State.editTrailer (s : State) (p : Post) (f : TrailerRecord → TrailerRecord) : State :=
  if (s.trailer p).verifies || (f (s.trailer p)).differs (s.trailer p) then s.putTrailer p (f (s.trailer p)) else s

/-- The line controller of a line. -/
def State.line (s : State) (l : Line) : LineController :=
  match l with
  | .a => s.lineA
  | .b => s.lineB

/-- Write a line controller. -/
def State.putLine (s : State) (l : Line) (c : LineController) : State :=
  match l with
  | .a => { s with lineA := c }
  | .b => { s with lineB := c }

/-- The post state table entry of a post, absent where the address is not installed. -/
def State.entry (s : State) (p : Post) : Option PostEntry := s.posts.get p

def State.putEntry (s : State) (p : Post) (e : Option PostEntry) : State :=
  { s with posts := s.posts.set p.val e p.isLt }

/-- The output state of a post, absent where the address is not installed. -/
def State.output (s : State) (p : Post) : Option OutputState := s.outputs.get p

def State.putOutput (s : State) (p : Post) (o : Option OutputState) : State :=
  { s with outputs := s.outputs.set p.val o p.isLt }

/-- The actions in force for a record. -/
def State.inForce (s : State) (p : Post) : ActionsInForce := s.actions.get p

def State.putInForce (s : State) (p : Post) (a : ActionsInForce) : State :=
  { s with actions := s.actions.set p.val a p.isLt }

/-- The queue of the Feeder Arbiter. -/
def State.queue (s : State) (q : Queue) : List Request := s.queues.get q

def State.putQueue (s : State) (q : Queue) (rs : List Request) : State :=
  { s with queues := s.queues.set q.val rs q.isLt }

/-- The committed load of a queue. -/
def State.load (s : State) (q : Queue) : Nat := s.committed.get q

def State.putLoad (s : State) (q : Queue) (n : Nat) : State :=
  { s with committed := s.committed.set q.val n q.isLt }

/-- The run of a post's record. -/
def State.run (s : State) (p : Post) : Option RunRecord := (s.trailer p).run

/-- Write a record's run. -/
def State.putRun (s : State) (p : Post) (r : Option RunRecord) : State :=
  s.editTrailer p fun t => { t with run := r }

/-- The profile a record is bound to, where its id names a profile held valid. -/
def State.profileOf (s : State) (t : TrailerRecord) : Option Profile := t.profile.bind fun i => s.config.profiles.get i

/-- The configured settings of a line. -/
def State.lineConfig (s : State) (l : Line) : LineSettings :=
  match l with
  | .a => s.config.lineA
  | .b => s.config.lineB

/-- Whether a post's line is UP. -/
def State.lineUp (s : State) (p : Post) : Bool := decide ((s.line (postLine p)).state = .up)

/-- The block of the store with a number. -/
def State.block (s : State) (b : Fin 102) : StoreBlock := s.store.get b

def State.putBlock (s : State) (b : Fin 102) (k : StoreBlock) : State :=
  { s with store := s.store.set b.val k b.isLt }

/-! ## Notices (10.4) -/

/-- Whether the transmitter is idle with no frame waiting for it (R184). -/
def State.txFree (s : State) : Bool := s.tx.isNone && s.replies.isEmpty && s.notices.isEmpty

/-- Offer a notice to the transmit queue (R188). An idle transmitter begins it as it joins, so that it takes no place in
the queue (R184); else it waits, and the queue's 24 places bound how many wait. -/
def State.offerNotice (s : State) (n : Notice) : State :=
  if s.txFree then { s with tx := some (.notice n) }
  else if s.notices.length < Config.noticePlaces then { s with notices := s.notices ++ [n] }
  else { s with noticesLost := true }

/-- The open station of a post (R186: at most one). -/
def State.stationOf (s : State) (p : Post) : Option Station := s.stations.find? fun st => decide (st.post = p)

/-- Flush the station of a post: one notice with its items in order, and the station is free (R187). -/
def State.flushStation (s : State) (p : Post) : State :=
  match s.stationOf p with
  | none => s
  | some st =>
    ({ s with stations := s.stations.filter fun x => decide (x.post ≠ p) }).offerNotice
      { post := st.post, items := st.items }

/-- The station with the earliest open time, the first opened among equals (R186). -/
def earliestStation : List Station → Option Station
  | [] => none
  | st :: rest =>
    match earliestStation rest with
    | none => some st
    | some e => if e.opened < st.opened then some e else some st

/-- The item joins its post's station, opening one where none is open and flushing the earliest where none is free
(R186). -/
def State.placeItem (s : State) (p : Post) (i : NoticeItem) : State :=
  match s.stationOf p with
  | some _ =>
    { s with
      stations := s.stations.map fun st => if st.post = p then { st with items := st.items ++ [i] } else st }
  | none =>
    let room : State :=
      if s.stations.length < Config.stationCount then s
      else match earliestStation s.stations with
        | some e => s.flushStation e.post
        | none => s
    { room with stations := room.stations ++ [{ post := p, opened := s.now, items := [i] }] }

/-- Items that flush their station as they join it (R187). -/
def ItemBody.flushes : ItemBody → Bool
  | .findingRaised _ _ _ _ _ | .departed _ => true
  | .arrived _ _ | .enrolled _ | .moved _ _ | .defrostStarted _ _ _ _ | .defrostEnded _ _ _ _ _ | .refuel _ _
  | .findingNoted _ _ _ _ | .findingCleared _ _ | .custodyChanged _ => false

/-- Produce a notice item for a post: it is placed, and the flush triggers are tested for its station (R185 to R187). -/
def State.item (s : State) (p : Post) (b : ItemBody) : State :=
  let placed := s.placeItem p { yardTime := s.yardNow, body := b }
  match placed.stationOf p with
  | none => placed
  | some st => if b.flushes || decide (Config.stationItems ≤ st.items.length) then placed.flushStation p else placed

/-- Flush every open station in order of open time (R188): `n` is how many are open. -/
def State.flushAll : Nat → State → State
  | 0, s => s
  | n + 1, s =>
    match earliestStation s.stations with
    | none => s
    | some e => State.flushAll n (s.flushStation e.post)

/-! ## Replies and the transmitter (10.2, R184) -/

/-- A reply joins the reply queue as it is formed (R182). The transmitter begins it at the end of the command at the
latest (`State.done`); a notice that the same command forms after it finds it waiting and does not pass it (log entry
5). -/
def State.formReply (s : State) (r : Reply) : State := { s with replies := s.replies ++ [r] }

/-- Whether the reply queue has a place neither filled nor reserved for the write in flight (R179). -/
def State.replyRoom (s : State) : Bool :=
  decide (s.replies.length + (if s.write.isSome then 1 else 0) < Config.replyPlaces)

/-- The transmitter, when idle, begins the oldest reply, or else the oldest notice (R184). Every command ends with it;
a notice that joins within a command is begun by `State.offerNotice` (log entry 5). -/
def State.pumpTx (s : State) : State :=
  match s.tx with
  | some _ => s
  | none =>
    match s.replies with
    | r :: rest => { s with tx := some (.reply r), replies := rest }
    | [] =>
      match s.notices with
      | n :: rest => { s with tx := some (.notice n), notices := rest }
      | [] => s

/-- The end of every command: the transmitter looks for a frame to send. -/
def State.done (s : State) : Host.Outcome State Fault Refusal := .next s.pumpTx

/-! ## Restart causes -/

/-- Hand a restart cause to Hold-Up Control (R29, R195); `State.settleCauses` takes it. -/
def State.handCause (s : State) (r : Reason) : State := { s with heldCauses := s.heldCauses ++ [r] }

/-- Record a rebuild (R29): the time joins the history of at most four, and a fourth within 3600 s hands a TABLE-FAULT
cause. -/
def State.recordRebuild (s : State) : State :=
  let kept := if 4 ≤ s.rebuilds.length then s.rebuilds.drop 1 else s.rebuilds
  let s1 : State := { s with rebuilds := kept ++ [s.now] }
  match s1.rebuilds with
  | [oldest, _, _, newest] => if newest - oldest ≤ 3600 then s1.handCause .tableFault else s1
  | _ => s1

/-- Apply an operation for each of a list's members in order. -/
def State.forEach {α : Type} (s : State) (l : List α) (f : State → α → State) : State := l.foldl f s

end Sys2Proof.Machine
end

