-- ==== Sys2Proof/Machine/Findings.lean ====
section
/-! DEFINITION. The Finding Unit (chapter 8) up to the effect of an action on a trailer's request and run: the sets, the
exception stack, noting and raising, and the actions in force. `Actions.lean` adds the effects on requests and runs. -/

namespace Sys2Proof.Machine

/-- The finding table's entry for a class (8.3). -/
def State.tableEntry (s : State) (c : FindingClass) : TableEntry := s.config.table.get (Fin.ofNat 16 c.num)

/-- A class of the active set (8.1). -/
def TrailerRecord.activeOf (t : TrailerRecord) (c : FindingClass) : Option ActiveFinding :=
  t.active.find? fun a => decide (a.cls = c)

/-- A class of the note set (8.1). -/
def TrailerRecord.notedOf (t : TrailerRecord) (c : FindingClass) : Option NotedFinding :=
  t.noted.find? fun a => decide (a.cls = c)

/-- A class stands when it is in the active set or in the note set (8.1). -/
def TrailerRecord.stands (t : TrailerRecord) (c : FindingClass) : Bool := (t.activeOf c).isSome || (t.notedOf c).isSome

/-- The detail held with a standing class (R147). -/
def TrailerRecord.detailOf (t : TrailerRecord) (c : FindingClass) : Option Nat :=
  match t.activeOf c with
  | some a => some a.detail
  | none => (t.notedOf c).map (·.detail)

/-- A class joins the active set, kept in class order. -/
def joinActive (a : ActiveFinding) : List ActiveFinding → List ActiveFinding
  | [] => [a]
  | x :: xs => if a.cls.num < x.cls.num then a :: x :: xs else x :: joinActive a xs

/-- A class joins the note set, kept in class order. -/
def joinNoted (a : NotedFinding) : List NotedFinding → List NotedFinding
  | [] => [a]
  | x :: xs => if a.cls.num < x.cls.num then a :: x :: xs else x :: joinNoted a xs

/-- A class as a set of bits, class n at bit n (R189). -/
def activeMask (l : List ActiveFinding) : Nat := l.foldl (fun m a => m ||| (1 <<< a.cls.num)) 0

def notedMask (l : List NotedFinding) : Nat := l.foldl (fun m a => m ||| (1 <<< a.cls.num)) 0

/-- The mask as the record holds it: the entry for class 15 reads as set (R148). -/
def heldMask (m : Word16) : Word16 := m ||| 0x8000

/-! ## The exception stack (8.4) -/

/-- The bottom frame gains the truncated mark (R158). -/
def markBottom : List ExceptionFrame → List ExceptionFrame
  | [] => []
  | [f] => [{ f with truncated := true }]
  | f :: g :: rest => f :: markBottom (g :: rest)

/-- The stack after a push, discarding the bottom frame of a full stack (R157, R158). -/
def pushOnto (stack : List ExceptionFrame) (f : ExceptionFrame) : List ExceptionFrame :=
  if stack.length < Config.stackFrames then f :: stack
  else markBottom (f :: stack.take (Config.stackFrames - 1))

/-- The push number after one has been drawn (R157). -/
def nextPushNumber (n : Nat) : Nat := if n = 65535 then 1 else n + 1

/-- Draw the next push number and push a frame (R150, R157, R158). -/
def State.pushFrame (s : State) (p : Post) (c : FindingClass) (detail cause : Nat) : State :=
  { s with
    stack := pushOnto s.stack
      { push := s.nextPush, cls := c, post := p, yardTime := s.yardNow, detail := detail, cause := cause,
        truncated := false }
    nextPush := nextPushNumber s.nextPush }

/-! ## Actions in force (R152) -/

/-- The cause an action is in force with, absent when it is not in force. -/
def ActionsInForce.of (a : ActionsInForce) : Action → Option Nat
  | .none => Option.none
  | .beacon => a.beacon
  | .inhibitDefrost => a.inhibit
  | .cutHeater => a.cut

/-- Set whether an action is in force. -/
def ActionsInForce.put (a : ActionsInForce) (x : Action) (v : Option Nat) : ActionsInForce :=
  match x with
  | .none => a
  | .beacon => { a with beacon := v }
  | .inhibitDefrost => { a with inhibit := v }
  | .cutHeater => { a with cut := v }

/-- Whether an action is in force for a post's record. -/
def State.actionInForce (s : State) (p : Post) (a : Action) : Bool := ((s.inForce p).of a).isSome

/-- When BEACON comes into force the post's next toggle level becomes ON (R170). -/
def State.lightBeacon (s : State) (p : Post) : State :=
  match s.output p with
  | none => s
  | some o => s.putOutput p (some { o with nextToggle := true })

/-- An action is in force from now with a cause; BEACON is handed to Output Control (R152, R153). Effects on requests
and runs are `Actions.lean`'s. -/
def State.activate (s : State) (p : Post) (a : Action) (cause : Nat) : State :=
  if a = .none ∨ s.actionInForce p a then s
  else
    let s1 := s.putInForce p ((s.inForce p).put a (some cause))
    if a = .beacon then s1.lightBeacon p else s1

/-! ## Producing a finding (8.2) -/

/-- A noted finding (R149). Its item carries cause 0 whatever cause it was produced with, as R110 has it (log entry 44). -/
def State.noteFinding (s : State) (p : Post) (c : FindingClass) (detail : Nat) : State :=
  (s.editTrailer p fun t => { t with noted := joinNoted { cls := c, detail := detail } t.noted }).item p
    (.findingNoted c (s.tableEntry c).severity detail 0)

/-- A raised finding (R150), `apply` applying its action. -/
def State.raiseFinding (apply : State → Post → Action → Nat → State) (s : State) (p : Post) (c : FindingClass)
    (detail cause : Nat) : State :=
  let pushed := s.pushFrame p c detail cause
  let joined := pushed.editTrailer p fun t =>
    { t with active := joinActive { cls := c, detail := detail, push := some s.nextPush } t.active }
  (apply joined p (s.tableEntry c).action s.nextPush).item p
    (.findingRaised c (s.tableEntry c).severity detail s.nextPush cause)

/-- Produce a finding (R147): dropped when its class stands or a restart has begun, noted or raised by the raise mask.
The answer's second part is the push number drawn, absent when no frame was pushed. -/
def State.produceWith (apply : State → Post → Action → Nat → State) (s : State) (p : Post) (c : FindingClass)
    (detail cause : Nat) : State × Option Nat :=
  if !s.running || (s.trailer p).stands c then (s, none)
  else if (s.trailer p).mask.getLsbD c.num || decide (c = .custodyBreak) then
    (s.raiseFinding apply p c detail cause, some s.nextPush)
  else (s.noteFinding p c detail, none)

/-- Produce a finding of a run that is ENDING: its action finds no request and changes no run (R90, R100, R107), so only
the action itself comes into force. -/
def State.produceEnding (s : State) (p : Post) (c : FindingClass) (detail cause : Nat) : State × Option Nat :=
  s.produceWith State.activate p c detail cause

end Sys2Proof.Machine
end

