-- ==== Sys2Proof/Machine/Runs.lean ====
section
/-! DEFINITION. Defrost Run Control (chapter 5): suspension and resumption, the entry to ENDING with its findings and
deferral, and the creation of a run. The end of a run walks a queue and stands in `Arbiter.lean`. -/

namespace Sys2Proof.Machine

/-- Seconds from one time to a later one. -/
def secondsBetween (earlier later : Time) : Nat := (later - earlier).toNat

/-- The heating time with a segment in progress counted (R97). -/
def RunRecord.heatingAt (r : RunRecord) (now : Time) : Nat :=
  match r.state with
  | .heating start => r.heatingTime + secondsBetween start now
  | .commanded | .suspended _ _ _ | .ending _ _ _ => r.heatingTime

/-- The suspended time with a suspension in progress counted (R104). -/
def RunRecord.suspendedAt (r : RunRecord) (now : Time) : Nat :=
  match r.state with
  | .suspended start _ _ => r.suspendedTime + secondsBetween start now
  | .commanded | .heating _ | .ending _ _ _ => r.suspendedTime

/-- The run as it leaves its state: the heating segment or the suspension in progress is added (R97, R103, R105). -/
def RunRecord.closed (r : RunRecord) (now : Time) : RunRecord :=
  { r with heatingTime := r.heatingAt now, suspendedTime := r.suspendedAt now }

/-- The outcome of an ENDING run. -/
def RunRecord.outcome (r : RunRecord) : Option RunOutcome :=
  match r.state with
  | .ending _ o _ => some o
  | .commanded | .heating _ | .suspended _ _ _ => none

/-- Whether a run is ENDING. -/
def RunRecord.isEnding (r : RunRecord) : Bool := r.outcome.isSome

/-- Whether a run is HEATING. -/
def RunRecord.isHeating (r : RunRecord) : Bool :=
  match r.state with
  | .heating _ => true
  | .commanded | .suspended _ _ _ | .ending _ _ _ => false

/-- Whether the start timer of a run still counts: COMMANDED, or SUSPENDED from COMMANDED (R96). -/
def RunRecord.startTimerRuns (r : RunRecord) : Bool :=
  match r.state with
  | .commanded | .suspended _ .commanded _ => true
  | .suspended _ .heating _ | .heating _ | .ending _ _ _ => false

/-- The causes of a suspension in progress. -/
def RunRecord.causes (r : RunRecord) : List CauseEntry :=
  match r.state with
  | .suspended _ _ cs => cs
  | .commanded | .heating _ | .ending _ _ _ => []

/-! ## Suspension (5.5) -/

/-- A run takes a cause that joins (R100, R101): COMMANDED and HEATING enter SUSPENDED, SUSPENDED adds the cause, ENDING
is not changed. The link is set at the abort that follows, not here (R110, log entry 46). -/
def RunRecord.join (r : RunRecord) (now : Time) (c : SuspCause) (push : Nat) : RunRecord :=
  let e : CauseEntry := { cause := c, joined := now, push := push }
  match r.state with
  | .commanded => { r with state := .suspended now .commanded [e] }
  | .heating _ => { r.closed now with state := .suspended now .heating [e] }
  | .suspended start prior cs =>
    if cs.any (fun x => decide (x.cause = c)) then r else { r with state := .suspended start prior (cs ++ [e]) }
  | .ending _ _ _ => r

/-- A run whose last cause has left resumes to its prior state (R103). -/
def RunRecord.resume (r : RunRecord) (now : Time) (prior : PriorState) : RunRecord :=
  match prior with
  | .commanded => { r.closed now with state := .commanded }
  | .heating => { r.closed now with state := .heating now, heatCount := 0 }

/-- A run takes a cause that leaves (R100, R103). -/
def RunRecord.leave (r : RunRecord) (now : Time) (c : SuspCause) : RunRecord :=
  match r.state with
  | .suspended start prior cs =>
    if cs.any (fun x => decide (x.cause = c)) then
      match cs.filter (fun x => decide (x.cause ≠ c)) with
      | [] => r.resume now prior
      | x :: xs => { r with state := .suspended start prior (x :: xs) }
    else r
  | .commanded | .heating _ | .ending _ _ _ => r

/-- A suspension cause joins the run of a post, if it has one. -/
def State.causeJoins (s : State) (p : Post) (c : SuspCause) (push : Nat) : State :=
  match s.run p with
  | none => s
  | some r => s.putRun p (some (r.join s.now c push))

/-- A suspension cause leaves the run of a post, if it has one. -/
def State.causeLeaves (s : State) (p : Post) (c : SuspCause) : State :=
  match s.run p with
  | none => s
  | some r => s.putRun p (some (r.leave s.now c))

/-! ## The limits of a suspension (R104) -/

/-- Whether a suspension has reached the suspend limit, or the run twice the limit in all (R104). -/
def RunRecord.suspensionSpent (r : RunRecord) (now : Time) : Bool :=
  match r.state with
  | .suspended start _ _ =>
    decide (r.limits.suspendLimit ≤ secondsBetween start now) ||
    decide (2 * r.limits.suspendLimit ≤ r.suspendedAt now)
  | .commanded | .heating _ | .ending _ _ _ => false

/-- The cause in force longest; of causes that joined at one moment the first in the order DOOR, LINE, POST, CUT
(R104). -/
def longestCause : List CauseEntry → Option CauseEntry
  | [] => none
  | e :: rest =>
    match longestCause rest with
    | none => some e
    | some x =>
      if e.joined < x.joined ∨ (e.joined = x.joined ∧ e.cause.code < x.cause.code) then some e else some x

/-- The abort cause of a suspension cause. -/
def SuspCause.abort : SuspCause → AbortCause
  | .door => .door | .line => .line | .post => .post | .cut => .cut

/-! ## Entry to ENDING (R105) -/

/-- The finding an outcome produces at entry to ENDING (R105); `byAction` tells the INHIBIT-DEFROST action's abort (R107). -/
def RunOutcome.finding (o : RunOutcome) (byAction : Bool) : Option (FindingClass × Nat) :=
  match o with
  | .startFailed => some (.defrostStartFailed, 0)
  | .aborted .door => some (.defrostAborted, 1)
  | .aborted .line => some (.defrostAborted, 2)
  | .aborted .post => some (.defrostAborted, 3)
  | .aborted .cut => some (.defrostAborted, 4)
  | .aborted .inhibit => if byAction then some (.defrostAborted, 5) else none
  | .cleared | .timedOut | .unitEnded | .aborted .host | .aborted .departure | .aborted .move | .aborted .rebuild => none

/-- Whether an outcome defers the trailer's next request by 600 s (R105). -/
def RunOutcome.defers : RunOutcome → Bool
  | .startFailed | .aborted .door | .aborted .line | .aborted .post | .aborted .cut => true
  | .cleared | .timedOut | .unitEnded | .aborted .host | .aborted .inhibit | .aborted .departure | .aborted .move
  | .aborted .rebuild => false

/-- The later of a deferral and a time; an absent deferral counts as earlier than any (R105). -/
def laterDeferral (d : Option Time) (t : Time) : Option Time :=
  match d with
  | none => some t
  | some x => some (max x t)

/-- The run as it enters ENDING with an outcome (R105), recording whether its abort came from the action (R107); a new
link of 0 leaves the link (R110). No status counts as evaluated since the ending start yet (R106; log entry 43). -/
def RunRecord.enter (r : RunRecord) (now : Time) (o : RunOutcome) (byAction : Bool) (newLink : Nat) : RunRecord :=
  { r.closed now with
    state := .ending now o false, byAction := byAction
    link := if newLink = 0 then r.link else some newLink }

/-- The link takes the push number of a finding of the run, when it was pushed (R110). -/
def State.relink (s : State) (p : Post) (n : Option Nat) : State :=
  match n, s.run p with
  | some k, some r => s.putRun p (some { r with link := some k })
  | _, _ => s

/-- A run enters ENDING (R105): the outcome, the deferral, then the finding with the link as its cause. -/
def State.enterEnding (s : State) (p : Post) (o : RunOutcome) (byAction : Bool) (newLink : Nat) : State :=
  match s.run p with
  | none => s
  | some r =>
    let run := r.enter s.now o byAction newLink
    let entered := s.editTrailer p fun t =>
      { t with run := some run
               deferral := if o.defers then laterDeferral t.deferral (s.now + Config.abortDeferral) else t.deferral }
    match o.finding run.byAction with
    | none => entered
    | some (c, d) =>
      let produced := entered.produceEnding p c d (run.link.getD 0)
      produced.1.relink p produced.2

/-- A request from outside Run Control ends a run that is not ENDING (R107); the second part tells whether it did. -/
def State.abortRun (s : State) (p : Post) (c : AbortCause) (byAction : Bool) (link : Nat) : State × Bool :=
  match s.run p with
  | none => (s, false)
  | some r => if r.isEnding then (s, false) else (s.enterEnding p (.aborted c) byAction link, true)

/-- Abort a suspension whose limit is reached with the cause in force longest; CUT gives its push number to the link
(R104, R110). -/
def State.abortSuspension (s : State) (p : Post) (r : RunRecord) : State :=
  match longestCause r.causes with
  | none => s
  | some e => s.enterEnding p (.aborted e.cause.abort) false e.push

/-! ## The creation of a run (R93) -/

/-- The held limits of a profile (R95). -/
def Profile.limits (p : Profile) : RunLimits :=
  { termination := p.termination, maxDuration := p.maxDuration, suspendLimit := p.suspendLimit,
    minCurrent := p.minCurrent }

/-- The held limits of a new run: those of the trailer's bound profile (R93), and all 0 where its profile id names no
profile (log entry 42). -/
def State.limitsOf (s : State) (p : Post) : RunLimits :=
  match s.profileOf (s.trailer p) with
  | some pr => pr.limits
  | none => { termination := 0, maxDuration := 0, suspendLimit := 0, minCurrent := 0 }

/-- The first state of a run: HEATING for a UNIT request, COMMANDED for any other (R93). -/
def RequestClass.firstState : RequestClass → PriorState
  | .unit => .heating
  | .forced | .host | .threshold => .commanded

/-- The run a granted request becomes (R93). -/
def State.newRun (s : State) (q : Queue) (r : Request) : RunRecord :=
  { state := match r.cls.firstState with
      | .heating => .heating s.now
      | .commanded => .commanded
    grantTime := s.now, cls := r.cls, queue := q, load := r.load, f0 := (s.trailer r.post).f,
    limits := s.limitsOf r.post, heatingTime := 0, heatCount := 0, heaterWeak := false, suspendedTime := 0,
    byAction := false, link := none }

/-- Run Control creates the run of a granted request: DEFROST-STARTED, then SUSPENDED at once where the door is held OPEN
or CUT-HEATER is in force (R93). -/
def State.createRun (s : State) (q : Queue) (r : Request) : State :=
  let started := (s.putRun r.post (some (s.newRun q r))).item r.post
    (.defrostStarted r.cls q r.load r.cls.firstState)
  let doored := if (started.trailer r.post).door.held = some .opened then started.causeJoins r.post .door 0 else started
  match (doored.inForce r.post).cut with
  | some push => doored.causeJoins r.post .cut push
  | none => doored

end Sys2Proof.Machine
end

