-- ==== Sys2Proof/Machine/Arbiter.lean ====
section
/-! DEFINITION. The Feeder Arbiter (chapter 4): the queues and their order, eligibility, the walk and its grants, and the
release of a run's load at the run end (R109). -/

namespace Sys2Proof.Machine

/-! ## The queues (4.2) -/

/-- The queue of a post (R70). -/
def State.queueOf (s : State) (p : Post) : Queue := s.config.map.get p

/-- The one order of a queue: class rank, filing time, post index (R75). -/
def Request.before (a b : Request) : Bool :=
  decide (a.cls.code < b.cls.code) ||
  (decide (a.cls.code = b.cls.code) &&
    (decide (a.filed < b.filed) || (decide (a.filed = b.filed) && decide (a.post.val < b.post.val))))

/-- A request takes its place in a queue (R75). -/
def insertRequest (r : Request) : List Request → List Request
  | [] => [r]
  | x :: xs => if r.before x then r :: x :: xs else x :: insertRequest r xs

/-- Every queue number. -/
def allQueues : List Queue := List.finRange 9

/-- The request a trailer holds, with its queue (R74: at most one). -/
def State.requestOf (s : State) (p : Post) : Option (Queue × Request) :=
  allQueues.findSome? fun q => ((s.queue q).find? fun r => decide (r.post = p)).map fun r => (q, r)

/-- Remove a trailer's request, without a grant (R81). -/
def State.removeRequest (s : State) (p : Post) : State :=
  match s.requestOf p with
  | none => s
  | some (q, _) => s.putQueue q ((s.queue q).filter fun r => decide (r.post ≠ p))

/-- A request joins a queue at its place (R75). -/
def State.joinQueue (s : State) (q : Queue) (r : Request) : State := s.putQueue q (insertRequest r (s.queue q))

/-- Upgrade a trailer's request in place: filing time, load and pass count kept, and its new place (R75, R80, R87). -/
def State.upgradeRequest (s : State) (p : Post) (c : RequestClass) : State :=
  match s.requestOf p with
  | none => s
  | some (q, r) => (s.removeRequest p).joinQueue q { r with cls := c }

/-- The place of a trailer's request in its queue, from 1 at the head (R87). -/
def placeIn (p : Post) : List Request → Nat
  | [] => 0
  | r :: rest => if r.post = p then 1 else
    match placeIn p rest with
    | 0 => 0
    | n + 1 => n + 2

/-! ## Eligibility (R82) -/

/-- The parts of R82 a request can fail, in order. -/
inductive Ineligible where
  | line | post | fuel
  deriving DecidableEq, Repr

/-- Whether a trailer passes the fuel condition: no sender fitted, or H of 20 or more (R82). A trailer whose profile id
names no profile passes it (log entry 42). -/
def State.fuelForDefrost (s : State) (p : Post) : Bool :=
  match s.profileOf (s.trailer p) with
  | some pr => !pr.sender || decide (Config.engineBayHours ≤ (s.trailer p).fuel.hours)
  | none => true

/-- The first part of R82 that a request fails, none when it is eligible. -/
def State.ineligible (s : State) (q : Queue) (p : Post) : Option Ineligible :=
  if !s.lineUp p then some .line
  else if (s.entry p).map (·.state) ≠ some .live then some .post
  else if q = Queue.engineBay ∧ !s.fuelForDefrost p then some .fuel
  else none

/-! ## The walk (R84, R85) -/

/-- The capacity of a queue's feeder; ENGINE-BAY has none (R70). -/
def State.capacityOf (s : State) (q : Queue) : Option Nat :=
  if h : q.val < 8 then some (s.config.capacity.get ⟨q.val, h⟩) else none

/-- Whether a load fits: committed load plus load does not exceed the capacity; in ENGINE-BAY every entry fits (R84). -/
def fits (capacity : Option Nat) (committed load : Nat) : Bool :=
  match capacity with
  | some c => decide (committed + load ≤ c)
  | none => true

/-- A grant adds 1 to the pass count of every entry this walk has left as passed over (R85). -/
def bumpPassed (left : List (Request × Bool)) : List (Request × Bool) :=
  left.map fun e => if e.2 then ({ e.1 with passes := e.1.passes + 1 }, true) else e

/-- Whether a grant has brought an entry's pass count to 3 (R85). -/
def reachedThree (left : List (Request × Bool)) : Bool := left.any fun e => e.2 && decide (3 ≤ e.1.passes)

/-- A walk from an entry on: `left` holds the entries examined and left in place, each with whether it was passed over.
The answer is the entries granted, in order, and the queue the walk leaves (R84, R85). -/
def walkFrom (capacity : Option Nat) (eligible : Request → Bool) (committed : Nat) (left : List (Request × Bool)) :
    List Request → List Request × List Request
  | [] => ([], left.map (·.1))
  | e :: rest =>
    if !eligible e then walkFrom capacity eligible committed (left ++ [(e, false)]) rest
    else if fits capacity committed e.load then
      let bumped := bumpPassed left
      if reachedThree bumped then ([e], bumped.map (·.1) ++ rest)
      else
        let later := walkFrom capacity eligible (committed + e.load) bumped rest
        (e :: later.1, later.2)
    else if e.passes < 3 then walkFrom capacity eligible committed (left ++ [(e, true)]) rest
    else ([], left.map (·.1) ++ e :: rest)

/-- A grant: the load is committed and Run Control creates the run (R86). -/
def State.grant (s : State) (q : Queue) (r : Request) : State :=
  (s.putLoad q (s.load q + r.load)).createRun q r

/-- Walk a queue (R83): no walk is made while a restart is pending. -/
def State.walk (s : State) (q : Queue) : State :=
  if s.running then
    let w := walkFrom (s.capacityOf q) (fun r => (s.ineligible q r.post).isNone) (s.load q) [] (s.queue q)
    (s.putQueue q w.2).forEach w.1 fun s' r => s'.grant q r
  else s

/-- File a request: it joins the queue of its post, which is walked (R76, R83, R87). -/
def State.fileRequest (s : State) (p : Post) (c : RequestClass) (load : Nat) : State :=
  (s.joinQueue (s.queueOf p) { post := p, cls := c, filed := s.now, load := load, passes := 0 }).walk (s.queueOf p)

/-- Each queue that holds a request from a line is walked when the line enters UP (R19, R83). -/
def State.walkForLine (s : State) (l : Line) : State :=
  s.forEach allQueues fun s' q =>
    if (s'.queue q).any fun r => decide (postLine r.post = l) then s'.walk q else s'

/-! ## The run end (R109) -/

/-- The outcome's effect on F, R and the last defrost end (R109, step 1). -/
def TrailerRecord.settleRun (t : TrailerRecord) (o : RunOutcome) (f0 : Nat) (now : Time) : TrailerRecord :=
  match o with
  | .cleared => { t with f := 0, r := 0, lastDefrostEnd := some now }
  | .timedOut | .unitEnded => { t with f := f0 / 2, lastDefrostEnd := some now }
  | .startFailed | .aborted _ => { t with f := f0 }

/-- The end of a run with an outcome (R109): effect, release, DEFROST-ENDED, the record without a run, the walk. Where
R108 ends a run that is SUSPENDED, the item counts the suspension in progress (log entry 47). -/
def State.endRun (s : State) (p : Post) (o : RunOutcome) (stuck : Bool) : State :=
  match s.run p with
  | none => s
  | some r =>
    let settled := s.editTrailer p fun t => t.settleRun o r.f0 s.now
    let released := settled.putLoad r.queue (settled.load r.queue - r.load)
    let reported := released.item p (.defrostEnded o r.f0 (r.heatingAt s.now) (r.suspendedAt s.now) stuck)
    (reported.putRun p none).walk r.queue

end Sys2Proof.Machine
end

