-- ==== Sys2Proof/Machine/Actions.lean ====
section
/-! DEFINITION. The Finding Unit's hand to the other blocks (8.3): an action coming into force or being withdrawn, with its
effects on the trailer's request and run; producing and clearing findings; settling a record's actions. -/

namespace Sys2Proof.Machine

/-- INHIBIT-DEFROST comes into force: the request is removed and the run ended as ABORTED(INHIBIT) by the action
(R90, R107, R154). -/
def State.inhibitDefrost (s : State) (p : Post) (cause : Nat) : State :=
  ((s.removeRequest p).abortRun p .inhibit true cause).1

/-- An action comes into force for a record with a cause, and is handed to its targets (R152 to R155). -/
def State.applyAction (s : State) (p : Post) (a : Action) (cause : Nat) : State :=
  if a = .none ∨ s.actionInForce p a then s
  else
    let active := s.activate p a cause
    match a with
    | .none | .beacon => active
    | .inhibitDefrost => active.inhibitDefrost p cause
    | .cutHeater => active.causeJoins p .cut cause

/-- An action is withdrawn: CUT leaves a suspended run; the other two only end (R152 to R155). -/
def State.withdrawAction (s : State) (p : Post) (a : Action) : State :=
  if s.actionInForce p a then
    let ended := s.putInForce p ((s.inForce p).put a none)
    match a with
    | .none | .beacon | .inhibitDefrost => ended
    | .cutHeater => ended.causeLeaves p .cut
  else s

/-- Produce a finding (R147, R150). -/
def State.produce (s : State) (p : Post) (c : FindingClass) (detail cause : Nat) : State :=
  (s.produceWith State.applyAction p c detail cause).1

/-- The lowest-numbered active class that carries an action in the finding table (R156). -/
def State.carrier (s : State) (p : Post) (a : Action) : Option ActiveFinding :=
  (s.trailer p).active.find? fun x => decide ((s.tableEntry x.cls).action = a)

/-- Withdraw an action that no active class carries any more (R152). -/
def State.settleWithdrawal (s : State) (p : Post) (a : Action) : State :=
  if (s.carrier p a).isNone then s.withdrawAction p a else s

/-- Settle one action of a record against its active set: it comes into force with the push number of the lowest-numbered
class that carries it, 0 where that class holds none, or it is withdrawn (R152, R156). R156 gives that cause for a table
write; at a move R152 leaves open which of several carried classes gives it, and the same class is taken there (log entry
24). -/
def State.settleAction (s : State) (p : Post) (a : Action) : State :=
  match s.carrier p a with
  | some x => s.applyAction p a (x.push.getD 0)
  | none => s.withdrawAction p a

/-- The three actions that can be in force, in the order they are settled. INHIBIT-DEFROST stands last: as it comes into
force it can end a run and raise DEFROST-ABORTED, so that BEACON and CUT-HEATER are settled against the active set as it
stood before that (R154, R156). -/
def settledActions : List Action := [.beacon, .cutHeater, .inhibitDefrost]

/-- Settle every action of a record (R152, R156). -/
def State.settleActions (s : State) (p : Post) : State := s.forEach settledActions fun s' a => s'.settleAction p a

/-- Withdraw every action of a record (R152: departure, rebuild, the old record of a move). -/
def State.withdrawActions (s : State) (p : Post) : State :=
  s.forEach settledActions fun s' a => s'.withdrawAction p a

/-- Clear a standing class by its condition or by acknowledgement (R151): it leaves its set, FINDING-CLEARED is produced,
and the action of an active class is settled. -/
def State.clearFinding (s : State) (p : Post) (c : FindingClass) (acknowledged : Bool) : State :=
  match (s.trailer p).activeOf c, (s.trailer p).notedOf c with
  | some _, _ =>
    ((s.editTrailer p fun t => { t with active := t.active.filter fun a => decide (a.cls ≠ c) }).item p
      (.findingCleared c acknowledged)).settleWithdrawal p (s.tableEntry c).action
  | none, some _ =>
    (s.editTrailer p fun t => { t with noted := t.noted.filter fun a => decide (a.cls ≠ c) }).item p
      (.findingCleared c acknowledged)
  | none, none => s

/-- Clear LINK-LOST by its condition where its detail is one of two (R9, R31, R42). -/
def State.clearLinkLost (s : State) (p : Post) (detail : Nat) : State :=
  match (s.trailer p).detailOf .linkLost with
  | some d => if d = detail ∨ d = 0 then s.clearFinding p .linkLost false else s
  | none => s

/-- Empty both finding sets without FINDING-CLEARED items, withdrawing the actions (R28, R30, R151). -/
def State.emptySets (s : State) (p : Post) : State :=
  (s.editTrailer p fun t => { t with active := [], noted := [] }).withdrawActions p

end Sys2Proof.Machine
end

