-- ==== Sys2Proof/Machine/Outputs.lean ====
section
/-! DEFINITION. Output Control (chapter 9): the output state of a post, the four levels of a POLL, masking, delivered levels
and output mismatch. -/

namespace Sys2Proof.Machine

/-- The start values of a post's output state (9.1, R165). -/
def State.startOutput (s : State) (p : Post) : OutputState :=
  { contactor := s.config.startOn.get p, beacon := false, forceOff := false, forceOn := false, delivered := none,
    actual := none, mismatch := 0, nextToggle := true, thisToggle := none }

/-- CONTACTOR on a line that is UP (R167). -/
def OutputState.contactorLevel (o : OutputState) : Bool :=
  if o.forceOff then false else if o.forceOn then true else o.contactor

/-- What a run asks for (R111): heater permit and defrost demand. -/
def runAsks (r : Option RunRecord) : Bool × Bool :=
  match r with
  | none => (false, false)
  | some r =>
    match r.state with
    | .commanded | .heating _ => (true, true)
    | .suspended _ _ _ => (false, true)
    | .ending _ _ _ => (false, false)

/-- HEATER-PERMIT: ON while the run is COMMANDED or HEATING, the line UP, no CUT-HEATER in force and FORCE-OFF clear
(R168). -/
def State.permitLevel (s : State) (p : Post) (o : OutputState) : Bool :=
  (runAsks (s.run p)).1 && s.lineUp p && !s.actionInForce p .cutHeater && !o.forceOff

/-- DEFROST-DEMAND (R169). -/
def State.demandLevel (s : State) (p : Post) : Bool := (runAsks (s.run p)).2

/-- BEACON on a line that is UP, with the output state after its toggle fields have been used (R170). -/
def State.beaconLevel (s : State) (p : Post) (o : OutputState) : Bool × OutputState :=
  if o.forceOff then (false, o)
  else if s.actionInForce p .beacon then
    match o.thisToggle with
    | some b => (b, o)
    | none => (o.nextToggle, { o with thisToggle := some o.nextToggle, nextToggle := !o.nextToggle })
  else (o.beacon, o)

/-- The masked CONTACTOR and BEACON: the delivered levels, or the start level and OFF (R171). -/
def State.maskedLevels (s : State) (p : Post) (o : OutputState) : Bool × Bool :=
  match o.delivered with
  | some l => (l.contactor, l.beacon)
  | none => (s.config.startOn.get p, false)

/-- The levels of an exchange that begins now, with the output state after it (R166, R170, R171). The first exchange of
a round makes this round's toggle level absent. -/
def State.workOut (s : State) (p : Post) (o : OutputState) (first : Bool) : Levels × OutputState :=
  let o1 : OutputState := if first then { o with thisToggle := none } else o
  if s.lineUp p then
    let b := s.beaconLevel p o1
    ({ contactor := o1.contactorLevel, permit := s.permitLevel p o1, beacon := b.1, demand := s.demandLevel p }, b.2)
  else
    let m := s.maskedLevels p o1
    ({ contactor := m.1, permit := false, beacon := m.2, demand := s.demandLevel p }, o1)

/-- All four levels OFF. -/
def Levels.off : Levels := { contactor := false, permit := false, beacon := false, demand := false }

/-- Output Control works out the levels for an exchange to an installed post (R166). -/
def State.levelsFor (s : State) (p : Post) (first : Bool) : Levels × State :=
  match s.output p with
  | none => (.off, s)
  | some o =>
    let w := s.workOut p o first
    (w.1, s.putOutput p (some w.2))

/-- The outputs in disagreement, as the sum of R173. -/
def disagreement (carried actual : Levels) : Nat :=
  (if carried.contactor = actual.contactor then 0 else 1) + (if carried.permit = actual.permit then 0 else 2)
    + (if carried.beacon = actual.beacon then 0 else 4) + (if carried.demand = actual.demand then 0 else 8)

/-- A GOOD exchange at Output Control: the delivered levels (R172), the last actual levels, the mismatch count and
OUTPUT-MISMATCH (R173). -/
def State.outputAtGood (s : State) (p : Post) (carried actual : Levels) : State :=
  match s.output p with
  | none => s
  | some o =>
    let d := disagreement carried actual
    let count := if d = 0 then 0 else min 255 (o.mismatch + 1)
    let s1 := s.putOutput p (some { o with delivered := some carried, actual := some actual, mismatch := count })
    if d = 0 then s1.clearFinding p .outputMismatch false
    else if 3 ≤ count ∧ (s1.trailer p).state ≠ .vacant then s1.produce p .outputMismatch d 0
    else s1

end Sys2Proof.Machine
end

