-- ==== Sys2Proof/Machine/Frost.lean ====
section
/-! DEFINITION. The Frost Accounting Unit (chapter 3): held temperatures and SENSOR, the aged door history and door load, the
yard moisture, and the accrual, melt and held cases of an evaluation. -/

namespace Sys2Proof.Machine

/-- What the owners of an evaluation read as it stood when the status reached the record (R48, R114): whether a run
existed, whether one was HEATING, the door history word and its period index. -/
structure AtArrival where
  runExists : Bool
  runHeating : Bool
  history : Word16
  pn : Option Int
  deriving DecidableEq, Repr

/-- What stands in a record when a status reaches it (R48, R114). -/
def TrailerRecord.atArrival (t : TrailerRecord) : AtArrival :=
  { runExists := t.run.isSome
    runHeating := match t.run with
      | some r => r.isHeating
      | none => false
    history := t.door.history, pn := t.door.pn }

/-- A saturating count (0 to 255). -/
def bump255 (n : Nat) : Nat := min 255 (n + 1)

/-! ## Held temperatures (3.2) -/

/-- A reported temperature against its held value and invalid count, for a valid range (R51, R52). -/
def holdTemperature (held : Option Int) (count : Nat) (reported : Option Int) (low high : Int) : Option Int × Nat :=
  match reported with
  | some v => if low ≤ v ∧ v ≤ high then (some v, 0) else (held, bump255 count)
  | none => (held, bump255 count)

/-- The sensor group after a status (R51, R52). -/
def TrailerRecord.holdTemperatures (t : TrailerRecord) (rep : StatusReport) : TrailerRecord :=
  let ret := holdTemperature t.tr t.trInvalid rep.tr (-400) 500
  let coil := holdTemperature t.tc t.tcInvalid rep.tc (-500) 500
  { t with tr := ret.1, trInvalid := ret.2, tc := coil.1, tcInvalid := coil.2 }

/-- The detail of a SENSOR produced at this evaluation, 0 when no count has just reached 10 (R53). -/
def sensorDetail (before after : TrailerRecord) : Nat :=
  (if after.trInvalid = 10 ∧ before.trInvalid ≠ 10 then 1 else 0)
    + (if after.tcInvalid = 10 ∧ before.tcInvalid ≠ 10 then 2 else 0)

/-- The held temperatures are updated and the SENSOR finding settled (R52, R53). -/
def State.frostSensors (s : State) (p : Post) (rep : StatusReport) : State :=
  let before := s.trailer p
  let after := before.holdTemperatures rep
  let s1 := s.editTrailer p fun t => t.holdTemperatures rep
  if sensorDetail before after ≠ 0 then s1.produce p .sensor (sensorDetail before after) 0
  else if after.trInvalid < 10 ∧ after.tcInvalid < 10 then s1.clearFinding p .sensor false
  else s1

/-! ## Door load (3.3) -/

/-- The period index of a time (R55, R139). -/
def periodOf (t : Time) (hp : Nat) : Int := t / (hp : Int)

/-- The aged view V of a door history word (R55). -/
def agedView (history : Word16) (pn : Option Int) (pNow : Int) : Word16 :=
  match pn with
  | none => 0
  | some n => history >>> (pNow - n).toNat

/-- How many of bits `low` to `low + 7` are set. -/
def setBits (v : Word16) (low : Nat) : Nat := (List.range 8).countP fun i => v.getLsbD (low + i)

/-- The door load D (R56). -/
def doorLoad (v : Word16) : Nat := 2 * setBits v 8 + setBits v 0

/-! ## Yard moisture (3.4) -/

/-- The weather standing (R60). -/
inductive Standing where
  | current | stale | default
  deriving DecidableEq, Repr

/-- The standing of a weather state at a time (R60). -/
def Weather.standing (w : Weather) (now : Time) : Standing :=
  match w.receipt with
  | none => .default
  | some t => if now - t < 1800 then .current else if now - t ≤ 7200 then .stale else .default

/-- M from RH and Ta (R60). -/
def moistureOf (rh : Nat) (ta : Int) : Nat := if 0 ≤ ta then rh * 16 / 100 else rh * 8 / 100

/-- The moisture factor M (R60, R61). -/
def Weather.moisture (w : Weather) (now : Time) (mdef : Nat) : Nat :=
  match w.standing now with
  | .current | .stale => moistureOf w.rh w.ta
  | .default => mdef

/-! ## The frost step (3.1, 3.5 to 3.7) -/

/-- The time step of an evaluation, 1 to 300 s (R49). -/
def timeStep (last now : Time) : Nat := (max 1 (min 300 (now - last))).toNat

/-- The coil term Kc (R63). -/
def coilTerm (tr : Option Int) (tc : Int) : Nat :=
  match tr with
  | none => 0
  | some r => (max 0 (min 200 (r - tc))).toNat / 10

/-- The accrual step (R64). -/
def TrailerRecord.accrue (t : TrailerRecord) (dt k d m : Nat) : TrailerRecord :=
  let total := dt * (k + d) * m + t.r
  { t with f := min 65535 (t.f + total / 16), r := total % 16 }

/-- The melt rate (R66). -/
def meltRate (tc : Int) : Nat := (min tc 200).toNat / 10

/-- The melt step (R66). -/
def TrailerRecord.melt (t : TrailerRecord) (dt : Nat) (tc : Int) : TrailerRecord :=
  { t with f := t.f - dt * meltRate tc }

/-- Whether a mode is COOL, the mode of accrual (R63). -/
def Mode.cools (m : Mode) : Bool := decide (m = .cool)

/-- Whether a mode is NULL or OFF, the modes of melt (R65). -/
def Mode.idles (m : Mode) : Bool := decide (m = .null) || decide (m = .off)

/-- The frost case of an evaluation that is not the first (R63, R65, R67). -/
def TrailerRecord.frostCase (t : TrailerRecord) (mode : Mode) (at' : AtArrival) (dt m : Nat) (pNow : Int) :
    TrailerRecord :=
  match t.tc with
  | none => t
  | some tc =>
    if at'.runExists then t
    else if mode.cools ∧ tc < 0 then
      t.accrue dt (coilTerm t.tr tc) (doorLoad (agedView at'.history at'.pn pNow)) m
    else if mode.idles ∧ 20 ≤ tc then t.melt dt tc
    else t

/-- The frost step and the last evaluation time (R49, R50). -/
def State.frostStep (s : State) (p : Post) (rep : StatusReport) (at' : AtArrival) : State :=
  s.editTrailer p fun t =>
    let stepped := match t.lastEval with
      | none => t
      | some last =>
        t.frostCase rep.mode at' (timeStep last s.now) (s.weather.moisture s.now s.config.mdef)
          (periodOf s.now s.config.hp)
    { stepped with lastEval := some s.now }

/-- The frost unit's part of an evaluation (R49, R50). -/
def State.frostEvaluation (s : State) (p : Post) (rep : StatusReport) (at' : AtArrival) : State :=
  (s.frostSensors p rep).frostStep p rep at'

end Sys2Proof.Machine
end

