-- ==== Sys2Proof/Machine/Fuel.lean ====
section
/-! DEFINITION. The Fuel Audit Unit (chapter 6): the sender reading, conversion through the curve, the filter, refuels, the
burn window, hours remaining and the fuel findings. -/

namespace Sys2Proof.Machine

/-! ## Conversion (6.3) -/

/-- A valid raw reading lies from 16 to 1007 (R116). -/
def rawValid (x : Nat) : Bool := decide (16 ≤ x ∧ x ≤ 1007)

/-- The level on the segment from point `i` to point `i + 1` (R119). -/
def segmentLevel (c : Vector (Nat × Nat) 9) (i : Fin 8) (x : Nat) : Nat :=
  let a := c.get i.castSucc
  let b := c.get i.succ
  a.2 + (x - a.1) * (b.2 - a.2) / (b.1 - a.1)

/-- The level L of a raw reading (R119). -/
def convert (c : Vector (Nat × Nat) 9) (x : Nat) : Nat :=
  if x < (c.get 0).1 then (c.get 0).2
  else if (c.get 8).1 < x then (c.get 8).2
  else
    match (List.finRange 8).find? fun i => decide ((c.get i.castSucc).1 ≤ x ∧ x ≤ (c.get i.succ).1) with
    | some i => segmentLevel c i x
    | none => (c.get 8).2

/-! ## The filter (6.4) -/

/-- The reported level Lf of Lf16 (R120). -/
def reportedLevel (lf16 : Nat) : Nat := (lf16 + 8) / 16

/-- Lf where the filter has started, 0 where it has not (R120, R127). -/
def FuelAccount.level (a : FuelAccount) : Nat := if a.started then reportedLevel a.lf16 else 0

/-- The filter step: a quarter of the way to 16 × L, truncated toward zero (R120). -/
def filterStep (lf16 level : Nat) : Nat := ((lf16 : Int) + Int.tdiv (16 * (level : Int) - (lf16 : Int)) 4).toNat

/-! ## Refuel, window, hours (6.5 to 6.7) -/

/-- A window opened or restarted at a reading (R122 to R124). -/
def BurnWindow.opened (now : Time) (lf : Nat) : BurnWindow :=
  { start := now, lfStart := lf, heating := false, engine := false }

/-- The window marks brought up to date (R123). -/
def FuelAccount.mark (a : FuelAccount) (heating : Bool) (engine : Bool) : FuelAccount :=
  { a with window := a.window.map fun w => { w with heating := w.heating || heating, engine := w.engine || engine } }

/-- What a valid reading does before the window close (R120 to R122): the account after it, whether a refuel was taken
at it and with what amount, and whether it started the filter. -/
def FuelAccount.take (a : FuelAccount) (now : Time) (level threshold : Nat) : FuelAccount × Option Nat :=
  let seen : FuelAccount := { a with lastLevel := some level, invalidCount := 0 }
  if !a.started then
    ({ seen with started := true, lf16 := 16 * level, window := some (.opened now (reportedLevel (16 * level))) }, none)
  else if (threshold : Int) ≤ (level : Int) - (reportedLevel a.lf16 : Int) then
    if a.refuelPending then
      ({ seen with lf16 := 16 * level, refuelPending := false,
                   window := some (.opened now (reportedLevel (16 * level))) },
        some (level - reportedLevel a.lf16))
    else ({ seen with refuelPending := true }, none)
  else ({ seen with refuelPending := false, lf16 := filterStep a.lf16 level }, none)

/-- A window is opened at the first valid reading with the filter STARTED and no window present (R123). -/
def FuelAccount.openWindow (a : FuelAccount) (now : Time) : FuelAccount :=
  match a.window with
  | some _ => a
  | none => { a with window := some (.opened now a.level) }

/-- The burn rate B of an evaluated window (R125). -/
def burnRate (consumed : Int) (elapsed : Nat) : Nat := if 0 < consumed then consumed.toNat * 3600 / elapsed else 0

/-- The smoothed burn rate after a window (R125). -/
def smoothBurn (bs : Option Nat) (b : Nat) : Nat :=
  match bs with
  | none => b
  | some x => (3 * x + b) / 4

/-- The allowed consumption of a window (R126). -/
def allowedBurn (pr : Profile) (w : BurnWindow) (elapsed : Nat) : Nat :=
  pr.tolerance + (if w.heating then pr.defrostBurn else if w.engine then pr.engineBurn else 0) * elapsed / 3600

/-- The window close at a valid reading with no refuel (R124 to R126): the account after it, and the FUEL-LOSS detail
where the consumption is above the allowance. -/
def FuelAccount.closeWindow (a : FuelAccount) (now : Time) (pr : Profile) : FuelAccount × Option Nat :=
  match a.window with
  | none => (a, none)
  | some w =>
    let elapsed := secondsBetween w.start now
    let restarted : FuelAccount := { a with window := some (.opened now a.level) }
    if elapsed < 600 then (a, none)
    else if 3600 < elapsed then (restarted, none)
    else
      let consumed : Int := (w.lfStart : Int) - (a.level : Int)
      let allowed := allowedBurn pr w elapsed
      ({ restarted with bs := some (smoothBurn a.bs (burnRate consumed elapsed)) },
        if (allowed : Int) < consumed then some (consumed.toNat - allowed) else none)

/-- Hours remaining H (R127). -/
def hoursRemaining (bs : Option Nat) (lf : Nat) : Nat :=
  match bs with
  | none => 9999
  | some b => if b = 0 then 9999 else min 9999 (lf * 10 / b)

/-- H recomputed (R127). -/
def FuelAccount.recompute (a : FuelAccount) : FuelAccount := { a with hours := hoursRemaining a.bs a.level }

/-- Write a record's fuel fields. -/
def State.putFuel (s : State) (p : Post) (a : FuelAccount) : State := s.editTrailer p fun t => { t with fuel := a }

/-! ## The audit (R114) -/

/-- An invalid reading: the count advances, and SENDER-FAULT is produced as it reaches 5 (R116). -/
def State.fuelInvalid (s : State) (p : Post) (raw : Nat) : State :=
  let a := (s.trailer p).fuel
  let s1 := s.putFuel p { a with invalidCount := bump255 a.invalidCount }
  if a.invalidCount = 4 then s1.produce p .senderFault raw 0 else s1

/-- A valid reading: SENDER-FAULT clears; conversion, filter and refuel; then the window (R116 to R126). -/
def State.fuelValid (s : State) (p : Post) (pr : Profile) (raw : Nat) : State :=
  let s1 := s.clearFinding p .senderFault false
  let level := convert pr.curve raw
  let taken := ((s1.trailer p).fuel).take s1.now level pr.refuel
  match taken.2 with
  | some amount => (s1.item p (.refuel amount level)).putFuel p taken.1
  | none =>
    let closed := (taken.1.openWindow s1.now).closeWindow s1.now pr
    let s2 := s1.putFuel p closed.1
    match closed.2 with
    | some detail => s2.produce p .fuelLoss detail 0
    | none => s2

/-- LOW-FUEL settled from H and the power source (R128). -/
def State.settleLowFuel (s : State) (p : Post) (pr : Profile) (power : PowerSource) : State :=
  let h := (s.trailer p).fuel.hours
  if (s.trailer p).stands .lowFuel then
    if power = .shore ∨ pr.lowHours + 20 ≤ h then s.clearFinding p .lowFuel false else s
  else if power = .engine ∧ h < pr.lowHours then s.produce p .lowFuel h 0
  else s

/-- The fuel unit's part of an evaluation, where the bound profile has a sender (R114). -/
def State.fuelEvaluation (s : State) (p : Post) (rep : StatusReport) (at' : AtArrival) : State :=
  match s.profileOf (s.trailer p) with
  | none => s
  | some pr =>
    if !pr.sender then s
    else
      let marked := s.putFuel p ((s.trailer p).fuel.mark at'.runHeating (decide (rep.power = .engine)))
      let read :=
        if rawValid rep.fuelRaw then marked.fuelValid p pr rep.fuelRaw else marked.fuelInvalid p rep.fuelRaw
      (read.putFuel p (read.trailer p).fuel.recompute).settleLowFuel p pr rep.power

/-- H recomputed is a grant opportunity for ENGINE-BAY where the post maps there (R127). -/
def State.walkForHours (s : State) (p : Post) : State :=
  if s.queueOf p = Queue.engineBay then s.walk Queue.engineBay else s

end Sys2Proof.Machine
end

