-- ==== Sys2Proof/Machine/Doors.lean ====
section
/-! DEFINITION. The Door Watch (chapter 7): held door state, openings and closings, the door history word, DOOR-SENSOR,
DOOR-AJAR, and custody. -/

namespace Sys2Proof.Machine

/-- A change of the held door state that the Door Watch hands to Defrost Run Control (R94, R100). -/
inductive DoorChange where
  | joined | left
  deriving DecidableEq, Repr

/-- The history word and Pn after an opening in period `p` (R139). -/
def historyAt (history : Word16) (pn : Option Int) (p : Int) : Word16 × Int :=
  match pn with
  | none => (0x8000, p)
  | some n =>
    if p ≤ n then (history, n)
    else if 16 ≤ p - n then (0x8000, p)
    else ((history >>> (p - n).toNat) ||| 0x8000, p)

/-- Write a record's door fields. -/
def State.editDoor (s : State) (p : Post) (f : DoorGroup → DoorGroup) : State :=
  s.editTrailer p fun t => { t with door := f t.door }

/-- Custody CLOSED becomes BROKEN at an opening: CUSTODY-CHANGED, then CUSTODY-BREAK, whose FINDING-RAISED joins the
station behind it (R137, step 3; R144; 10.7). The detail is 1 when the held state was CLOSED and 2 when it was absent. -/
def State.breakCustody (s : State) (p : Post) : State :=
  match (s.trailer p).custody with
  | .closed tag =>
    let broken := s.editTrailer p fun t => { t with custody := .broken tag }
    let reported := broken.item p (.custodyChanged (.broken tag))
    reported.produce p .custodyBreak (if (s.trailer p).door.held = some .closed then 1 else 2) 0
  | .none | .broken _ | .unknown => s

/-- An opening (R137). -/
def State.opening (s : State) (p : Post) : State :=
  let marked := s.editDoor p fun d =>
    let h := historyAt d.history d.pn (periodOf s.now s.config.hp)
    { d with openingTime := some s.now, ajarReported := false, history := h.1, pn := some h.2 }
  (marked.breakCustody p).editDoor p fun d => { d with held := some .opened }

/-- A closing (R138). -/
def State.closing (s : State) (p : Post) : State :=
  (s.editDoor p fun d => { d with held := some .closed, openingTime := none, ajarReported := false }).clearFinding p
    .doorAjar false

/-- A known report: the unknown count returns to 0 and DOOR-SENSOR clears (R135). -/
def State.knownDoor (s : State) (p : Post) : State :=
  (s.editDoor p fun d => { d with unknownCount := 0 }).clearFinding p .doorSensor false

/-- The detail of DOOR-SENSOR: the held state (R135). -/
def heldDetail : Option Door → Nat
  | none => 0
  | some .closed => 1
  | some .opened => 2

/-- The door report against the held state (R135 to R138), with the change handed to Run Control. -/
def State.doorReport (s : State) (p : Post) (rep : DoorReport) : State × Option DoorChange :=
  match rep with
  | .unknown =>
    let d := (s.trailer p).door
    let s1 := s.editDoor p fun d => { d with unknownCount := bump255 d.unknownCount }
    (if d.unknownCount = 9 then s1.produce p .doorSensor (heldDetail d.held) 0 else s1, none)
  | .opened =>
    let s1 := s.knownDoor p
    if (s1.trailer p).door.held = some .opened then (s1, none) else (s1.opening p, some .joined)
  | .closed =>
    let s1 := s.knownDoor p
    match (s1.trailer p).door.held with
    | some .closed => (s1, none)
    | some .opened => (s1.closing p, some .left)
    | none => (s1.editDoor p fun d => { d with held := some .closed }, none)

/-- The ajar test (R141). -/
def State.ajarTest (s : State) (p : Post) : State :=
  let d := (s.trailer p).door
  match s.profileOf (s.trailer p), d.held, d.openingTime with
  | some pr, some .opened, some t =>
    if (pr.ajar : Int) ≤ s.now - t ∧ !d.ajarReported then
      (s.produce p .doorAjar (min 65535 (s.now - t).toNat) 0).editDoor p fun d => { d with ajarReported := true }
    else s
  | _, _, _ => s

/-- The Door Watch's part of an evaluation (R134). -/
def State.doorEvaluation (s : State) (p : Post) (rep : StatusReport) : State × Option DoorChange :=
  let r := s.doorReport p rep.door
  (r.1.ajarTest p, r.2)

/-- A printable character (7.1). -/
def printable (b : Byte) : Bool := decide (0x20 ≤ b.toNat ∧ b.toNat ≤ 0x7E)

end Sys2Proof.Machine
end

