-- ==== Sys2Proof/Machine/RunArrival.lean ====
section
/-! DEFINITION. Defrost Run Control at an evaluation (R94 to R99, R102, R106), the run's timers (R96, R97, R104, R106), and the
Feeder Arbiter's filing at an evaluation (R76 to R80). -/

namespace Sys2Proof.Machine

/-! ## The run at an evaluation (5.2) -/

/-- The limits of a run are taken again from the bound profile (R95). A lowered limit already reached decides its outcome
at once; a limit that was not lowered is left to its timer's expiry (log entry 18). -/
def State.refreshLimits (s : State) (p : Post) : State :=
  match s.run p, s.profileOf (s.trailer p) with
  | some r, some pr =>
    let fresh : RunRecord := { r with limits := pr.limits }
    let s1 := s.putRun p (some fresh)
    if r.isHeating ∧ pr.maxDuration < r.limits.maxDuration ∧ pr.maxDuration ≤ r.heatingAt s.now then
      s1.enterEnding p .timedOut false 0
    else if pr.suspendLimit < r.limits.suspendLimit ∧ fresh.suspensionSpent s.now then s1.abortSuspension p fresh
    else s1
  | _, _ => s

/-- A change of the held door state made at this arrival (R94, R100). -/
def State.doorStep (s : State) (p : Post) (change : Option DoorChange) : State :=
  match change with
  | none => s
  | some .joined => s.causeJoins p .door 0
  | some .left => s.causeLeaves p .door

/-- The termination tests of a HEATING run (R98). -/
def heatingOutcome (tc : Option Int) (termination : Int) (mode : Mode) : Option RunOutcome :=
  match tc with
  | none => if mode = .defrost then none else some .unitEnded
  | some v =>
    if termination ≤ v then some .cleared
    else if mode = .defrost then none
    else if termination - 30 ≤ v then some .cleared
    else some .unitEnded

/-- The heater test of a HEATING run (R99). -/
def State.heaterTest (s : State) (p : Post) (r : RunRecord) (current : Nat) : State :=
  if 2 ≤ r.heatCount ∧ 0 < r.limits.minCurrent ∧ current < r.limits.minCurrent ∧ r.heaterWeak = false then
    let marked := s.putRun p (some { r with heaterWeak := true })
    marked.produce p .heaterWeak current 0
  else s

/-- An evaluation of a HEATING run that was HEATING before it (R98, R99). -/
def State.heatingTest (s : State) (p : Post) (r : RunRecord) (rep : StatusReport) : State :=
  let counted : RunRecord := { r with heatCount := bump255 r.heatCount }
  let s1 := s.putRun p (some counted)
  match heatingOutcome (s.trailer p).tc r.limits.termination rep.mode with
  | some o => s1.enterEnding p o false 0
  | none => s1.heaterTest p counted rep.heaterCurrent

/-- An evaluation of a SUSPENDED run (R102); the second test reads the prior state as the first has left it (log entry
20). -/
def State.suspendedTest (s : State) (p : Post) (r : RunRecord) (start : Time) (prior : PriorState)
    (causes : List CauseEntry) (rep : StatusReport) : State :=
  let now' : PriorState := if rep.mode = .defrost then .heating else prior
  let s1 := s.putRun p (some { r with state := .suspended start now' causes })
  match now', (s.trailer p).tc with
  | .heating, some v => if r.limits.termination ≤ v then s1.enterEnding p .cleared false 0 else s1
  | _, _ => s1

/-- The status tests of a run for its state (R94), with whether the run ended. `wasHeating` tells whether the run was
HEATING before this status reached the module (log entry 19). A run that reaches these tests as ENDING takes this status
as one evaluated since its ending start, also where this evaluation's own refresh (R95) or a finding of it has just brought it
there; one that these tests bring to ENDING does not (R106; log entry 43). -/
def State.statusTests (s : State) (p : Post) (rep : StatusReport) (wasHeating : Bool) : State × Bool :=
  match s.run p with
  | none => (s, false)
  | some r =>
    match r.state with
    | .commanded =>
      if rep.mode = .defrost then (s.putRun p (some { r with state := .heating s.now, heatCount := 0 }), false)
      else (s, false)
    | .heating _ => (if wasHeating then s.heatingTest p r rep else s, false)
    | .suspended start prior causes => (s.suspendedTest p r start prior causes rep, false)
    | .ending start o _ =>
      if rep.mode = .defrost then (s.putRun p (some { r with state := .ending start o true }), false)
      else (s.endRun p o false, true)

/-- Defrost Run Control's part of an evaluation (R94), with whether the run ended at it. -/
def State.runEvaluation (s : State) (p : Post) (rep : StatusReport) (change : Option DoorChange) (wasHeating : Bool) :
    State × Bool :=
  ((s.refreshLimits p).doorStep p change).statusTests p rep wasHeating

/-! ## Filing at an evaluation (4.2) -/

/-- The FORCED condition (R77). -/
def TrailerRecord.forcedDue (t : TrailerRecord) (pr : Profile) (now : Time) : Bool :=
  match t.lastDefrostEnd with
  | some e => decide ((pr.maxInterval : Int) ≤ now - e)
  | none =>
    match t.arrival with
    | some a => decide ((pr.maxInterval : Int) ≤ now - a)
    | none => false

/-- The THRESHOLD condition (R78). -/
def TrailerRecord.thresholdMet (t : TrailerRecord) (pr : Profile) (now : Time) : Bool :=
  decide (pr.fth ≤ t.f) &&
    match t.lastDefrostEnd with
    | some e => decide ((pr.minInterval : Int) ≤ now - e)
    | none => true

/-- The class a new request takes: the highest-ranked condition that holds (R76 to R79). -/
def TrailerRecord.filingClass (t : TrailerRecord) (pr : Profile) (mode : Mode) (now : Time) : Option RequestClass :=
  if t.forcedDue pr now then some .forced
  else if mode = .defrost then some .unit
  else if t.thresholdMet pr now then some .threshold
  else none

/-- Whether a deferral has passed (R76). -/
def deferralPassed (d : Option Time) (now : Time) : Bool :=
  match d with
  | none => true
  | some t => decide (t ≤ now)

/-- The UNIT removal (R79). -/
def State.removeUnitRequest (s : State) (p : Post) (mode : Mode) : State :=
  match s.requestOf p with
  | some (_, r) => if r.cls = .unit ∧ mode ≠ .defrost then s.removeRequest p else s
  | none => s

/-- The FORCED upgrade (R80). -/
def State.upgradeForced (s : State) (p : Post) (pr : Profile) : State :=
  match s.requestOf p with
  | some (_, r) => if r.cls ≠ .forced ∧ (s.trailer p).forcedDue pr s.now then s.upgradeRequest p .forced else s
  | none => s

/-- The filing test (R76); `ended` tells whether a run of the trailer ended at this arrival. -/
def State.filingTest (s : State) (p : Post) (pr : Profile) (mode : Mode) (ended : Bool) : State :=
  let t := s.trailer p
  if (s.requestOf p).isSome || t.run.isSome || ended || t.inhibit || !deferralPassed t.deferral s.now
      || s.actionInForce p .inhibitDefrost then s
  else
    match t.filingClass pr mode s.now with
    | some c => s.fileRequest p c pr.load
    | none => s

/-- The arbiter's filing at an evaluation: the UNIT removal, which reads no profile (R79), then the FORCED upgrade (R80) and
the filing test (R76). Where the profile id names no profile, the upgrade and the filing, whose conditions and load are the
profile's, are left out (log entry 42). -/
def State.filing (s : State) (p : Post) (rep : StatusReport) (ended : Bool) : State :=
  let kept := s.removeUnitRequest p rep.mode
  match kept.profileOf (kept.trailer p) with
  | none => kept
  | some pr => (kept.upgradeForced p pr).filingTest p pr rep.mode ended

/-! ## The timers of a run -/

/-- The start timer's expiry (R96): 60 s after the grant, for a run it still reaches (log entry 2). -/
def State.startTimer (s : State) (p : Post) : State :=
  match s.run p with
  | none => s
  | some r =>
    if s.running ∧ r.startTimerRuns ∧ r.grantTime + Config.startTimer ≤ s.now then
      s.enterEnding p .startFailed false 0
    else s

/-- The maximum-duration timer's expiry (R97). -/
def State.durationTimer (s : State) (p : Post) : State :=
  match s.run p with
  | none => s
  | some r =>
    if s.running ∧ r.isHeating ∧ r.limits.maxDuration ≤ r.heatingAt s.now then s.enterEnding p .timedOut false 0
    else s

/-- The expiry of a suspension limit (R104). -/
def State.suspensionTimer (s : State) (p : Post) : State :=
  match s.run p with
  | none => s
  | some r => if s.running ∧ r.suspensionSpent s.now then s.abortSuspension p r else s

/-- The stuck timer's expiry (R106): UNIT-STUCK-DEFROST, then the run end. -/
def State.stuckTimer (s : State) (p : Post) : State :=
  match s.run p with
  | none => s
  | some r =>
    match r.state with
    | .ending start o evaluated =>
      if s.running ∧ start + Config.stuckTimer ≤ s.now then
        (s.produce p .unitStuckDefrost (if evaluated then 1 else 2) (r.link.getD 0)).endRun p o true
      else s
    | .commanded | .heating _ | .suspended _ _ _ => s

end Sys2Proof.Machine
end

