-- ==== Sys2Proof/Machine/Table.lean ====
section
/-! DEFINITION. The Trailer Table (chapter 2): the unit directory, departure, enrolment, rebuild, arrival, move, hold, retry
and confirmation, and a status at the table with the evaluation that follows it. -/

namespace Sys2Proof.Machine

/-! ## The unit directory (2.2) -/

/-- The post the directory gives for a serial (R25). -/
def State.dirLookup (s : State) (serial : Word32) : Option Post :=
  (s.directory.find? fun e => decide (e.1 = serial)).map (·.2)

/-- A directory with an entry inserted, kept in rising serial order. -/
def insertEntry (serial : Word32) (p : Post) : List (Word32 × Post) → List (Word32 × Post)
  | [] => [(serial, p)]
  | e :: rest => if serial.toNat < e.1.toNat then (serial, p) :: e :: rest else e :: insertEntry serial p rest

/-- Insertion (R25). -/
def State.dirInsert (s : State) (serial : Word32) (p : Post) : State :=
  { s with directory := insertEntry serial p s.directory }

/-- Removal of the entry of a post (R25). -/
def State.dirRemove (s : State) (p : Post) : State :=
  { s with directory := s.directory.filter fun e => decide (e.2 ≠ p) }

/-- Repointing the entry of a serial (R25). -/
def State.dirRepoint (s : State) (serial : Word32) (p : Post) : State :=
  { s with directory := s.directory.map fun e => if e.1 = serial then (e.1, p) else e }

/-! ## Departure (R30) and rebuild (R28) -/

/-- The end of a run at once with an abort cause, and the removal of the queued request (R30, R36, R108). -/
def State.cutShort (s : State) (p : Post) (c : AbortCause) : State :=
  (s.endRun p (.aborted c) false).removeRequest p

/-- A departure (R30). -/
def State.depart (s : State) (p : Post) : State :=
  let emptied := (s.cutShort p .departure).emptySets p
  let reported := emptied.item p (.departed (emptied.trailer p).serial)
  (reported.dirRemove p).putTrailer p .vacant

/-- A departure of a record that is not VACANT (R2, R30). -/
def State.departIfPresent (s : State) (p : Post) : State :=
  if (s.trailer p).state = .vacant then s else s.depart p

/-- The rebuild of a record that is not VACANT, up to the vacant values and its entry in the history (R28, R36). -/
def State.rebuildAway (s : State) (p : Post) : State :=
  ((((s.cutShort p .rebuild).dirRemove p).emptySets p).putTrailer p .vacant).recordRebuild

/-! ## Values at the record events -/

/-- The fresh values (R24). -/
def TrailerRecord.fresh (serial : Word32) (model : Word16) (now : Time) : TrailerRecord :=
  { TrailerRecord.vacant with
    state := .arriving, serial := serial, model := model, arrival := some now, lastStatus := some now }

/-- The profile the model-code match binds (R34). -/
def State.matching (s : State) (model : Word16) : Option (ProfileId × Profile) :=
  if model = 0 then none
  else (List.finRange 32).findSome? fun i =>
    match s.config.profiles.get i with
    | some pr => if pr.model = model then some (i, pr) else none
    | none => none

/-- The enrolment values (R34). -/
def TrailerRecord.enrolled (t : TrailerRecord) (i : ProfileId) (pr : Profile) : TrailerRecord :=
  { t with
    state := .enrolled, profile := some i, f := pr.fth / 2, r := 0, lastDefrostEnd := none,
    door := { t.door with history := 0, pn := none }, custody := .none, fuel := .start, mask := heldMask pr.mask,
    lastEval := none }

/-- The rebuild values (R28). -/
def TrailerRecord.rebuilt (serial : Word32) (model : Word16) (now : Time) (bound : Option (ProfileId × Profile)) :
    TrailerRecord :=
  let base : TrailerRecord := { TrailerRecord.fresh serial model now with custody := .unknown }
  match bound with
  | some (i, pr) => { base with state := .enrolled, profile := some i, f := pr.fth, mask := heldMask pr.mask }
  | none => base

/-- What a move carries into the arriving record (R36, step 2). -/
def TrailerRecord.carried (owner : TrailerRecord) (model : Word16) (now : Time) : TrailerRecord :=
  { TrailerRecord.fresh owner.serial model now with
    profile := owner.profile, arrival := owner.arrival, f := owner.f, r := owner.r,
    lastDefrostEnd := owner.lastDefrostEnd, door := owner.door, custody := owner.custody, fuel := owner.fuel,
    inhibit := owner.inhibit, deferral := owner.deferral, active := owner.active, noted := owner.noted,
    mask := owner.mask }

/-! ## Enrolment (R34) -/

/-- The notice of a binding and the clear of UNKNOWN-MODEL (R34). -/
def State.announceEnrolment (s : State) (p : Post) (i : ProfileId) : State :=
  (s.item p (.enrolled i)).clearFinding p .unknownModel false

/-- A record is enrolled with the enrolment values (R34, R46). -/
def State.enrol (s : State) (p : Post) (i : ProfileId) (pr : Profile) : State :=
  (s.editTrailer p fun t => t.enrolled i pr).announceEnrolment p i

/-- A match within a move or a confirmation binds the profile and keeps the record's values (R34). -/
def State.bindKeeping (s : State) (p : Post) (i : ProfileId) : State :=
  (s.editTrailer p fun t => { t with state := .enrolled, profile := some i }).announceEnrolment p i

/-- The model-code match tried on an ARRIVING record (R33, R34), `keeping` its values within a move or a confirmation;
where no profile matches, UNKNOWN-MODEL is produced (log entry 35). -/
def State.tryMatch (s : State) (p : Post) (keeping : Bool) : State :=
  match s.matching (s.trailer p).model with
  | some (i, pr) => if keeping then s.bindKeeping p i else s.enrol p i pr
  | none => s.produce p .unknownModel (s.trailer p).model.toNat 0

/-- A record whose profile id names a valid profile becomes ENROLLED; any other loses its profile id and becomes
ARRIVING (R36, step 5; R40). The answer tells whether it became ENROLLED. -/
def State.settleBinding (s : State) (p : Post) : State × Bool :=
  if (s.profileOf (s.trailer p)).isSome then (s.editTrailer p fun t => { t with state := .enrolled }, true)
  else (s.editTrailer p fun t => { t with state := .arriving, profile := none }, false)

/-! ## A status in progress at the table -/

/-- What the table has made of a status so far: the state, what the owners read as it stood when the status reached the
record (R48), the count of rebuild times where a rebuild calls for RECORD-REBUILT (R28, R36), and whether a run of the
trailer has ended at this arrival (R76). -/
structure Arrival where
  s : State
  before : AtArrival
  rebuilt : Option Nat
  ended : Bool

/-- The status goes on with another state. -/
def Arrival.on (a : Arrival) (f : State → State) : Arrival := { a with s := f a.s }

/-- The arrival of an unknown serial with the rebuild values (R28, R36): no ARRIVED or ENROLLED item. -/
def State.arriveRebuilt (s : State) (p : Post) (rep : StatusReport) : State :=
  let bound := s.matching rep.model
  let placed := (s.putTrailer p (.rebuilt rep.serial rep.model s.now bound)).dirInsert rep.serial p
  if bound.isNone then placed.produce p .unknownModel rep.model.toNat 0 else placed

/-- The arrival of an unknown serial (R33). -/
def State.arriveUnknown (s : State) (p : Post) (rep : StatusReport) : State :=
  ((((s.putTrailer p (.fresh rep.serial rep.model s.now)).dirInsert rep.serial p).item p
    (.arrived rep.serial rep.model)).tryMatch p false)

/-- The gone test (R35). -/
def State.gone (s : State) (owner : Post) : Bool :=
  !(decide ((s.entry owner).map (·.state) = some .live) &&
    (decide ((s.trailer owner).state = .arriving) || decide ((s.trailer owner).state = .enrolled)))

/-- The move of a record that verifies (R36, steps 1 to 6). -/
def State.carry (s : State) (owner p : Post) (rep : StatusReport) : State :=
  let cut := s.cutShort owner .move
  let placed := (cut.withdrawActions p).putTrailer p ((cut.trailer owner).carried rep.model s.now)
  let acting := (placed.settleActions p).clearFinding p .linkLost false
  let left := ((acting.putTrailer owner .vacant).withdrawActions owner).dirRepoint rep.serial p
  let bound := left.settleBinding p
  let settled := if bound.2 then bound.1 else bound.1.tryMatch p true
  settled.item p (.moved owner p)

/-- The move path (R36), with the rebuild of an owner record that does not verify. -/
def Arrival.move (a : Arrival) (owner p : Post) (rep : StatusReport) : Arrival :=
  let ended := a.ended || (a.s.run owner).isSome
  if (a.s.trailer owner).verifies then { a with s := a.s.carry owner p rep, ended := ended }
  else
    let away := a.s.rebuildAway owner
    { a with
      s := (away.emptySets p).arriveRebuilt p rep, rebuilt := some away.rebuilds.length, ended := ended }

/-- The hold path (R37). -/
def State.hold (s : State) (owner p : Post) (rep : StatusReport) : State :=
  (s.putTrailer p { TrailerRecord.fresh rep.serial rep.model s.now with state := .held }).produce p .duplicateUnit
    owner.val 0

/-- An arrival on a VACANT record (R33). -/
def Arrival.arrive (a : Arrival) (p : Post) (rep : StatusReport) : Arrival :=
  match a.s.dirLookup rep.serial with
  | some owner => if a.s.gone owner then a.move owner p rep else a.on fun s => s.hold owner p rep
  | none => a.on fun s => if a.rebuilt.isSome then s.arriveRebuilt p rep else s.arriveUnknown p rep

/-- The retry of a HELD record (R37, R38). On the move path DUPLICATE-UNIT clears before the owner's record is verified; on
the other path it clears after ARRIVED, and every other class leaves the sets with no item (log entry 39). -/
def Arrival.retryHeld (a : Arrival) (p : Post) (rep : StatusReport) : Arrival :=
  match a.s.dirLookup rep.serial with
  | none =>
    a.on fun s =>
      let cleared := (s.item p (.arrived rep.serial rep.model)).clearFinding p .duplicateUnit false
      (((cleared.emptySets p).putTrailer p (.fresh rep.serial rep.model s.now)).dirInsert rep.serial p).tryMatch p false
  | some owner =>
    if a.s.gone owner then (a.on fun s => s.clearFinding p .duplicateUnit false).move owner p rep else a

/-- A same-serial status of a record (R39, R40). -/
def Arrival.same (a : Arrival) (p : Post) (rep : StatusReport) : Arrival :=
  match (a.s.trailer p).state with
  | .vacant => a
  | .enrolled =>
    a.on fun s =>
      (s.editTrailer p fun t =>
        { t with unitAbsent := 0, model := if rep.model = 0 then t.model else rep.model }).clearLinkLost p 2
  | .arriving =>
    a.on fun s =>
      (s.editTrailer p fun t => { t with model := if rep.model = 0 then t.model else rep.model }).tryMatch p false
  | .held => a.retryHeld p rep
  | .restored =>
    a.on fun s =>
      let bound := (s.editTrailer p fun t => { t with model := rep.model }).settleBinding p
      if bound.2 then
        match (bound.1.trailer p).profile with
        | some i => bound.1.item p (.enrolled i)
        | none => bound.1
      else bound.1.tryMatch p true

/-- A status with no unit at an ENROLLED record (R31). -/
def State.countAbsent (s : State) (p : Post) : State :=
  let n := (s.trailer p).unitAbsent
  let counted := s.editTrailer p fun t => { t with unitAbsent := min 3 (n + 1) }
  if n = 2 then counted.produce p .linkLost 2 0 else counted

/-- What a status says of the unit at the post (R26): a link PRESENT with serial 0 counts as ABSENT. -/
def StatusReport.unit (rep : StatusReport) : PlugLink :=
  match rep.plugLink with
  | .unplugged => .unplugged
  | .noUnit => .noUnit
  | .unit => if rep.serial = 0 then .noUnit else .unit

/-- The verification of the post's own record, with its rebuild (R26, R28). -/
def State.verifyAt (s : State) (p : Post) : Arrival :=
  let t := s.trailer p
  if t.verifies then { s := s, before := t.atArrival, rebuilt := none, ended := false }
  else if t.state = .vacant then
    { s := (s.putTrailer p .vacant).recordRebuild, before := TrailerRecord.vacant.atArrival, rebuilt := none,
      ended := false }
  else
    let away := s.rebuildAway p
    { s := away, before := TrailerRecord.vacant.atArrival, rebuilt := some away.rebuilds.length,
      ended := t.run.isSome }

/-- The lifecycle step (2.4). -/
def Arrival.lifecycle (a : Arrival) (p : Post) (rep : StatusReport) : Arrival :=
  let t := a.s.trailer p
  match rep.unit with
  | .unplugged =>
    if t.state ≠ .vacant then a.on fun s => s.depart p
    else if a.rebuilt.isSome then a.on fun s => s.item p (.departed 0)
    else a
  | .noUnit =>
    if t.state = .enrolled then a.on fun s => s.countAbsent p
    else if a.rebuilt.isSome then a.on fun s => s.item p (.departed 0)
    else a
  | .unit =>
    if t.state = .vacant then a.arrive p rep
    else if t.serial = rep.serial then a.same p rep
    else ({ a with s := a.s.depart p, before := TrailerRecord.vacant.atArrival } : Arrival).arrive p rep

/-- The last status time of a record that is not VACANT (R26). -/
def State.stampStatus (s : State) (p : Post) : State :=
  if (s.trailer p).state = .vacant then s else s.editTrailer p fun t => { t with lastStatus := some s.now }

/-- Whether a post's bound profile has a fuel sender. -/
def State.senderFitted (s : State) (p : Post) : Bool :=
  match s.profileOf (s.trailer p) with
  | some pr => pr.sender
  | none => false

/-- The evaluation of an ENROLLED record (R26): frost, fuel, door, run, filing, and the walk that H calls for (R127). -/
def Arrival.evaluate (a : Arrival) (p : Post) (rep : StatusReport) (wasHeating : Bool) : State :=
  let fuelled := (a.s.frostEvaluation p rep a.before).fuelEvaluation p rep a.before
  let door := fuelled.doorEvaluation p rep
  let run := door.1.runEvaluation p rep door.2 wasHeating
  let filed := run.1.filing p rep (a.ended || run.2)
  if filed.senderFitted p then filed.walkForHours p else filed

/-- A GOOD status at the Trailer Table (R26). RECORD-REBUILT is produced when the status has been handled (R28, log
entry 13). -/
def State.statusAtTable (s : State) (p : Post) (rep : StatusReport) (wasHeating : Bool) : State :=
  let a := (s.verifyAt p).lifecycle p rep
  let stamped := a.on fun s' => s'.stampStatus p
  let handled :=
    if (stamped.s.trailer p).state = .enrolled ∧ rep.unit = .unit then stamped.evaluate p rep wasHeating
    else stamped.s
  match a.rebuilt with
  | some n => if (handled.trailer p).state = .vacant then handled else handled.produce p .recordRebuilt n 0
  | none => handled

/-- The discard of records still RESTORED on a line (R41). -/
def State.discardRestored (s : State) (l : Line) : State :=
  s.forEach (postsOn l) fun s' p => if (s'.trailer p).state = .restored then s'.depart p else s'

end Sys2Proof.Machine
end

