-- ==== Sys2Proof/Machine/Formats.lean ====
section
/-! DEFINITION. The layouts of 10.6 and the coding of R189: POLL and STATUS on the post lines, the fields of replies, the
TRAILER-QUERY record, the exception frame, notices, and the wire bytes of what the transmitter sends. Widths that the
manual leaves open are the model's (log entry 7). -/

namespace Sys2Proof.Machine

/-! ## POLL and STATUS (10.6) -/

/-- The contents of a POLL before its CRC. -/
def pollContents (address : Nat) (l : Levels) : List Byte := [3, byte1 address, Config.pollType, byte1 l.code]

/-- A POLL on the wire. -/
def pollWire (address : Nat) (l : Levels) : List Byte := wireOf (pollContents address l)

/-- A POLL as a post interface unit reads it from the bytes after its start byte (R20): the address and the levels. -/
def readPoll (bytes : List Byte) : Option (Nat × Levels) :=
  match unescape bytes with
  | none => none
  | some c =>
    if c.length = 6 ∧ byteAt c 0 = 3 ∧ byteAt c 2 = Config.pollType ∧ crc16 (c.take 4) = word16At c 4 then
      (Levels.ofCode (byteAt c 3).toNat).map fun l => ((byteAt c 1).toNat, l)
    else none

/-- A temperature field: 0x8000 where the probe is not fitted. -/
def temperatureField (t : Option Int) : List Byte :=
  match t with
  | some v => signed16 v
  | none => [0x80, 0x00]

/-- A temperature field read. -/
def readTemperature (w : Word16) : Option Int := if w = 0x8000 then none else some w.toInt

/-- The contents of a STATUS before its CRC. -/
def StatusReport.contents (address : Nat) (r : StatusReport) : List Byte :=
  [byte1 Config.statusLength, byte1 address, Config.statusType, byte1 r.plugLink.code] ++ bytes32 r.serial
    ++ bytes16 r.model ++ [byte1 r.mode.code, byte1 r.power.code] ++ temperatureField r.tr ++ temperatureField r.tc
    ++ [byte1 r.door.code] ++ beBytes 2 r.heaterCurrent ++ beBytes 2 r.fuelRaw ++ [byte1 r.actual.code]

/-- The bytes of a STATUS after its start byte, as they travel on the wire. -/
def StatusReport.frameBytes (address : Nat) (r : StatusReport) : List Byte :=
  escape (r.contents address ++ bytes16 (crc16 (r.contents address)))

/-- The fields of STATUS contents, none where a field holds a value outside its listed values. -/
def readStatusFields (c : List Byte) : Option StatusReport :=
  match PlugLink.ofCode (byteAt c 3).toNat, Mode.ofCode (byteAt c 10).toNat, PowerSource.ofCode (byteAt c 11).toNat,
    DoorReport.ofCode (byteAt c 16).toNat, Levels.ofCode (byteAt c 21).toNat with
  | some plug, some mode, some power, some door, some actual =>
    if (word16At c 19).toNat ≤ 1023 then
      some { plugLink := plug, serial := word32At c 4, model := word16At c 8, mode := mode, power := power,
             tr := readTemperature (word16At c 12), tc := readTemperature (word16At c 14), door := door,
             heaterCurrent := (word16At c 17).toNat, fuelRaw := (word16At c 19).toNat, actual := actual }
    else none
  | _, _, _, _, _ => none

/-- A STATUS read from the bytes after its start byte: the address and the report; none where the frame is malformed
(R6). -/
def readStatus (bytes : List Byte) : Option (Nat × StatusReport) :=
  match unescape bytes with
  | none => none
  | some c =>
    if c.length = 24 ∧ (byteAt c 0).toNat = Config.statusLength ∧ byteAt c 2 = Config.statusType
        ∧ crc16 (c.take 22) = word16At c 22 then
      (readStatusFields c).map fun r => ((byteAt c 1).toNat, r)
    else none

/-- The STATUS of a GOOD exchange with an address (R6); none is GARBLED. -/
def goodStatus (address : Nat) (bytes : List Byte) : Option StatusReport :=
  match readStatus bytes with
  | some (a, r) => if a = address then some r else none
  | none => none

/-! ## The fields of replies (R189) -/

/-- A mark or a flag. -/
def flagField (b : Bool) : List Byte := [if b then 1 else 0]

/-- A number in one byte. -/
def num1 (n : Nat) : List Byte := [byte1 n]

/-- A number in two bytes. -/
def num2 (n : Nat) : List Byte := beBytes 2 n

/-- A number in two bytes, saturating (log entry 29). -/
def sat2 (n : Nat) : List Byte := beBytes 2 (min 65535 n)

/-- A number in four bytes. -/
def num4 (n : Nat) : List Byte := beBytes 4 n

/-- An optional one-byte identifier: 0xFF where absent. -/
def opt1 (n : Option Nat) : List Byte := [byte1 (n.getD 255)]

/-- An optional two-byte quantity: 0xFFFF where absent. -/
def opt2 (n : Option Nat) : List Byte := beBytes 2 (n.getD 65535)

/-- A time as a yard-clock time: 0xFFFFFFFF where absent. -/
def State.timeField (s : State) (t : Option Time) : List Byte :=
  match t with
  | some x => signed32 (s.yardTime x)
  | none => [0xFF, 0xFF, 0xFF, 0xFF]

/-- Levels with bit 7 set; 0 where absent. -/
def levelsField (l : Option Levels) : List Byte :=
  match l with
  | some x => [byte1 (128 + x.code)]
  | none => [0]

/-- A list preceded by its one-byte count. -/
def listField {α : Type} (l : List α) (f : α → List Byte) : List Byte := byte1 l.length :: l.flatMap f

/-- A custody tag: its length, then its characters. -/
def tagField (t : List Byte) : List Byte := byte1 t.length :: t

/-- The tag of a custody state. -/
def Custody.tag : Custody → List Byte
  | .closed t | .broken t => t
  | .none | .unknown => []

/-- An exception frame (10.6). -/
def ExceptionFrame.bytes (f : ExceptionFrame) : List Byte :=
  num2 f.push ++ num1 f.cls.num ++ num1 f.post.val ++ signed32 f.yardTime ++ num2 f.detail ++ num2 f.cause
    ++ flagField f.truncated

/-! ## The TRAILER-QUERY record (10.6) -/

/-- The run state byte: 1 to 4 for COMMANDED to ENDING. -/
def RunState.code : RunState → Nat
  | .commanded => 1 | .heating _ => 2 | .suspended _ _ _ => 3 | .ending _ _ _ => 4

/-- The causes of a suspension as a set: DOOR bit 0, LINE 1, POST 2, CUT 3. -/
def causeMask (cs : List CauseEntry) : Nat := cs.foldl (fun m e => m ||| (1 <<< e.cause.code)) 0

/-- The run fields that follow the request fields, 16 bytes; every one 0 with no run. -/
def State.runFields (s : State) (r : Option RunRecord) : List Byte :=
  match r with
  | none => List.replicate 16 0
  | some r =>
    num1 r.state.code ++ num1 r.cls.code ++ num1 r.queue.val ++ s.timeField (some r.grantTime) ++ num2 r.f0
      ++ sat2 (r.heatingAt s.now) ++ sat2 (r.suspendedAt s.now) ++ num1 r.load ++ num1 (causeMask r.causes)
      ++ num1 ((r.outcome.map RunOutcome.code).getD 0)

/-- The fuel flags byte. -/
def fuelFlags (sender : Bool) (a : FuelAccount) : Nat :=
  let mark (f : BurnWindow → Bool) : Bool := (a.window.map f).getD false
  (if sender then 1 else 0) + (if a.started then 2 else 0) + (if a.refuelPending then 4 else 0)
    + (if mark (·.heating) then 8 else 0) + (if mark (·.engine) then 16 else 0) + (if a.window.isSome then 32 else 0)

/-- The fuel fields, offsets 64 to 83. -/
def State.fuelFields (s : State) (sender : Bool) (a : FuelAccount) : List Byte :=
  num1 (fuelFlags sender a) ++ num1 a.invalidCount
    ++ opt2 (if a.started then some (reportedLevel a.lf16) else none) ++ num4 a.lf16 ++ opt2 a.lastLevel
    ++ s.timeField (a.window.map (·.start)) ++ opt2 (a.window.map (·.lfStart)) ++ opt2 a.bs ++ num2 a.hours

/-- The request fields: the queue stands at offset 85, the four others from offset 90. -/
def State.requestFields (s : State) (r : Option (Queue × Request)) : List Byte × List Byte :=
  match r with
  | none => ([0xFF], List.replicate 7 0)
  | some (q, r) =>
    (num1 q.val, num1 r.cls.code ++ num1 r.load ++ s.timeField (some r.filed) ++ num1 r.passes)

/-- The door and custody fields, offsets 46 to 63. The character places that a tag leaves unused hold 0 (log entry 7). -/
def doorFields (d : DoorGroup) (c : Custody) : List Byte :=
  bytes16 d.history ++ num1 d.unknownCount ++ flagField d.ajarReported ++ num1 c.code
    ++ (tagField c.tag ++ List.replicate (12 - c.tag.length) 0)

/-- Pn, signed; 0x80000000 where absent. -/
def pnField (pn : Option Int) : List Byte :=
  match pn with
  | some n => signed32 n
  | none => [0x80, 0, 0, 0]

/-- The post's part of the record: mismatch count, delivered and last actual levels, offsets 113 to 115. -/
def outputFields (o : Option OutputState) : List Byte :=
  match o with
  | none => [0, 0, 0]
  | some o => num1 o.mismatch ++ levelsField o.delivered ++ levelsField o.actual

/-- The post state byte, with the plugged-no-unit indication at bit 7. -/
def postStateByte (e : Option PostEntry) : Nat :=
  match e with
  | none => 0
  | some e => e.state.code + if e.pluggedNoUnit then 128 else 0

/-- The TRAILER-QUERY reply record, 154 bytes (10.6). -/
def State.trailerRecordBytes (s : State) (p : Post) : List Byte :=
  let t := s.trailer p
  let req := s.requestFields (s.requestOf p)
  num1 p.val ++ num1 t.state.code ++ num1 (postStateByte (s.entry p)) ++ flagField (!t.verifies)
    ++ bytes32 t.serial ++ bytes16 t.model ++ opt1 (t.profile.map (·.val)) ++ num1 t.unitAbsent
    ++ s.timeField t.arrival ++ s.timeField t.lastStatus ++ s.timeField t.lastEval
    ++ temperatureField t.tr ++ temperatureField t.tc ++ num1 t.trInvalid ++ num1 t.tcInvalid
    ++ num2 t.f ++ num1 t.r ++ opt1 (t.door.held.map Door.code)
    ++ s.timeField t.lastDefrostEnd ++ s.timeField t.door.openingTime ++ pnField t.door.pn
    ++ doorFields t.door t.custody ++ s.fuelFields (s.senderFitted p) t.fuel
    ++ flagField t.inhibit ++ req.1 ++ s.timeField t.deferral ++ req.2 ++ s.runFields t.run
    ++ outputFields (s.output p) ++ num2 (activeMask t.active) ++ num2 (notedMask t.noted) ++ bytes16 t.mask
    ++ FindingClass.all.flatMap fun c => num2 (((t.activeOf c).bind (·.push)).getD 0)

/-! ## Notices (R185, 10.6) -/

/-- The kind of an item, in the order of R185. -/
def ItemBody.kind : ItemBody → Nat
  | .arrived _ _ => 0 | .enrolled _ => 1 | .moved _ _ => 2 | .departed _ => 3 | .defrostStarted _ _ _ _ => 4
  | .defrostEnded _ _ _ _ _ => 5 | .refuel _ _ => 6 | .findingNoted _ _ _ _ => 7 | .findingRaised _ _ _ _ _ => 8
  | .findingCleared _ _ => 9 | .custodyChanged _ => 10

/-- What an item carries. -/
def ItemBody.fields : ItemBody → List Byte
  | .arrived serial model => bytes32 serial ++ bytes16 model
  | .enrolled i => num1 i.val
  | .moved owner arriving => num1 owner.val ++ num1 arriving.val
  | .departed serial => bytes32 serial
  | .defrostStarted cls q load first =>
    num1 cls.code ++ num1 q.val ++ num1 load ++ num1 (match first with | .commanded => 0 | .heating => 1)
  | .defrostEnded o f0 heating suspended stuck =>
    num1 o.code ++ num2 f0 ++ sat2 heating ++ sat2 suspended ++ flagField stuck
  | .refuel amount level => num2 amount ++ num2 level
  | .findingNoted c severity detail cause => num1 c.num ++ num1 severity ++ num2 detail ++ num2 cause
  | .findingRaised c severity detail push cause =>
    num1 c.num ++ num1 severity ++ num2 detail ++ num2 push ++ num2 cause
  | .findingCleared c acknowledged => num1 c.num ++ flagField acknowledged
  | .custodyChanged c => num1 c.code ++ tagField c.tag

/-- An item: its kind, its yard time, what it carries, in that order (R185; log entry 7). -/
def NoticeItem.bytes (i : NoticeItem) : List Byte := num1 i.body.kind ++ signed32 i.yardTime ++ i.body.fields

/-- A NOTICE as a host frame: tag 0, post, item count and items. -/
def Notice.frame (n : Notice) : HostFrame :=
  { type := Config.noticeType, tag := 0, payload := num1 n.post.val ++ listField n.items NoticeItem.bytes }

/-- A reply as a host frame (R181). -/
def Reply.frame (r : Reply) : HostFrame :=
  { type := r.type ||| 0x80, tag := r.tag, payload := byte1 r.status.code :: r.body }

/-- The wire bytes of the frame the transmitter sends (R178, R184). -/
def TxFrame.wire : TxFrame → List Byte
  | .reply r => r.frame.wire
  | .notice n => n.frame.wire

/-- The POLL that an exchange in flight has sent. -/
def Exchange.wire (x : Exchange) : List Byte := pollWire (postAddress x.post) x.levels

end Sys2Proof.Machine
end

