-- ==== Sys2Proof/Machine/Image.lean ====
section
/-! DEFINITION. The image (10.6, R42, R196, R198): packing a record and reading a packed one, the order of the records, the
blocks of a flush, and reading the image area at a start. -/

namespace Sys2Proof.Machine

/-! ## The packed record (10.6) -/

/-- The saved values of a record, as the packed record carries them: ages and remaining times in place of times, 0 for
what is absent. -/
structure Saved where
  post : Post
  serial : Nat
  profile : Option Nat
  f : Nat
  r : Nat
  endAge : Nat
  history : Nat
  pnAge : Nat
  custody : Nat
  tag : List Byte
  lf16 : Nat
  bs : Nat
  mask : Nat
  active : Nat
  noted : Nat
  inhibit : Nat
  remaining : Nat
  deriving DecidableEq, Repr

/-- A number saturating at the largest that `k` bytes hold. -/
def saturate (k : Nat) (n : Int) : Nat := min (256 ^ k - 1) n.toNat

/-- The saved values of a record at a moment (R196). -/
def TrailerRecord.saved (t : TrailerRecord) (p : Post) (now : Time) (hp : Nat) : Saved :=
  { post := p, serial := t.serial.toNat, profile := t.profile.map (·.val), f := t.f, r := t.r
    endAge := match t.lastDefrostEnd with
      | some e => saturate 4 (now - e + 1)
      | none => 0
    history := t.door.history.toNat
    pnAge := match t.door.pn with
      | some n => saturate 2 (periodOf now hp - n)
      | none => 0
    custody := t.custody.code, tag := t.custody.tag, lf16 := t.fuel.lf16, bs := t.fuel.bs.getD 0,
    mask := t.mask.toNat, active := activeMask t.active, noted := notedMask t.noted
    inhibit := if t.inhibit then 1 else 0
    remaining := match t.deferral with
      | some d => saturate 2 (d - now)
      | none => 0 }

/-- A field of a packed record in `k` bytes: its bit is set when its value is not 0. -/
def packNumber (k n : Nat) : Bool × List Byte := (decide (n ≠ 0), beBytes k n)

/-- The sixteen fields in the order of the mask bits. -/
def Saved.fields (v : Saved) : List (Bool × List Byte) :=
  [packNumber 4 v.serial, (v.profile.isSome, beBytes 1 (v.profile.getD 0)), packNumber 2 v.f, packNumber 1 v.r,
   packNumber 4 v.endAge, packNumber 2 v.history, packNumber 2 v.pnAge, packNumber 1 v.custody,
   (decide (v.tag ≠ []), tagField v.tag), packNumber 3 v.lf16, packNumber 2 v.bs, packNumber 2 v.mask,
   packNumber 2 v.active, packNumber 2 v.noted, packNumber 1 v.inhibit, packNumber 2 v.remaining]

/-- The save mask of fields, the first at bit 0. -/
def saveMask : List (Bool × List Byte) → Nat
  | [] => 0
  | f :: rest => (if f.1 then 1 else 0) + 2 * saveMask rest

/-- A packed record: post index, save mask, and each field whose bit is set. -/
def Saved.bytes (v : Saved) : List Byte :=
  byte1 v.post.val :: (beBytes 2 (saveMask v.fields) ++ v.fields.flatMap fun f => if f.1 then f.2 else [])

/-- A field of `k` bytes read where its bit is set; 0 where it is not. -/
def takeNumber (present : Bool) (k : Nat) (bs : List Byte) : Option (Nat × List Byte) :=
  if present then if k ≤ bs.length then some (beNat (bs.take k), bs.drop k) else none else some (0, bs)

/-- A custody tag read where its bit is set. -/
def takeTag (present : Bool) (bs : List Byte) : Option (List Byte × List Byte) :=
  if present then
    match bs with
    | [] => none
    | n :: rest =>
      if n.toNat ≤ 12 ∧ n.toNat ≤ rest.length then some (rest.take n.toNat, rest.drop n.toNat) else none
  else some ([], bs)

/-- Saved values within the ranges of their fields (log entry 30, which names what is not tested too: a custody tag
beside its state, bit 15 of a history word, and a burn rate above the 59994 of 6.1). -/
def Saved.ok (v : Saved) : Bool :=
  decide ((v.profile.getD 0) < 32) && decide (v.r < 16) && decide (v.custody < 4) && decide (v.lf16 ≤ 159984)

/-- The first packed record of some bytes, with the bytes after it. -/
def takeRecord (bs : List Byte) : Option (Saved × List Byte) := do
  let (post, bs) ← takeNumber true 1 bs
  let (mask, bs) ← takeNumber true 2 bs
  let has (i : Nat) : Bool := mask.testBit i
  let (serial, bs) ← takeNumber (has 0) 4 bs
  let (profile, bs) ← takeNumber (has 1) 1 bs
  let (f, bs) ← takeNumber (has 2) 2 bs
  let (r, bs) ← takeNumber (has 3) 1 bs
  let (endAge, bs) ← takeNumber (has 4) 4 bs
  let (history, bs) ← takeNumber (has 5) 2 bs
  let (pnAge, bs) ← takeNumber (has 6) 2 bs
  let (custody, bs) ← takeNumber (has 7) 1 bs
  let (tag, bs) ← takeTag (has 8) bs
  let (lf16, bs) ← takeNumber (has 9) 3 bs
  let (burn, bs) ← takeNumber (has 10) 2 bs
  let (raise, bs) ← takeNumber (has 11) 2 bs
  let (active, bs) ← takeNumber (has 12) 2 bs
  let (noted, bs) ← takeNumber (has 13) 2 bs
  let (inhibit, bs) ← takeNumber (has 14) 1 bs
  let (remaining, bs) ← takeNumber (has 15) 2 bs
  let p ← postOf (byte1 post)
  let v : Saved :=
    { post := p, serial := serial, profile := if has 1 then some profile else none, f := f, r := r, endAge := endAge,
      history := history, pnAge := pnAge, custody := custody, tag := tag, lf16 := lf16, bs := burn, mask := raise,
      active := active, noted := noted, inhibit := inhibit, remaining := remaining }
  if v.ok then some (v, bs) else none

/-- Exactly `n` packed records that take up all of some bytes. -/
def takeRecords : Nat → List Byte → Option (List Saved)
  | 0, bs => if bs = [] then some [] else none
  | n + 1, bs =>
    match takeRecord bs with
    | none => none
    | some (v, rest) => (takeRecords n rest).map (v :: ·)

/-! ## Image blocks (10.6, R196) -/

/-- An image block whole: its completion mark written last; the bytes between the records and the mark stay erased. -/
def imageBlock (number sequence : Nat) (records : List (List Byte)) : List Byte :=
  let body := records.flatten
  beBytes 2 number ++ byte1 sequence :: byte1 records.length :: (beBytes 2 body.length ++ body
    ++ List.replicate (Config.imageRoom - body.length) 0xFF) ++ [0x5A, 0xA5]

/-- Packed records placed in blocks in order: a record that does not fit in the room left starts the next block. `open'`
holds the records of the block being filled. -/
def fillBlocks (open' : List (List Byte)) : List (List Byte) → List (List (List Byte))
  | [] => [open']
  | r :: rest =>
    if open'.flatten.length + r.length ≤ Config.imageRoom then fillBlocks (open' ++ [r]) rest
    else open' :: fillBlocks [r] rest

/-- The bytes of the blocks of a flush, from block 38 upward. -/
def flushBlocks (number : Nat) (records : List (List Byte)) : List (List Byte) :=
  (fillBlocks [] records).mapIdx fun i rs => imageBlock number i rs

/-- The flush number of a flush (R196). -/
def flushNumber (imageNumber : Option Nat) : Nat :=
  match imageNumber with
  | none => 0
  | some n => if 65534 ≤ n then 0 else n + 1

/-- The flush number and the records of an image block that is valid at its place (R198, step 4). -/
def readImageBlock (sequence : Nat) (bs : List Byte) : Option (Nat × List Saved) :=
  let used := (word16At bs 4).toNat
  if word16At bs 254 = 0x5AA5 ∧ (byteAt bs 2).toNat = sequence ∧ used ≤ Config.imageRoom then
    (takeRecords (byteAt bs 3).toNat ((bs.drop 6).take used)).map fun rs => ((word16At bs 0).toNat, rs)
  else none

/-- The records of the blocks that go on from a valid block, with its flush number (R198, step 4). -/
def readOnward (number sequence : Nat) : List (List Byte) → List Saved
  | [] => []
  | b :: rest =>
    match readImageBlock sequence b with
    | some (n, rs) => if n = number then rs ++ readOnward number (sequence + 1) rest else []
    | none => []

/-- The image of an image area: its flush number and its records; none where block 38 is not valid (R198, step 4). -/
def readImage : List (List Byte) → Option (Nat × List Saved)
  | [] => none
  | b :: rest =>
    match readImageBlock 0 b with
    | some (n, rs) => some (n, rs ++ readOnward n 1 rest)
    | none => none

/-- The image area of the store, blocks 38 to 101 in order. -/
def State.imageArea (s : State) : List (List Byte) := (List.range 64).map fun i => (s.block (Fin.ofNat 102 (38 + i))).bytes

/-! ## The records of a flush (R196) -/

/-- Whether a record is saved. -/
def TrailerRecord.isSaved (t : TrailerRecord) : Bool := decide (t.state = .enrolled) || decide (t.state = .restored)

/-- Custody CLOSED or BROKEN. -/
def Custody.declared : Custody → Bool
  | .closed _ | .broken _ => true
  | .none | .unknown => false

/-- The group of a saved record, 1 to 3. -/
def TrailerRecord.group (t : TrailerRecord) : Nat :=
  if t.custody.declared then 1 else if t.state = .enrolled ∧ t.run.isSome then 2 else 3

/-- The posts whose records a flush takes, in its order (R196). -/
def State.flushOrder (s : State) : List Post :=
  let saved := allPosts.filter fun p => (s.trailer p).isSaved
  [1, 2, 3].flatMap fun g => saved.filter fun p => decide ((s.trailer p).group = g)

/-- The packed records of a flush, those that verify (R196). -/
def State.packedRecords (s : State) : List (List Byte) :=
  (s.flushOrder.filter fun p => (s.trailer p).verifies).map fun p =>
    ((s.trailer p).saved p s.now s.config.hp).bytes

/-! ## The restore (R42, R130, R133) -/

/-- The classes of a saved set with detail 0 and no push number (R42, R152). -/
def restoredActive (mask : Nat) : List ActiveFinding :=
  (FindingClass.all.filter fun c => mask.testBit c.num).map fun c => { cls := c, detail := 0, push := none }

def restoredNoted (mask : Nat) : List NotedFinding :=
  (FindingClass.all.filter fun c => mask.testBit c.num).map fun c => { cls := c, detail := 0 }

/-- A saved custody state and tag. -/
def restoredCustody (code : Nat) (tag : List Byte) : Custody :=
  match code with
  | 1 => .closed tag
  | 2 => .broken tag
  | 3 => .unknown
  | _ => .none

/-- The restored fuel fields (R130). -/
def restoredFuel (lf16 bs : Nat) : FuelAccount :=
  { FuelAccount.start with
    started := decide (lf16 ≠ 0), lf16 := lf16, bs := if bs = 0 then none else some bs }.recompute

/-- The record of a packed record at a restore (R42, R133, R198). -/
def Saved.record (v : Saved) (now : Time) (hp : Nat) : TrailerRecord :=
  { TrailerRecord.fresh (BitVec.ofNat 32 v.serial) 0 now with
    state := .restored, profile := v.profile.map (Fin.ofNat 32), f := v.f, r := v.r
    lastDefrostEnd := if v.endAge = 0 then none else some (now - v.endAge + 1)
    door := { DoorGroup.vacant with
      history := BitVec.ofNat 16 v.history
      pn := if v.history = 0 then none else some (periodOf now hp - v.pnAge) }
    custody := restoredCustody v.custody v.tag, fuel := restoredFuel v.lf16 v.bs, inhibit := decide (v.inhibit ≠ 0)
    deferral := if v.remaining = 0 then none else some (now + v.remaining)
    active := restoredActive v.active, noted := restoredNoted v.noted, mask := heldMask (BitVec.ofNat 16 v.mask) }

/-- Whether a post's address is installed by the configuration in force. -/
def State.installed (s : State) (p : Post) : Bool :=
  (s.lineConfig (postLine p)).installed.getLsbD (addressIndex p).val

/-- A packed record restored, or dropped (R42): its address not installed, its serial in the directory already, or its
post taken already (log entry 30). -/
def State.restoreRecord (s : State) (v : Saved) : State :=
  let serial : Word32 := BitVec.ofNat 32 v.serial
  if !s.installed v.post || (s.dirLookup serial).isSome || decide ((s.trailer v.post).state ≠ .vacant) then s
  else
    ((s.putTrailer v.post (v.record s.now s.config.hp)).dirInsert serial v.post).settleActions v.post

end Sys2Proof.Machine
end

