-- ==== Sys2Proof/Machine/HoldUp.lean ====
section
/-! DEFINITION. Hold-Up Control (11.3 to 11.5): restart causes and their priority, the restart and its image flush, the
wait for mains, the start, and power going off and on. -/

namespace Sys2Proof.Machine

/-! ## Free bytes (log entries 11 and 31) -/

/-- `n` free bytes drawn. -/
def State.freeBytes (s : State) (n : Nat) : List Byte × State :=
  ((List.range n).map fun i => Config.freeByte (s.freeCount + i), { s with freeCount := s.freeCount + n })

/-- A block whose write or erase was cut off: free bytes, its mark as given. -/
def State.spoilBlock (s : State) (b : Fin 102) (mark : Bool) : State :=
  let d := s.freeBytes 256
  d.2.putBlock b { bytes := d.1, mark := mark }

/-- An image block whose write was cut off: free bytes, and no completion mark. -/
def State.spoilImage (s : State) (b : Fin 102) : State :=
  let d := s.freeBytes 254
  d.2.putBlock b { bytes := d.1 ++ [0xFF, 0xFF], mark := true }

/-! ## Causes (R195, R197) -/

/-- The priority of a cause, highest first; a POWER-ON or a MAINS-DIP is no cause. -/
def Reason.rank : Reason → Nat
  | .mainsLoss => 0 | .tableFault => 1 | .hostRestart => 2 | .powerOn => 3 | .mainsDip => 3

/-- The restart record after a cause that reaches a pending restart (R197). -/
def RestartRecord.take (r : RestartRecord) (c : Reason) : RestartRecord :=
  if r.primary = some c then r
  else
    match r.secondary with
    | some x => if x.rank ≤ c.rank then r else { r with secondary := some c }
    | none => { r with secondary := some c }

/-- A write in flight is abandoned (R194): the block's mark stays clear, and the reply RESTARTING is formed. -/
def State.abandonWrite (s : State) : State :=
  match s.write with
  | none => s
  | some w =>
    ({ s with write := none }.spoilBlock w.block false).formReply
      { type := 0x15, tag := w.tag, status := .restarting, body := [] }

/-- The flush starts (R196): records that fail their check are recorded as rebuilds, a TABLE-FAULT that results goes to
the restart record, and the first block is being written. Every record is verified as the flush starts, before any block is
written (log entry 45). -/
def State.beginFlush (s : State) : State :=
  let bad := s.flushOrder.filter fun p => !(s.trailer p).verifies
  let blocks := flushBlocks (flushNumber s.imageNumber) s.packedRecords
  let counted := s.forEach bad fun s' _ => s'.recordRebuild
  { counted with
    restartRecord := counted.heldCauses.foldl RestartRecord.take counted.restartRecord, heldCauses := []
    phase := .flushing Config.firstImage blocks }

/-- A restart begins with a reason (R195): polling stops, every open station flushes, a write in flight goes on or is
abandoned, and the flush starts once none is in flight. The stations flush before the reply RESTARTING of an abandoned
write is formed, so an idle transmitter begins a notice first (R188, R194; log entry 16). -/
def State.beginRestart (s : State) (r : Reason) : State :=
  let stopped : State :=
    { s with
      restartRecord := { primary := some r, secondary := none }, phase := .flushWaiting
      lineA := { s.lineA with round := none }, lineB := { s.lineB with round := none } }
  let flushed := State.flushAll stopped.stations.length stopped
  let settled := if r = .mainsLoss then flushed.abandonWrite else flushed
  if settled.write.isNone then settled.beginFlush else settled

/-- A cause reaches a pending restart (R194, R197). -/
def State.pendingCause (s : State) (c : Reason) : State :=
  let recorded : State := { s with restartRecord := s.restartRecord.take c }
  if c = .mainsLoss ∧ s.write.isSome then recorded.abandonWrite.beginFlush else recorded

/-- Hold-Up Control takes a cause (R195, R197, R198): held while a start runs, lost while the module is off. -/
def State.takeCause (s : State) (c : Reason) : State :=
  match s.phase with
  | .running => s.beginRestart c
  | .flushWaiting | .flushing _ _ | .awaitingMains => s.pendingCause c
  | .starting _ => s.handCause c
  | .off => s

/-- Causes in the priority order of R197. -/
def orderedCauses (cs : List Reason) : List Reason :=
  [Reason.mainsLoss, .tableFault, .hostRestart].flatMap fun c => cs.filter fun x => decide (x = c)

/-- The causes handed to Hold-Up Control are taken, the highest first (R29, R198; log entry 14). -/
def State.settleCauses (s : State) : State :=
  (orderedCauses s.heldCauses).foldl State.takeCause { s with heldCauses := [] }

/-! ## The start (R198) -/

/-- The judgement of a block (R191): its content joins the configuration, or its number joins the invalid blocks. -/
def judgeBlock (store : Vector StoreBlock 102) (acc : YardConfig × List Nat) (b : Nat) : YardConfig × List Nat :=
  let k := store.get (Fin.ofNat 102 b)
  match if k.mark then readBlock b k.bytes else none with
  | some c => if acc.1.admits c then (acc.1.put c, acc.2) else (acc.1, acc.2 ++ [b])
  | none => (acc.1, acc.2 ++ [b])

/-- Blocks 1 to 37 judged in ascending order (R191; log entry 15). -/
def judgeBlocks (store : Vector StoreBlock 102) : YardConfig × List Nat :=
  (List.range 37).foldl (fun acc i => judgeBlock store acc (i + 1)) (.factory, [])

/-- Everything held in working memory at its start value, with what a start keeps. -/
def State.clearWorking (s : State) : State :=
  { State.reset with
    runCounter := s.runCounter, yardOffset := s.yardOffset, clockInvalid := s.clockInvalid, keySwitch := s.keySwitch
    rateSwitch := s.rateSwitch, rate := s.rate, mainsPresent := s.mainsPresent, store := s.store
    invalidBlocks := s.invalidBlocks, asFactory := s.asFactory, config := s.config, phase := s.phase
    restartRecord := s.restartRecord, startPrimary := s.startPrimary, startSecondary := s.startSecondary
    imageNumber := s.imageNumber, freeCount := s.freeCount, pending := s.pending }

/-- Steps 2 to 4 of a start (R198), and the erase of block 101 begins: the reasons are taken from the restart record,
the switch and the blocks are read, the image is restored. -/
def State.beginStart (s : State) : State :=
  let judged := judgeBlocks s.store
  let image := readImage s.imageArea
  let cleared : State :=
    { s.clearWorking with
      startPrimary := s.restartRecord.primary.getD .powerOn
      startSecondary := if s.restartRecord.primary.isSome then s.restartRecord.secondary else none
      restartRecord := { primary := none, secondary := none }
      rate := s.rateSwitch, config := judged.1, invalidBlocks := judged.2, asFactory := judged.2
      imageNumber := image.map (·.1), phase := .starting Config.lastImage }
  match image with
  | some (_, records) => cleared.forEach records State.restoreRecord
  | none => cleared

/-- A post's entry and output state at their start values (R8, R165). -/
def State.installPost (s : State) (p : Post) : State :=
  (s.putEntry p (some { state := .unseen, missed := 0, lastGood := none, pluggedNoUnit := false })).putOutput p
    (some (s.startOutput p))

/-- A line starts (R18). -/
def State.startLine (s : State) (l : Line) : State :=
  let c := s.lineConfig l
  let posts := installedPosts l c.installed
  (s.putLine l (.start (if posts = [] then .off else .recovering) c)).forEach posts State.installPost

/-- Step 6 of a start, and the causes held during it (R198). -/
def State.finishStart (s : State) : State :=
  (({ s with phase := .running }.startLine .a).startLine .b).settleCauses

/-- An image block has been erased (R198, step 5); after block 38 the start finishes. -/
def State.eraseNext (s : State) : State :=
  match s.phase with
  | .starting b =>
    let erased := s.putBlock (Fin.ofNat 102 b) erasedBlock
    if b ≤ Config.firstImage then erased.finishStart else { erased with phase := .starting (b - 1) }
  | .running | .flushWaiting | .flushing _ _ | .awaitingMains | .off => s

/-! ## The end of a flush and the wait for mains (R197) -/

/-- Whether a restart record waits for mains. -/
def RestartRecord.waitsForMains (r : RestartRecord) : Bool :=
  decide (r.primary = some .mainsLoss) || decide (r.secondary = some .mainsLoss)

/-- The slot after a mains dip or a supply failure: the former primary reason when that was not MAINS-LOSS, and
otherwise what it held (R197). -/
def RestartRecord.formerPrimary (r : RestartRecord) : Option Reason :=
  if r.primary = some .mainsLoss then r.secondary else r.primary

/-- Mains is present when the flush ends, or returns before the supply fails (R197). -/
def State.mainsDip (s : State) : State :=
  { s with restartRecord := { primary := some .mainsDip, secondary := s.restartRecord.formerPrimary } }.beginStart

/-- The flush has ended (R197). -/
def State.flushEnded (s : State) : State :=
  if s.restartRecord.waitsForMains then
    if s.mainsPresent then s.mainsDip else { s with phase := .awaitingMains }
  else s.beginStart

/-- An image block has been written (R196). -/
def State.flushNext (s : State) : State :=
  match s.phase with
  | .flushing b (k :: rest) =>
    let written := s.putBlock (Fin.ofNat 102 b) { bytes := k, mark := true }
    match rest with
    | [] => written.flushEnded
    | _ :: _ => { written with phase := .flushing (b + 1) rest }
  | .flushing _ [] => s.flushEnded
  | .running | .flushWaiting | .awaitingMains | .starting _ | .off => s

/-! ## Mains and power -/

/-- The mains monitor reports loss (R195, R197). -/
def State.loseMains (s : State) : State := ({ s with mainsPresent := false }).takeCause .mainsLoss

/-- Mains returns (R197). -/
def State.returnMains (s : State) : State :=
  let back : State := { s with mainsPresent := true }
  match s.phase with
  | .awaitingMains => back.mainsDip
  | .running | .flushWaiting | .flushing _ _ | .starting _ | .off => back

/-- What a failing supply leaves of the block being written or erased (R194, R196, R198; log entry 11). -/
def State.spoilInFlight (s : State) : State :=
  match s.phase, s.write with
  | .flushing b _, _ => s.spoilImage (Fin.ofNat 102 b)
  | .starting b, _ => s.spoilBlock (Fin.ofNat 102 b) true
  | _, some w => s.spoilBlock w.block false
  | _, none => s

/-- The supply fails: the module powers off (R197; log entry 27). -/
def State.failSupply (s : State) : State :=
  match s.phase with
  | .off => s
  | .running | .flushWaiting | .flushing _ _ | .awaitingMains | .starting _ =>
    let spoiled := s.spoilInFlight
    let record : RestartRecord :=
      if s.restartRecord.waitsForMains then
        { primary := some .mainsLoss, secondary := s.restartRecord.formerPrimary }
      else s.restartRecord
    { spoiled.clearWorking with restartRecord := record, phase := .off }

/-- Power comes on (R198, step 1), with the clock battery good or failed. -/
def State.powerUp (s : State) (batteryGood : Bool) : State :=
  match s.phase with
  | .off =>
    if batteryGood then { s with clockInvalid := false }.beginStart
    else
      { s with
        clockInvalid := true, runCounter := 0, yardOffset := 0
        restartRecord := { primary := none, secondary := none } }.beginStart
  | .running | .flushWaiting | .flushing _ _ | .awaitingMains | .starting _ => s

end Sys2Proof.Machine
end

