-- ==== Sys2Proof/Machine/Lines.lean ====
section
/-! DEFINITION. The line controllers (chapter 1): the settings and the installed-address set of a round, the exchanges, the
results of an address, the line state machine and its readers, and the end of a round. -/

namespace Sys2Proof.Machine

/-! ## The line state and its readers (R19) -/

/-- LINE joins the runs of a line (R19, R100). -/
def State.lineLeavesUp (s : State) (l : Line) : State := s.forEach (postsOn l) fun s' p => s'.causeJoins p .line 0

/-- LINE leaves the runs of a line, and the queues that hold its requests are walked (R19, R83, R100). -/
def State.lineEntersUp (s : State) (l : Line) : State :=
  (s.forEach (postsOn l) fun s' p => s'.causeLeaves p .line).walkForLine l

/-- A change of a line controller, handed to the readers of the line state when that changes between UP and another
(R19). -/
def State.changeLine (s : State) (l : Line) (c : LineController) : State :=
  let changed := s.putLine l c
  if (s.line l).state = .up ∧ c.state ≠ .up then changed.lineLeavesUp l
  else if (s.line l).state ≠ .up ∧ c.state = .up then changed.lineEntersUp l
  else changed

/-! ## Exchanges (R5) -/

/-- An exchange begins: the levels are worked out and the POLL is sent (R5, R166). -/
def State.beginExchange (s : State) (l : Line) (p : Post) (retry : Bool) (r : Round) : State :=
  let w := s.levelsFor p (!retry)
  w.2.putLine l
    { w.2.line l with round := some { r with exchange := { post := p, retry := retry, levels := w.1 } } }

/-! ## The start of a round (R1 to R4) -/

/-- The settings in force for the round, with the installed-address set compared to that of the round before (R1, R2). -/
def State.takeSettings (s : State) (l : Line) : State :=
  let old := (s.line l).settings.installed
  let settings := s.lineConfig l
  let removed := installedPosts l (old &&& ~~~settings.installed)
  let added := installedPosts l (settings.installed &&& ~~~old)
  let s1 := s.putLine l { s.line l with settings := settings }
  let s2 := s1.forEach removed fun s' p => (s'.putEntry p none).putOutput p none
  let s3 := s2.forEach added State.installPost
  s3.forEach removed State.departIfPresent

/-- A line enters OFF with its fields at their start values (R2, R18). -/
def State.goOff (s : State) (l : Line) : State := s.changeLine l (.start .off (s.line l).settings)

/-- A round begins, or the line enters OFF where no address is installed (R2, R3, R4). -/
def State.beginRound (s : State) (l : Line) : State :=
  let s1 := s.takeSettings l
  let c := s1.line l
  match installedPosts l c.settings.installed with
  | [] => s1.goOff l
  | p :: rest =>
    (s1.putLine l { c with lastStart := some s.now }).beginExchange l p false
      { beganRecovering := decide (c.state = .recovering), hadGood := false, spoiled := false, remaining := rest
        exchange := { post := p, retry := false, levels := .off } }

/-- An OFF line that has received a non-empty installed-address set enters RECOVERING and its first round starts at
once; any other line is not changed (R2). -/
def State.wakeLine (s : State) (l : Line) : State :=
  if (s.line l).state = .off ∧ (s.lineConfig l).installed ≠ 0 then
    (s.putLine l { s.line l with state := .recovering, goodRounds := 0, silentRounds := 0 }).beginRound l
  else s

/-- Whether the next round of a line may start (R4). -/
def State.roundDue (s : State) (l : Line) : Bool :=
  let c := s.line l
  s.running && c.round.isNone &&
    match c.lastStart with
    | none => true
    | some t => decide (((s.lineConfig l).floor : Int) ≤ s.now - t)

/-- A round starts when both conditions of R4 hold (log entry 2). -/
def State.startRound (s : State) (l : Line) : State :=
  if s.roundDue l then if (s.line l).state = .off then s.wakeLine l else s.beginRound l else s

/-! ## The end of a round (R3, R13 to R18) -/

/-- Whether a round is clean (R13). -/
def Round.clean (r : Round) : Bool := r.hadGood && !r.spoiled

/-- A DISTURBED line at a round end (R13, R15). -/
def LineController.endDisturbed (c : LineController) (r : Round) : LineController :=
  let silent := if r.hadGood then 0 else min 3 (c.silentRounds + 1)
  let judged : LineController := { c with silentRounds := silent }
  if r.clean then
    if c.settings.recover ≤ 1 then { judged with state := .up, goodRounds := 0 }
    else { judged with state := .recovering, goodRounds := 1 }
  else if 3 ≤ silent then { judged with state := .down, goodRounds := 0 }
  else judged

/-- A RECOVERING line at a round end (R16). -/
def LineController.endRecovering (c : LineController) (r : Round) : LineController :=
  if r.beganRecovering && r.clean then
    let good := min 15 (c.goodRounds + 1)
    if c.settings.recover ≤ good then { c with state := .up, goodRounds := 0 } else { c with goodRounds := good }
  else c

/-- The line state machine at a round end (R14 to R17). -/
def LineController.judged (c : LineController) (r : Round) : LineController :=
  match c.state with
  | .disturbed => c.endDisturbed r
  | .recovering => c.endRecovering r
  | .off | .up | .down => c

/-- Rounds since first UP at a round end, for the line as the judgement has left it (R18). -/
def LineController.advanceUp (c : LineController) : LineController :=
  match c.sinceUp with
  | some n => { c with sinceUp := some (min 255 (n + 1)) }
  | none => if c.state = .up then { c with sinceUp := some 0 } else c

/-- A round ends: the judgement, rounds since first UP, and the round-end event at the Trailer Table (R3, R41). -/
def State.endRound (s : State) (l : Line) (r : Round) : State :=
  let c := s.line l
  let after := ({ c with round := none }.judged r).advanceUp
  let s1 := s.changeLine l after
  if after.sinceUp = some 5 ∧ c.sinceUp ≠ some 5 then s1.discardRestored l else s1

/-- The next address of the round, or the end of the round (R3, R7). -/
def State.nextAddress (s : State) (l : Line) : State :=
  match (s.line l).round with
  | none => s
  | some r =>
    match r.remaining with
    | p :: rest => s.beginExchange l p false { r with remaining := rest }
    | [] => s.endRound l r

/-! ## The result of an address (R7 to R12) -/

/-- A post's entry at a GOOD result (R9). -/
def PostEntry.good (e : PostEntry) (now : Time) : PostEntry :=
  { e with state := .live, missed := 0, lastGood := some now }

/-- The line at a GOOD result (R12, R17). -/
def LineController.good (c : LineController) : LineController :=
  let heard : LineController :=
    { c with misses := 0, round := c.round.map fun r => { r with hadGood := true } }
  if c.state = .down then { heard with state := .recovering, goodRounds := 0, silentRounds := 0 } else heard

/-- The plugged-no-unit indication at a GOOD result (R11). -/
def State.settlePlugged (s : State) (p : Post) (rep : StatusReport) : State :=
  match s.entry p with
  | none => s
  | some e =>
    s.putEntry p (some { e with
      pluggedNoUnit := decide (rep.unit = .noUnit) && decide ((s.trailer p).state = .vacant) })

/-- What a GOOD result does before the status is handed on: the entry, the POST cause, LINK-LOST, the line (R9, R12,
R17). -/
def State.hearPost (s : State) (l : Line) (p : Post) : State :=
  let wasLost := decide ((s.entry p).map (·.state) = some .lost)
  let s1 := s.putEntry p ((s.entry p).map fun e => e.good s.now)
  let s2 := if wasLost then s1.causeLeaves p .post else s1
  let s3 := s2.clearLinkLost p 1
  s3.changeLine l (s3.line l).good

/-- A GOOD result: the post and the line, then the Trailer Table, the plugged-no-unit indication and Output Control
(R7, R9, R11, R173). -/
def State.goodResult (s : State) (l : Line) (x : Exchange) (rep : StatusReport) : State :=
  let wasHeating := (s.trailer x.post).atArrival.runHeating
  (((s.hearPost l x.post).statusAtTable x.post rep wasHeating).settlePlugged x.post rep).outputAtGood x.post x.levels
    rep.actual

/-- Whether missed rounds are counted in a line state (R10). -/
def LineState.countsMisses (st : LineState) : Bool := decide (st = .up) || decide (st = .recovering)

/-- A post's entry at a MISS while missed rounds are counted (R10). -/
def PostEntry.miss (e : PostEntry) : PostEntry :=
  let n := min 255 (e.missed + 1)
  if e.state = .live ∧ 3 ≤ n then { e with state := .lost, missed := n, pluggedNoUnit := false }
  else { e with missed := n }

/-- A post becomes LOST (R10): POST joins its run, and LINK-LOST is produced where a trailer stands. -/
def State.losePost (s : State) (p : Post) : State :=
  let s1 := s.causeJoins p .post 0
  if (s1.trailer p).state = .vacant then s1 else s1.produce p .linkLost 1 0

/-- The entry of a post at a MISS (R10). -/
def State.missPost (s : State) (l : Line) (p : Post) : State :=
  match s.entry p with
  | none => s
  | some e =>
    if (s.line l).state.countsMisses then
      let after := e.miss
      let s1 := s.putEntry p (some after)
      if e.state = .live ∧ after.state = .lost then s1.losePost p else s1
    else s

/-- The line at a MISS by a post that was LIVE (R12, R13, R14, R16). -/
def LineController.miss (c : LineController) : LineController :=
  let n := min 255 (c.misses + 1)
  if 3 ≤ n then
    let spoiled : LineController :=
      { c with misses := n, round := c.round.map fun r => { r with spoiled := true } }
    match c.state with
    | .up | .recovering => { spoiled with state := .disturbed, goodRounds := 0, silentRounds := 0 }
    | .off | .disturbed | .down => spoiled
  else { c with misses := n }

/-- A MISS (R7, R10, R12). -/
def State.missResult (s : State) (l : Line) (p : Post) : State :=
  let wasLive := decide ((s.entry p).map (·.state) = some .live)
  let s1 := s.missPost l p
  if wasLive then s1.changeLine l (s1.line l).miss else s1

/-! ## The end of an exchange (R6, R7) -/

/-- An exchange ends GOOD. When the status has handed Hold-Up Control a cause, that is taken before polling goes on
(R29; log entry 14). -/
def State.exchangeGood (s : State) (l : Line) (r : Round) (rep : StatusReport) : State :=
  (s.goodResult l r.exchange rep).settleCauses.nextAddress l

/-- An exchange ends GARBLED or SILENT: a retry follows, or the address has a MISS (R7). -/
def State.exchangeFailed (s : State) (l : Line) (r : Round) : State :=
  if r.exchange.retry then (s.missResult l r.exchange.post).nextAddress l
  else s.beginExchange l r.exchange.post true r

/-- A frame that began with a start byte has ended on a line (R6); with no exchange in flight its bytes are
discarded. -/
def State.frameEnds (s : State) (l : Line) (bytes : List Byte) : State :=
  match (s.line l).round with
  | none => s
  | some r =>
    match goodStatus (postAddress r.exchange.post) bytes with
    | some rep => s.exchangeGood l r rep
    | none => s.exchangeFailed l r

/-- The exchange in flight on a line fails: the response window has expired, or a gap has ended the frame (R6). -/
def State.exchangeTimesOut (s : State) (l : Line) : State :=
  match (s.line l).round with
  | none => s
  | some r => s.exchangeFailed l r

end Sys2Proof.Machine
end

