-- ==== Sys2Proof/Machine/Store.lean ====
section
/-! DEFINITION. The settings store (11.2): the checks of STORE-WRITE and the write in flight (R193), and what takes effect
as a write completes (R194). -/

namespace Sys2Proof.Machine

/-- A block number as a place of the store; for numbers of 101 or less. -/
def storePlace (b : Byte) : Fin 102 := Fin.ofNat 102 b.toNat

/-- Whether any record that is not VACANT has a profile bound (R193, check 5). -/
def State.profileBound (s : State) (i : ProfileId) : Bool :=
  allPosts.any fun p => decide ((s.trailer p).state ≠ .vacant) && decide ((s.trailer p).profile = some i)

/-- Whether a block may not be written now (R193, check 3). -/
def State.writeProtected (s : State) (b : Nat) : Bool :=
  decide (b = 0) || decide (Config.firstImage ≤ b) || (decide (b ≤ 3) && decide (s.keySwitch = .run))

/-- The checks of STORE-WRITE in their order (R193): the refusal, or none where the write is taken. -/
def State.writeRefusal (s : State) (b : Nat) (content : List Byte) : Option Status :=
  if Config.lastImage < b then some .badArgument
  else if s.write.isSome then some .storeBusy
  else if s.writeProtected b then some .isProtected
  else
    match readBlock b content with
    | none => some .badArgument
    | some c =>
      if !s.config.admits c then some .badArgument
      else
        match c with
        | .profile i none => if s.profileBound i then some .wrongState else none
        | .profile _ (some _) | .lines _ _ | .postMap _ _ | .capacities _ | .findingTable _ | .defaults _ _ => none

/-- A write is in flight from now: the block's completion mark is cleared (R193, R194). -/
def State.startWrite (s : State) (b : Byte) (content : List Byte) (tag : Word16) : State :=
  { s.putBlock (storePlace b) { s.block (storePlace b) with mark := false } with
    write := some { block := storePlace b, content := content, tag := tag } }

/-! ## Effects at completion (R194) -/

/-- The queued requests that a post map moves, with their new queues (R73). -/
def State.movedRequests (s : State) : List (Queue × Request) :=
  allQueues.flatMap fun q =>
    ((s.queue q).filter fun r => decide (s.queueOf r.post ≠ q)).map fun r => (s.queueOf r.post, r)

/-- A new post map (R73): queued requests follow it, and each queue that receives one is walked. -/
def State.remapRequests (s : State) : State :=
  let moved := s.movedRequests
  let placed := s.forEach moved fun s' m => (s'.removeRequest m.2.post).joinQueue m.1 m.2
  placed.forEach (allQueues.filter fun q => moved.any fun m => decide (m.1 = q)) State.walk

/-- New capacities (R72): each of the eight feeder queues is walked. -/
def State.walkFeeders (s : State) : State :=
  s.forEach (allQueues.filter fun q => decide (q ≠ Queue.engineBay)) State.walk

/-- A new finding table (R156): every record's actions are settled. -/
def State.settleTable (s : State) : State :=
  s.forEach allPosts fun s' p => if (s'.trailer p).state = .vacant then s' else s'.settleActions p

/-- Whether a profile's sender or curve has changed (R131); a profile that appears or goes counts as a change (log entry
23). -/
def senderChanged (old new : Option Profile) : Bool :=
  match old, new with
  | none, none => false
  | some a, some b => decide (a.sender ≠ b.sender) || decide (a.curve ≠ b.curve)
  | none, some _ | some _, none => true

/-- The posts whose record has a profile bound. -/
def State.boundPosts (s : State) (i : ProfileId) : List Post :=
  allPosts.filter fun p => decide ((s.trailer p).profile = some i)

/-- The reset of fuel fields at a change of sender or curve (R131). Where both classes stand, SENDER-FAULT clears first
(log entry 16). -/
def State.resetFuel (s : State) (p : Post) : State :=
  ((s.putFuel p .start).clearFinding p .senderFault false).clearFinding p .lowFuel false

/-- The reset while a restart is pending (R194): the classes leave their sets without items. -/
def State.resetFuelQuietly (s : State) (p : Post) : State :=
  s.editTrailer p fun t =>
    { t with
      fuel := .start
      active := t.active.filter fun a => decide (a.cls ≠ .senderFault ∧ a.cls ≠ .lowFuel)
      noted := t.noted.filter fun a => decide (a.cls ≠ .senderFault ∧ a.cls ≠ .lowFuel) }

/-- A profile write's effect on bound records (R131). -/
def State.profileWritten (s : State) (i : ProfileId) (changed : Bool) : State :=
  if changed then
    let bound := s.boundPosts i
    if s.running then (s.forEach bound State.resetFuel).forEach bound State.walkForHours
    else s.forEach bound State.resetFuelQuietly
  else s

/-- The content of a completed write takes effect (R194). -/
def State.takeContent (s : State) (c : BlockContent) : State :=
  let s1 : State := { s with config := s.config.put c }
  match c with
  | .lines _ _ => if s.running then (s1.wakeLine .a).wakeLine .b else s1
  | .postMap _ _ => if s.running then s1.remapRequests else s1
  | .capacities _ => if s.running then s1.walkFeeders else s1
  | .findingTable _ => if s.running then s1.settleTable else s1
  | .defaults _ _ => s1
  | .profile i p => s1.profileWritten i (senderChanged (s.config.profiles.get i) p)

/-- The write in flight completes (R194): the mark is set, the content is in force and the reply OK is formed; a flush
that has waited for it starts. The reply is formed before the content's effects, so before their items (log entry 16). -/
def State.completeWrite (s : State) : State :=
  match s.write with
  | none => s
  | some w =>
    let stored := s.putBlock w.block { bytes := w.content, mark := true }
    let ended : State :=
      { stored with write := none, asFactory := s.asFactory.filter fun b => decide (b ≠ w.block.val) }
    let replied := ended.formReply { type := 0x15, tag := w.tag, status := .ok, body := [] }
    let taken := match readBlock w.block.val w.content with
      | some c => replied.takeContent c
      | none => replied
    if taken.phase = .flushWaiting then taken.beginFlush else taken

end Sys2Proof.Machine
end

