-- ==== Sys2Proof/Machine/Requests.lean ====
section
/-! DEFINITION. The requests of the catalogue (10.3) as their owners take them: each owner's checks in their order, its effect
and its reply. -/

namespace Sys2Proof.Machine

/-- The reply to a request is formed. -/
def State.answer (s : State) (t : RequestType) (tag : Word16) (status : Status) (body : List Byte) : State :=
  s.formReply { type := t.code, tag := tag, status := status, body := body }

/-- A request is refused with its status alone (R181). -/
def State.refuse (s : State) (t : RequestType) (tag : Word16) (status : Status) : State := s.answer t tag status []

/-- A request that names a post: BAD-ARGUMENT above 239. -/
def State.withPost (s : State) (t : RequestType) (tag : Word16) (b : Byte) (f : Post → State) : State :=
  match postOf b with
  | some p => f p
  | none => s.refuse t tag .badArgument

/-- A request that names a post with a trailer: NO-TRAILER for a VACANT record. -/
def State.withTrailer (s : State) (t : RequestType) (tag : Word16) (p : Post) (f : TrailerRecord → State) : State :=
  if (s.trailer p).state = .vacant then s.refuse t tag .noTrailer else f (s.trailer p)

/-! ## YARD-STATUS (R190) -/

/-- The number of records in a state. -/
def State.countState (s : State) (st : RecordState) : Nat := allPosts.countP fun p => decide ((s.trailer p).state = st)

/-- The number of active classes of a severity across all records (R164). -/
def State.countSeverity (s : State) (n : Nat) : Nat :=
  (allPosts.map fun p =>
    (s.trailer p).active.countP fun a => decide ((s.tableEntry a.cls).severity = n)).foldl (· + ·) 0

/-- The number of records with an active class (R164). -/
def State.countActive (s : State) : Nat := allPosts.countP fun p => decide ((s.trailer p).active ≠ [])

/-- The key switch position as a number (R189). -/
def keySwitchCode : KeySwitch → Nat
  | .run => 0 | .service => 1

/-- A line rate as a number (R189). -/
def lineRateCode : LineRate → Nat
  | .r19200 => 0 | .r57600 => 1 | .r115200 => 2

/-- The weather standing as a number (R189). -/
def Standing.code : Standing → Nat
  | .current => 0 | .stale => 1 | .default => 2

/-- The weather fields (R62), RH in two bytes as SET-WEATHER's argument has it (log entry 7). -/
def State.weatherFields (s : State) : List Byte :=
  num2 s.weather.rh ++ signed16 s.weather.ta ++ s.timeField s.weather.receipt
    ++ num1 (s.weather.standing s.now).code ++ num1 (s.weather.moisture s.now s.config.mdef) ++ num1 s.config.mdef

/-- The fields of YARD-STATUS (R190). The part identity is all 256 bytes of block 0, and an absent
secondary restart reason is 0xFF (log entry 7). -/
def State.yardStatusFields (s : State) : List Byte :=
  (s.block 0).bytes ++ num4 s.runCounter ++ signed32 s.yardNow ++ flagField s.clockInvalid
    ++ num1 s.startPrimary.code ++ opt1 (s.startSecondary.map Reason.code) ++ listField s.invalidBlocks num1
    ++ flagField s.write.isSome ++ num1 (keySwitchCode s.keySwitch) ++ flagField s.mainsPresent
    ++ num1 (lineRateCode s.rateSwitch) ++ num1 (lineRateCode s.rate) ++ num1 s.lineA.state.code ++ num1 s.lineB.state.code
    ++ num1 (s.countState .vacant) ++ num1 (s.countState .arriving) ++ num1 (s.countState .enrolled)
    ++ num1 (s.countState .held) ++ num1 (s.countState .restored) ++ s.weatherFields
    ++ num2 (s.countSeverity 3) ++ num2 (s.countSeverity 2) ++ num2 (s.countSeverity 1) ++ num1 s.countActive
    ++ num1 s.notices.length ++ num1 s.stations.length ++ flagField s.noticesLost ++ num2 s.discardedFrames
    ++ num2 s.overruns

def State.takeYardStatus (s : State) (tag : Word16) : State :=
  { s.answer .yardStatus tag .ok s.yardStatusFields with noticesLost := false }

/-! ## LINE-QUERY (R22) -/

/-- The line an argument names. -/
def lineOf (b : Byte) : Option Line := if b = 0 then some .a else if b = 1 then some .b else none

/-- One entry of the post state table as LINE-QUERY reports it. -/
def State.entryFields (s : State) (p : Post) (e : PostEntry) : List Byte :=
  num1 (postAddress p) ++ num1 e.state.code ++ num1 e.missed ++ s.timeField e.lastGood ++ flagField e.pluggedNoUnit

/-- The entries of a line in ascending address order. -/
def State.entriesOf (s : State) (l : Line) : List (Post × PostEntry) :=
  (postsOn l).filterMap fun p => (s.entry p).map fun e => (p, e)

/-- The fields of LINE-QUERY (R22). While no round is in progress the settings reported are those that the last round start
took, or the start of the module before it (log entry 38). -/
def State.lineFields (s : State) (l : Line) : List Byte :=
  let c := s.line l
  num1 c.state.code ++ num1 c.misses ++ num1 c.goodRounds ++ num1 c.silentRounds ++ opt2 c.sinceUp
    ++ num1 c.settings.floor ++ num1 c.settings.window ++ num1 c.settings.recover ++ flagField c.round.isSome
    ++ opt1 (c.round.map fun r => postAddress r.exchange.post)
    ++ listField (s.entriesOf l) fun e => s.entryFields e.1 e.2

def State.takeLineQuery (s : State) (tag : Word16) (line : Byte) : State :=
  match lineOf line with
  | some l => s.answer .lineQuery tag .ok (s.lineFields l)
  | none => s.refuse .lineQuery tag .badArgument

/-! ## The Trailer Table's requests (2.5) -/

def State.takeTrailerQuery (s : State) (tag : Word16) (post : Byte) : State :=
  s.withPost .trailerQuery tag post fun p =>
    s.withTrailer .trailerQuery tag p fun _ => s.answer .trailerQuery tag .ok (s.trailerRecordBytes p)

/-- The posts a listing matches, from the start post on (R44). -/
def State.listed (s : State) (filter : Byte) (start : Post) : List Post :=
  allPosts.filter fun p => decide (start.val ≤ p.val) && filter.getLsbD (s.trailer p).state.code

/-- One entry of TRAILER-LIST (R44). -/
def State.listEntry (s : State) (p : Post) : List Byte :=
  let t := s.trailer p
  num1 p.val ++ num1 t.state.code ++ bytes32 t.serial ++ opt1 (t.profile.map (·.val))
    ++ flagField (((s.entry p).map (·.pluggedNoUnit)).getD false)

/-- TRAILER-LIST (R44). The next post index to ask from is that of the next matching record (log entry 7). -/
def State.takeTrailerList (s : State) (tag : Word16) (filter start : Byte) : State :=
  if filter = 0 ∨ 32 ≤ filter.toNat then s.refuse .trailerList tag .badArgument
  else
    s.withPost .trailerList tag start fun p =>
      let all := s.listed filter p
      s.answer .trailerList tag .ok
        (listField (all.take 32) s.listEntry ++ opt1 ((all.drop 32).head?.map (·.val)))

/-- The posts of every HELD record with a serial (R45). -/
def State.heldPosts (s : State) (serial : Word32) : List Post :=
  allPosts.filter fun p => decide ((s.trailer p).state = .held) && decide ((s.trailer p).serial = serial)

def State.takeFindUnit (s : State) (tag : Word16) (serial : Word32) : State :=
  if serial = 0 then s.refuse .findUnit tag .badArgument
  else
    let owner := s.dirLookup serial
    let held := s.heldPosts serial
    if owner.isNone ∧ held = [] then s.refuse .findUnit tag .noTrailer
    else
      s.answer .findUnit tag .ok
        (opt1 (owner.map (·.val)) ++ opt1 (owner.map fun p => (s.trailer p).state.code)
          ++ listField held fun p => num1 p.val)

/-- The valid profile an argument names. -/
def State.profileNamed (s : State) (b : Byte) : Option (ProfileId × Profile) :=
  if h : b.toNat < 32 then (s.config.profiles.get ⟨b.toNat, h⟩).map fun pr => (⟨b.toNat, h⟩, pr) else none

/-- BIND-PROFILE (R46). The enrolment and its items come before the reply is formed (log entry 16). -/
def State.takeBindProfile (s : State) (tag : Word16) (post profile : Byte) : State :=
  s.withPost .bindProfile tag post fun p =>
    match s.profileNamed profile with
    | none => s.refuse .bindProfile tag .badArgument
    | some (i, pr) =>
      s.withTrailer .bindProfile tag p fun t =>
        if t.state = .arriving then (s.enrol p i pr).answer .bindProfile tag .ok []
        else s.refuse .bindProfile tag .wrongState

/-- RELEASE-POST (R47). The departure and its items come before the reply is formed, so at an idle transmitter the DEPARTED
notice goes out ahead of it (log entry 16). -/
def State.takeReleasePost (s : State) (tag : Word16) (post : Byte) : State :=
  s.withPost .releasePost tag post fun p =>
    s.withTrailer .releasePost tag p fun _ => (s.depart p).answer .releasePost tag .ok []

/-! ## SET-WEATHER (R59) -/

/-- A value clamped to a range. -/
def clamp (low high v : Int) : Int := max low (min high v)

/-- SET-WEATHER (R59, R60), RH in two bytes in the reply as in the argument (log entry 7). -/
def State.takeSetWeather (s : State) (tag : Word16) (rh ta : Word16) : State :=
  let rh' := clamp 0 100 rh.toInt
  let ta' := clamp (-400) 500 ta.toInt
  let s1 : State := { s with weather := { rh := rh'.toNat, ta := ta', receipt := some s.now } }
  s1.answer .setWeather tag .ok
    (num2 rh'.toNat ++ signed16 ta' ++ num1 (s1.weather.moisture s1.now s1.config.mdef)
      ++ flagField (decide (rh' ≠ rh.toInt) || decide (ta' ≠ ta.toInt)))

/-! ## The Feeder Arbiter's requests (4.4) -/

/-- The block that refuses DEFROST-NOW: 1 the inhibit flag, 2 the action, 3 the deferral (R87). -/
def State.defrostBlock (s : State) (p : Post) : Option Nat :=
  if (s.trailer p).inhibit then some 1
  else if s.actionInForce p .inhibitDefrost then some 2
  else if deferralPassed (s.trailer p).deferral s.now then none
  else some 3

/-- The heater load of a trailer's bound profile; 0 where its profile id names no profile (log entry 42). -/
def State.loadOf (s : State) (p : Post) : Nat := ((s.profileOf (s.trailer p)).map (·.load)).getD 0

/-- DEFROST-NOW's effect on an ENROLLED trailer that nothing blocks (R87). -/
def State.askDefrost (s : State) (p : Post) : State :=
  match s.requestOf p with
  | some (_, r) =>
    match r.cls with
    | .unit | .threshold => s.upgradeRequest p .host
    | .forced | .host => s
  | none => s.fileRequest p .host (s.loadOf p)

/-- What DEFROST-NOW reports of the trailer's request: queue, class and place, or GRANTED as 0 (R87). -/
def State.askedFields (s : State) (p : Post) : List Byte :=
  match s.requestOf p with
  | some (q, r) => num1 q.val ++ num1 r.cls.code ++ num1 (placeIn p (s.queue q))
  | none =>
    match s.run p with
    | some r => num1 r.queue.val ++ num1 r.cls.code ++ num1 0
    | none => num1 (s.queueOf p).val ++ num1 RequestClass.host.code ++ num1 0

/-- DEFROST-NOW (R87). The filing, its walk and their items come before the reply is formed, which reports their outcome
(log entry 16). -/
def State.takeDefrostNow (s : State) (tag : Word16) (post : Byte) : State :=
  s.withPost .defrostNow tag post fun p =>
    s.withTrailer .defrostNow tag p fun t =>
      if t.state ≠ .enrolled ∨ t.run.isSome then s.refuse .defrostNow tag .wrongState
      else
        match s.defrostBlock p with
        | some n => s.answer .defrostNow tag .wrongState (num1 n)
        | none => (s.askDefrost p).answer .defrostNow tag .ok ((s.askDefrost p).askedFields p)

def State.takeDefrostCancel (s : State) (tag : Word16) (post : Byte) (minutes : Word16) : State :=
  s.withPost .defrostCancel tag post fun p =>
    s.withTrailer .defrostCancel tag p fun t =>
      if t.state ≠ .enrolled then s.refuse .defrostCancel tag .wrongState
      else
        let until' : Time := s.now + (min 240 minutes.toNat) * 60
        let ended := (s.removeRequest p).abortRun p .host false 0
        let deferred := ended.1.editTrailer p fun t => { t with deferral := some until' }
        deferred.answer .defrostCancel tag .ok
          (flagField (decide (240 < minutes.toNat)) ++ flagField (s.requestOf p).isSome ++ flagField ended.2
            ++ s.timeField (some until'))

/-- DEFROST-INHIBIT (R89). An ON/OFF byte above 1 (R183) is refused before the record is looked at (log entry 40). -/
def State.takeDefrostInhibit (s : State) (tag : Word16) (post on : Byte) : State :=
  s.withPost .defrostInhibit tag post fun p =>
    if 1 < on.toNat then s.refuse .defrostInhibit tag .badArgument
    else
      s.withTrailer .defrostInhibit tag p fun t =>
        if t.state = .held then s.refuse .defrostInhibit tag .wrongState
        else if on = 0 then
          (s.editTrailer p fun t => { t with inhibit := false }).answer .defrostInhibit tag .ok
            (flagField false ++ flagField false)
        else
          let flagged := s.editTrailer p fun t => { t with inhibit := true }
          let ended := (flagged.removeRequest p).abortRun p .inhibit false 0
          ended.1.answer .defrostInhibit tag .ok (flagField true ++ flagField ((s.requestOf p).isSome || ended.2))

/-- The runs that hold a grant from a queue (R91), in ascending post order (log entry 41). -/
def State.runsOn (s : State) (q : Queue) : List (Post × RunRecord) :=
  allPosts.filterMap fun p => (s.run p).bind fun r => if r.queue = q then some (p, r) else none

/-- The eligibility byte of FEEDER-QUERY (R91): 0 eligible, 1 LINE, 2 POST, 3 FUEL (log entry 41). -/
def eligibilityCode : Option Ineligible → Nat
  | none => 0 | some .line => 1 | some .post => 2 | some .fuel => 3

/-- The fields of FEEDER-QUERY (R91). -/
def State.feederFields (s : State) (q : Queue) : List Byte :=
  opt2 (s.capacityOf q) ++ num2 (s.load q)
    ++ (listField (s.runsOn q) fun e => num1 e.1.val ++ num1 e.2.load)
    ++ listField (s.queue q) fun r =>
        num1 r.post.val ++ num1 r.cls.code ++ s.timeField (some r.filed) ++ num1 r.load ++ num1 r.passes
          ++ num1 (eligibilityCode (s.ineligible q r.post))

def State.takeFeederQuery (s : State) (tag : Word16) (queue : Byte) : State :=
  if h : queue.toNat < 9 then s.answer .feederQuery tag .ok (s.feederFields ⟨queue.toNat, h⟩)
  else s.refuse .feederQuery tag .badArgument

/-! ## The Door Watch's requests (7.5) -/

/-- A tag that R143 takes: 1 to 12 printable characters. -/
def tagOk (t : List Byte) : Bool := decide (1 ≤ t.length) && decide (t.length ≤ 12) && t.all printable

/-- DECLARE-CUSTODY (R143). The CUSTODY-CHANGED item is produced before the reply is formed (log entry 16). -/
def State.takeDeclareCustody (s : State) (tag : Word16) (post : Byte) (custodyTag : List Byte) : State :=
  s.withPost .declareCustody tag post fun p =>
    if tagOk custodyTag then
      s.withTrailer .declareCustody tag p fun t =>
        if t.state ≠ .enrolled then s.refuse .declareCustody tag .wrongState
        else if t.door.held ≠ some .closed then s.refuse .declareCustody tag .doorNotClosed
        else
          ((s.editTrailer p fun t => { t with custody := .closed custodyTag }).item p
            (.custodyChanged (.closed custodyTag))).answer .declareCustody tag .ok (num1 t.door.unknownCount)
    else s.refuse .declareCustody tag .badArgument

/-- CLEAR-CUSTODY (R145). The CUSTODY-CHANGED item is produced before the reply is formed (log entry 16). -/
def State.takeClearCustody (s : State) (tag : Word16) (post : Byte) : State :=
  s.withPost .clearCustody tag post fun p =>
    s.withTrailer .clearCustody tag p fun t =>
      let cleared := s.editTrailer p fun t => { t with custody := .none }
      let reported := if t.custody = .none then cleared else cleared.item p (.custodyChanged .none)
      reported.answer .clearCustody tag .ok []

/-! ## The Finding Unit's requests (8.4, 8.5) -/

def State.takeSetRaiseMask (s : State) (tag : Word16) (post : Byte) (mask : Word16) : State :=
  s.withPost .setRaiseMask tag post fun p =>
    s.withTrailer .setRaiseMask tag p fun _ =>
      (s.editTrailer p fun t => { t with mask := heldMask mask }).answer .setRaiseMask tag .ok (bytes16 (heldMask mask))

/-- ACK-FINDING (R162). The clear and its item come before the reply is formed (log entry 16). -/
def State.takeAckFinding (s : State) (tag : Word16) (post cls : Byte) : State :=
  s.withPost .ackFinding tag post fun p =>
    match FindingClass.ofNum cls.toNat with
    | none => s.refuse .ackFinding tag .badArgument
    | some c =>
      s.withTrailer .ackFinding tag p fun t =>
        if c.latched ∧ t.stands c then (s.clearFinding p c true).answer .ackFinding tag .ok []
        else s.refuse .ackFinding tag .wrongState

def State.takeTakeException (s : State) (tag : Word16) : State :=
  match s.stack with
  | [] => s.answer .takeException tag .ok (num1 0)
  | f :: rest => { s with stack := rest }.answer .takeException tag .ok (num1 1 ++ f.bytes)

def State.takePeekExceptions (s : State) (tag : Word16) : State :=
  s.answer .peekExceptions tag .ok (num1 s.stack.length ++ num2 s.nextPush ++ s.stack.flatMap ExceptionFrame.bytes)

/-! ## POST-OUTPUT (R174, R183) -/

/-- A field after a selector: 0 OFF or CLEAR, 1 ON or SET, 2 KEEP. -/
def selected (selector : Byte) (field : Bool) : Bool := if selector = 0 then false else if selector = 1 then true else field

/-- The fields of POST-OUTPUT's reply (R174): the output state, the line state, and the levels of a first exchange that
began now (log entry 17), with the mark that they are masked. A request or a force is sent as R183 codes it in the arguments,
1 for ON or set and 0 for OFF or clear (log entry 7). -/
def State.outputReply (s : State) (p : Post) (o : OutputState) : List Byte :=
  flagField o.contactor ++ flagField o.beacon ++ flagField o.forceOff ++ flagField o.forceOn
    ++ levelsField o.delivered ++ levelsField o.actual ++ num1 o.mismatch
    ++ num1 (s.line (postLine p)).state.code ++ levelsField (some (s.workOut p o true).1) ++ flagField (!s.lineUp p)

/-- The output state after POST-OUTPUT's selectors. -/
def OutputState.select (o : OutputState) (contactor beacon forceOff forceOn : Byte) : OutputState :=
  { o with
    contactor := selected contactor o.contactor, beacon := selected beacon o.beacon
    forceOff := selected forceOff o.forceOff, forceOn := selected forceOn o.forceOn }

def State.takePostOutput (s : State) (tag : Word16) (post contactor beacon forceOff forceOn : Byte) : State :=
  s.withPost .postOutput tag post fun p =>
    if 2 < contactor.toNat ∨ 2 < beacon.toNat ∨ 2 < forceOff.toNat ∨ 2 < forceOn.toNat then
      s.refuse .postOutput tag .badArgument
    else
      match s.output p with
      | none => s.refuse .postOutput tag .wrongState
      | some o =>
        if (s.line (postLine p)).state = .off then s.refuse .postOutput tag .wrongState
        else
          let o' := o.select contactor beacon forceOff forceOn
          (s.putOutput p (some o')).answer .postOutput tag .ok (s.outputReply p o')

/-! ## The store, the clock and RESTART (11.2, R199) -/

/-- The mark of a block that STORE-READ carries for blocks 0 to 37: 1 where the block is taken as factory content or as
no profile (R192). -/
def State.readMark (s : State) (b : Nat) : List Byte :=
  if b < Config.firstImage then flagField (s.asFactory.any fun n => decide (n = b)) else []

def State.takeStoreRead (s : State) (tag : Word16) (block : Byte) : State :=
  if Config.lastImage < block.toNat then s.refuse .storeRead tag .badArgument
  else if s.write.isSome then s.refuse .storeRead tag .storeBusy
  else s.answer .storeRead tag .ok ((s.block (storePlace block)).bytes ++ s.readMark block.toNat)

def State.takeStoreWrite (s : State) (tag : Word16) (block : Byte) (content : List Byte) : State :=
  match s.writeRefusal block.toNat content with
  | some status => s.refuse .storeWrite tag status
  | none => s.startWrite block content tag

def State.takeSetClock (s : State) (tag : Word16) (setting : Word32) : State :=
  let s1 : State := { s with yardOffset := setting.toInt - s.now }
  s1.answer .setClock tag .ok (num4 s1.runCounter ++ signed32 s1.yardNow)

def State.takeRestart (s : State) (tag : Word16) : State := (s.answer .restart tag .ok []).takeCause .hostRestart

end Sys2Proof.Machine
end

