-- ==== Sys2Proof/Machine/HostLine.lean ====
section
/-! DEFINITION. The Host Line Interface (10.1, 10.2): the receive side, the holding place, the checks that a request passes
before its owner takes it, and the transmitter's completion. -/

namespace Sys2Proof.Machine

/-! ## Taking a request (R179 to R181) -/

/-- A request is handed to its owner (R180, check 4). -/
def State.ownerTakes (s : State) : Instr → State
  | .yardStatus tag => s.takeYardStatus tag
  | .lineQuery tag l => s.takeLineQuery tag l
  | .trailerQuery tag p => s.takeTrailerQuery tag p
  | .trailerList tag f p => s.takeTrailerList tag f p
  | .findUnit tag u => s.takeFindUnit tag u
  | .bindProfile tag p n => s.takeBindProfile tag p n
  | .releasePost tag p => s.takeReleasePost tag p
  | .setWeather tag rh ta => s.takeSetWeather tag rh ta
  | .defrostNow tag p => s.takeDefrostNow tag p
  | .defrostCancel tag p m => s.takeDefrostCancel tag p m
  | .defrostInhibit tag p on => s.takeDefrostInhibit tag p on
  | .feederQuery tag q => s.takeFeederQuery tag q
  | .declareCustody tag p t => s.takeDeclareCustody tag p t
  | .clearCustody tag p => s.takeClearCustody tag p
  | .setRaiseMask tag p m => s.takeSetRaiseMask tag p m
  | .ackFinding tag p c => s.takeAckFinding tag p c
  | .takeException tag => s.takeTakeException tag
  | .peekExceptions tag => s.takePeekExceptions tag
  | .postOutput tag p c b f n => s.takePostOutput tag p c b f n
  | .storeRead tag b => s.takeStoreRead tag b
  | .storeWrite tag b c => s.takeStoreWrite tag b c
  | .setClock tag w => s.takeSetClock tag w
  | .restart tag => s.takeRestart tag
  | .unknownRequest _ _ _ | .roundStart _ | .status _ _ | .responseWindowExpiry _ | .postFrameGapTimeout _
  | .postLineStrayBytes _ _ | .startTimerExpiry _ | .maxDurationExpiry _ | .suspensionLimitExpiry _
  | .stuckTimerExpiry _ | .gatherHoldExpiry _ | .hostFrame _ | .hostFrameGapTimeout | .storeWriteComplete
  | .transmitComplete | .mainsLoss | .imageBlockWritten | .mainsReturn | .supplyFail | .powerOn _ | .keySwitchChange _
  | .lineRateSwitchChange _ | .imageBlockErased => s

/-- A request frame is taken by the checks of R180. -/
def State.takeRequest (s : State) (f : HostFrame) : State :=
  match decodeRequest f with
  | .unknownRequest => s.formReply { type := f.type, tag := f.tag, status := .unknownRequest, body := [] }
  | .badLength => s.formReply { type := f.type, tag := f.tag, status := .badLength, body := [] }
  | .request i =>
    if s.phase.restartPending then s.formReply { type := f.type, tag := f.tag, status := .restarting, body := [] }
    else s.ownerTakes i

/-- The request in the holding place is taken when the reply queue has a place for its reply (R179). -/
def State.serveHolding (s : State) : State :=
  match s.held with
  | none => s
  | some f => if s.hostServed ∧ s.replyRoom then { s with held := none }.takeRequest f else s

/-- A well-formed frame is offered to the holding place (R179). -/
def State.offerFrame (s : State) (f : HostFrame) : State :=
  match s.held with
  | none => ({ s with held := some f }.serveHolding).pumpTx
  | some _ => { s with overruns := min 65535 (s.overruns + 1) }

/-- A frame is abandoned or discarded (R177, R178). -/
def State.countDiscard (s : State) : State := { s with discardedFrames := min 65535 (s.discardedFrames + 1) }

/-- A request frame of the catalogue's framing arrives whole on the host line while it is served (log entry 4); one
whose payload is longer than 272 bytes is abandoned (R177). -/
def State.receiveFrame (s : State) (f : HostFrame) : State :=
  if !s.hostServed then s
  else if Config.maxPayload < f.payload.length then s.countDiscard
  else s.offerFrame f

/-! ## The receive side (R177, R178) -/

/-- Contents with a byte added (R177): too long a payload abandons the frame, a complete frame goes to the CRC check. -/
def State.addContents (s : State) (contents : List Byte) : State :=
  if 2 ≤ contents.length ∧ Config.maxPayload < announcedLength contents then
    { s with rx := .hunting }.countDiscard
  else if frameComplete contents then
    match checkFrame contents with
    | some f => { s with rx := .hunting }.offerFrame f
    | none => { s with rx := .hunting }.countDiscard
  else { s with rx := .inFrame contents false }

/-- A byte on the host line (R177). -/
def State.receiveByte (s : State) (b : Byte) : State :=
  match s.rx with
  | .hunting => if b = Config.startByte then { s with rx := .inFrame [] false } else s
  | .inFrame contents escaped =>
    if b = Config.startByte then { s with rx := .inFrame [] false }.countDiscard
    else if escaped then s.addContents (contents ++ [b ^^^ 0x20])
    else if b = Config.escapeByte then { s with rx := .inFrame contents true }
    else s.addContents (contents ++ [b])

/-- Bytes on the host line, taken one after another while it is served (log entry 12). -/
def State.receiveBytes (s : State) (bytes : List Byte) : State :=
  if s.hostServed then s.forEach bytes State.receiveByte else s

/-- A gap of more than 100 ms between two bytes of a frame abandons it (R177). -/
def State.receiveGap (s : State) : State :=
  match s.rx with
  | .hunting => s
  | .inFrame _ _ => { s with rx := .hunting }.countDiscard

/-! ## The transmitter and the gather stations -/

/-- The transmitter finishes a frame: the next begins, and a place it frees lets a waiting request be taken (R179,
R184). -/
def State.transmitDone (s : State) : State := ({ s with tx := none }.pumpTx).serveHolding

/-- The hold timer of a post's station expires, 2 s after its open time (R187; log entry 2). -/
def State.holdExpires (s : State) (p : Post) : State :=
  match s.stationOf p with
  | none => s
  | some st => if st.opened + Config.gatherHold ≤ s.now then s.flushStation p else s

end Sys2Proof.Machine
end

