-- ==== Sys2Proof/Machine/Piu.lean ====
section
/-! DEFINITION. The post interface unit's side of the exchange (R20, R21): an agent outside the module, modelled as a machine
of its own (log entry 26). -/

namespace Sys2Proof.Machine

/-- A post interface unit: its address, the levels of its outputs and when it last accepted a POLL. -/
structure Piu where
  address : Nat
  outputs : Levels
  accepted : Option Time
  deriving DecidableEq, Repr

/-- A unit that powers up: all four outputs OFF (R20). -/
def Piu.start (address : Nat) : Piu := { address := address, outputs := .off, accepted := none }

/-- A report as the unit sends it: with no unit link, serial 0 and model code 0 (R20). -/
def StatusReport.asSent (r : StatusReport) : StatusReport :=
  if r.plugLink = .unit then r else { r with serial := 0, model := 0 }

/-- The bytes after a start byte reach a unit (R20): it acts only on a well-formed POLL with its own address, applying
the levels and answering with what it senses, the actual levels among it; otherwise it sends nothing. -/
def Piu.hear (u : Piu) (now : Time) (bytes : List Byte) (sensed : StatusReport) : Piu × Option (List Byte) :=
  match readPoll bytes with
  | none => (u, none)
  | some (a, l) =>
    if a = u.address then
      ({ u with outputs := l, accepted := some now }, some (Config.startByte :: sensed.asSent.frameBytes u.address))
    else (u, none)

/-- A unit that has accepted no POLL for 30 s drops the permit and the demand and holds the rest (R21). -/
def Piu.holdOff (u : Piu) (now : Time) : Piu :=
  match u.accepted with
  | none => u
  | some t => if 30 ≤ now - t then { u with outputs := { u.outputs with permit := false, demand := false } } else u

end Sys2Proof.Machine
end

