-- ==== Sys2Proof/Machine/LineCommands.lean ====
section
/-! DEFINITION. The meanings of the events of the post lines and of the module's timers. -/

namespace Sys2Proof.Machine

/-- ROUND_START (R4). -/
def execRoundStart (l : Line) (s : State) : Host.Outcome State Fault Refusal := (s.startRound l).done

/-- STATUS (R6). -/
def execStatus (l : Line) (bytes : List Byte) (s : State) : Host.Outcome State Fault Refusal := (s.frameEnds l bytes).done

/-- RESPONSE_WINDOW_EXPIRY (R6): the exchange ends SILENT. -/
def execResponseWindowExpiry (l : Line) (s : State) : Host.Outcome State Fault Refusal := (s.exchangeTimesOut l).done

/-- POST_FRAME_GAP_TIMEOUT (R6): the exchange ends GARBLED. -/
def execPostFrameGapTimeout (l : Line) (s : State) : Host.Outcome State Fault Refusal := (s.exchangeTimesOut l).done

/-- POST_LINE_STRAY_BYTES (R6): the bytes are discarded and have no effect. -/
def execPostLineStrayBytes (_l : Line) (_bytes : List Byte) (s : State) : Host.Outcome State Fault Refusal := s.done

/-- START_TIMER_EXPIRY (R96). -/
def execStartTimerExpiry (p : Post) (s : State) : Host.Outcome State Fault Refusal := (s.startTimer p).done

/-- MAX_DURATION_EXPIRY (R97). -/
def execMaxDurationExpiry (p : Post) (s : State) : Host.Outcome State Fault Refusal := (s.durationTimer p).done

/-- SUSPENSION_LIMIT_EXPIRY (R104). -/
def execSuspensionLimitExpiry (p : Post) (s : State) : Host.Outcome State Fault Refusal := (s.suspensionTimer p).done

/-- STUCK_TIMER_EXPIRY (R106). -/
def execStuckTimerExpiry (p : Post) (s : State) : Host.Outcome State Fault Refusal := (s.stuckTimer p).done

/-- GATHER_HOLD_EXPIRY (R187). -/
def execGatherHoldExpiry (p : Post) (s : State) : Host.Outcome State Fault Refusal := (s.holdExpires p).done

end Sys2Proof.Machine
end

