-- ==== Sys2Proof/Machine/HostCommands.lean ====
section
/-! DEFINITION. The meanings of the host line's events and of the request rows. A request row is the arrival of its
well-formed request frame (10.3): offered to the holding place, and taken by its owner when the reply queue has room
(R179, R180; log entry 4). What each owner does stands in `Requests.lean`. -/

namespace Sys2Proof.Machine

/-- HOST_FRAME (R177, R178): bytes received on the host line. -/
def execHostFrame (bytes : List Byte) (s : State) : Host.Outcome State Fault Refusal := (s.receiveBytes bytes).done

/-- HOST_FRAME_GAP_TIMEOUT (R177). -/
def execHostFrameGapTimeout (s : State) : Host.Outcome State Fault Refusal := s.receiveGap.done

/-- TRANSMIT_COMPLETE (R184). -/
def execTransmitComplete (s : State) : Host.Outcome State Fault Refusal := s.transmitDone.done

/-- UNKNOWN_REQUEST (R180). -/
def execUnknownRequest (type : Byte) (tag : Word16) (payload : List Byte) (s : State) :
    Host.Outcome State Fault Refusal :=
  (s.receiveFrame ⟨type, tag, payload⟩).done

/-- YARD_STATUS (R190). -/
def execYardStatus (tag : Word16) (s : State) : Host.Outcome State Fault Refusal :=
  (s.receiveFrame ⟨0x01, tag, []⟩).done

/-- LINE_QUERY (R22). -/
def execLineQuery (tag : Word16) (line : Byte) (s : State) : Host.Outcome State Fault Refusal :=
  (s.receiveFrame ⟨0x02, tag, [line]⟩).done

/-- TRAILER_QUERY (R43). -/
def execTrailerQuery (tag : Word16) (post : Byte) (s : State) : Host.Outcome State Fault Refusal :=
  (s.receiveFrame ⟨0x03, tag, [post]⟩).done

/-- TRAILER_LIST (R44). -/
def execTrailerList (tag : Word16) (filter start : Byte) (s : State) : Host.Outcome State Fault Refusal :=
  (s.receiveFrame ⟨0x04, tag, [filter, start]⟩).done

/-- FIND_UNIT (R45). -/
def execFindUnit (tag : Word16) (serial : Word32) (s : State) : Host.Outcome State Fault Refusal :=
  (s.receiveFrame ⟨0x05, tag, bytes32 serial⟩).done

/-- BIND_PROFILE (R46). -/
def execBindProfile (tag : Word16) (post profile : Byte) (s : State) : Host.Outcome State Fault Refusal :=
  (s.receiveFrame ⟨0x06, tag, [post, profile]⟩).done

/-- RELEASE_POST (R47). -/
def execReleasePost (tag : Word16) (post : Byte) (s : State) : Host.Outcome State Fault Refusal :=
  (s.receiveFrame ⟨0x07, tag, [post]⟩).done

/-- SET_WEATHER (R59). -/
def execSetWeather (tag : Word16) (rh ta : Word16) (s : State) : Host.Outcome State Fault Refusal :=
  (s.receiveFrame ⟨0x08, tag, bytes16 rh ++ bytes16 ta⟩).done

/-- DEFROST_NOW (R87). -/
def execDefrostNow (tag : Word16) (post : Byte) (s : State) : Host.Outcome State Fault Refusal :=
  (s.receiveFrame ⟨0x09, tag, [post]⟩).done

/-- DEFROST_CANCEL (R88). -/
def execDefrostCancel (tag : Word16) (post : Byte) (minutes : Word16) (s : State) :
    Host.Outcome State Fault Refusal :=
  (s.receiveFrame ⟨0x0A, tag, post :: bytes16 minutes⟩).done

/-- DEFROST_INHIBIT (R89). -/
def execDefrostInhibit (tag : Word16) (post on : Byte) (s : State) : Host.Outcome State Fault Refusal :=
  (s.receiveFrame ⟨0x0B, tag, [post, on]⟩).done

/-- FEEDER_QUERY (R91). -/
def execFeederQuery (tag : Word16) (queue : Byte) (s : State) : Host.Outcome State Fault Refusal :=
  (s.receiveFrame ⟨0x0C, tag, [queue]⟩).done

/-- DECLARE_CUSTODY (R143). -/
def execDeclareCustody (tag : Word16) (post : Byte) (custodyTag : List Byte) (s : State) :
    Host.Outcome State Fault Refusal :=
  (s.receiveFrame ⟨0x0D, tag, post :: custodyTag⟩).done

/-- CLEAR_CUSTODY (R145). -/
def execClearCustody (tag : Word16) (post : Byte) (s : State) : Host.Outcome State Fault Refusal :=
  (s.receiveFrame ⟨0x0E, tag, [post]⟩).done

/-- SET_RAISE_MASK (R163). -/
def execSetRaiseMask (tag : Word16) (post : Byte) (mask : Word16) (s : State) : Host.Outcome State Fault Refusal :=
  (s.receiveFrame ⟨0x0F, tag, post :: bytes16 mask⟩).done

/-- ACK_FINDING (R162). -/
def execAckFinding (tag : Word16) (post cls : Byte) (s : State) : Host.Outcome State Fault Refusal :=
  (s.receiveFrame ⟨0x10, tag, [post, cls]⟩).done

/-- TAKE_EXCEPTION (R160). -/
def execTakeException (tag : Word16) (s : State) : Host.Outcome State Fault Refusal :=
  (s.receiveFrame ⟨0x11, tag, []⟩).done

/-- PEEK_EXCEPTIONS (R161). -/
def execPeekExceptions (tag : Word16) (s : State) : Host.Outcome State Fault Refusal :=
  (s.receiveFrame ⟨0x12, tag, []⟩).done

/-- POST_OUTPUT (R174). -/
def execPostOutput (tag : Word16) (post contactor beacon forceOff forceOn : Byte) (s : State) :
    Host.Outcome State Fault Refusal :=
  (s.receiveFrame ⟨0x13, tag, [post, contactor, beacon, forceOff, forceOn]⟩).done

/-- STORE_READ (R192). -/
def execStoreRead (tag : Word16) (block : Byte) (s : State) : Host.Outcome State Fault Refusal :=
  (s.receiveFrame ⟨0x14, tag, [block]⟩).done

/-- STORE_WRITE (R193). -/
def execStoreWrite (tag : Word16) (block : Byte) (content : List Byte) (s : State) :
    Host.Outcome State Fault Refusal :=
  (s.receiveFrame ⟨0x15, tag, block :: content⟩).done

/-- SET_CLOCK (R199). -/
def execSetClock (tag : Word16) (setting : Word32) (s : State) : Host.Outcome State Fault Refusal :=
  (s.receiveFrame ⟨0x16, tag, bytes32 setting⟩).done

/-- RESTART (R199). -/
def execRestart (tag : Word16) (s : State) : Host.Outcome State Fault Refusal :=
  (s.receiveFrame ⟨0x17, tag, []⟩).done

end Sys2Proof.Machine
end

