-- ==== Sys2Proof/Machine/HoldUpCommands.lean ====
section
/-! DEFINITION. The meanings of the events of the store, of hold-up, of power and of the switches. -/

namespace Sys2Proof.Machine

/-- STORE_WRITE_COMPLETE (R194). -/
def execStoreWriteComplete (s : State) : Host.Outcome State Fault Refusal := s.completeWrite.done

/-- MAINS_LOSS (R195). -/
def execMainsLoss (s : State) : Host.Outcome State Fault Refusal := s.loseMains.done

/-- IMAGE_BLOCK_WRITTEN (R196). -/
def execImageBlockWritten (s : State) : Host.Outcome State Fault Refusal := s.flushNext.done

/-- MAINS_RETURN (R197). -/
def execMainsReturn (s : State) : Host.Outcome State Fault Refusal := s.returnMains.done

/-- SUPPLY_FAIL (R197). -/
def execSupplyFail (s : State) : Host.Outcome State Fault Refusal := s.failSupply.done

/-- POWER_ON (R198). -/
def execPowerOn (batteryGood : Bool) (s : State) : Host.Outcome State Fault Refusal := (s.powerUp batteryGood).done

/-- KEY_SWITCH_CHANGE (R193). -/
def execKeySwitchChange (position : KeySwitch) (s : State) : Host.Outcome State Fault Refusal :=
  { s with keySwitch := position }.done

/-- LINE_RATE_SWITCH_CHANGE (R176). -/
def execLineRateSwitchChange (position : LineRate) (s : State) : Host.Outcome State Fault Refusal :=
  { s with rateSwitch := position }.done

/-- IMAGE_BLOCK_ERASED (R198). -/
def execImageBlockErased (s : State) : Host.Outcome State Fault Refusal := s.eraseNext.done

end Sys2Proof.Machine
end

