-- ==== Sys2Proof/Machine/Dispatch.lean ====
section
/-! DEFINITION. One arm for each command of the table. -/

namespace Sys2Proof.Machine

def exec (i : Instr) (s : State) : Host.Outcome State Fault Refusal :=
  match i with
  | .roundStart l => Sys2Proof.Machine.execRoundStart l s
  | .status l bytes => Sys2Proof.Machine.execStatus l bytes s
  | .responseWindowExpiry l => Sys2Proof.Machine.execResponseWindowExpiry l s
  | .postFrameGapTimeout l => Sys2Proof.Machine.execPostFrameGapTimeout l s
  | .postLineStrayBytes l bytes => Sys2Proof.Machine.execPostLineStrayBytes l bytes s
  | .startTimerExpiry p => Sys2Proof.Machine.execStartTimerExpiry p s
  | .maxDurationExpiry p => Sys2Proof.Machine.execMaxDurationExpiry p s
  | .suspensionLimitExpiry p => Sys2Proof.Machine.execSuspensionLimitExpiry p s
  | .stuckTimerExpiry p => Sys2Proof.Machine.execStuckTimerExpiry p s
  | .gatherHoldExpiry p => Sys2Proof.Machine.execGatherHoldExpiry p s
  | .hostFrame bytes => Sys2Proof.Machine.execHostFrame bytes s
  | .hostFrameGapTimeout => Sys2Proof.Machine.execHostFrameGapTimeout s
  | .unknownRequest type tag payload => Sys2Proof.Machine.execUnknownRequest type tag payload s
  | .yardStatus tag => Sys2Proof.Machine.execYardStatus tag s
  | .lineQuery tag line => Sys2Proof.Machine.execLineQuery tag line s
  | .trailerQuery tag post => Sys2Proof.Machine.execTrailerQuery tag post s
  | .trailerList tag filter start => Sys2Proof.Machine.execTrailerList tag filter start s
  | .findUnit tag serial => Sys2Proof.Machine.execFindUnit tag serial s
  | .bindProfile tag post profile => Sys2Proof.Machine.execBindProfile tag post profile s
  | .releasePost tag post => Sys2Proof.Machine.execReleasePost tag post s
  | .setWeather tag rh ta => Sys2Proof.Machine.execSetWeather tag rh ta s
  | .defrostNow tag post => Sys2Proof.Machine.execDefrostNow tag post s
  | .defrostCancel tag post minutes => Sys2Proof.Machine.execDefrostCancel tag post minutes s
  | .defrostInhibit tag post on => Sys2Proof.Machine.execDefrostInhibit tag post on s
  | .feederQuery tag queue => Sys2Proof.Machine.execFeederQuery tag queue s
  | .declareCustody tag post custodyTag => Sys2Proof.Machine.execDeclareCustody tag post custodyTag s
  | .clearCustody tag post => Sys2Proof.Machine.execClearCustody tag post s
  | .setRaiseMask tag post mask => Sys2Proof.Machine.execSetRaiseMask tag post mask s
  | .ackFinding tag post cls => Sys2Proof.Machine.execAckFinding tag post cls s
  | .takeException tag => Sys2Proof.Machine.execTakeException tag s
  | .peekExceptions tag => Sys2Proof.Machine.execPeekExceptions tag s
  | .postOutput tag post contactor beacon forceOff forceOn => Sys2Proof.Machine.execPostOutput tag post contactor beacon forceOff forceOn s
  | .storeRead tag block => Sys2Proof.Machine.execStoreRead tag block s
  | .storeWrite tag block content => Sys2Proof.Machine.execStoreWrite tag block content s
  | .storeWriteComplete => Sys2Proof.Machine.execStoreWriteComplete s
  | .setClock tag setting => Sys2Proof.Machine.execSetClock tag setting s
  | .restart tag => Sys2Proof.Machine.execRestart tag s
  | .transmitComplete => Sys2Proof.Machine.execTransmitComplete s
  | .mainsLoss => Sys2Proof.Machine.execMainsLoss s
  | .imageBlockWritten => Sys2Proof.Machine.execImageBlockWritten s
  | .mainsReturn => Sys2Proof.Machine.execMainsReturn s
  | .supplyFail => Sys2Proof.Machine.execSupplyFail s
  | .powerOn batteryGood => Sys2Proof.Machine.execPowerOn batteryGood s
  | .keySwitchChange position => Sys2Proof.Machine.execKeySwitchChange position s
  | .lineRateSwitchChange position => Sys2Proof.Machine.execLineRateSwitchChange position s
  | .imageBlockErased => Sys2Proof.Machine.execImageBlockErased s

end Sys2Proof.Machine
end

