-- ==== Sys2Proof/Machine/Step.lean ====
section
/-! DEFINITION. One step: the command at the front of the queue, or a tick of the run counter on an empty queue. -/

namespace Sys2Proof.Machine

/-- One second passes on the run counter (log entry 1). -/
def State.tick (s : State) : State := { s with runCounter := s.runCounter + 1 }

/-- The step: the command at the front of the queue runs with the queue's rest; on an empty queue a second passes. -/
def step (s : State) : Host.Outcome State Fault Refusal :=
  match s.pending with
  | i :: rest => exec i { s with pending := rest }
  | [] => .next s.tick

/-- The state with the command a word spells put at the front of the queue; unchanged where the word spells none. -/
def State.withFetchWord (s : State) (nbits w : Nat) : State :=
  match decodeTableWord nbits w with
  | some i => { s with pending := i :: s.pending }
  | none => s

end Sys2Proof.Machine
end

