-- ==== Sys2Proof/Safety.lean ====
section
/-! DEFINITION. The terms statements are made in: what a sound state is (the bounds of the buffers, the laws the manual says
the blocks keep), when a request is taken at once, and what stands still while the trailer side of the module works. -/

namespace Sys2Proof.Machine

/-! ## The host's requests -/

/-- A request that arrives is taken at once and by its owner: the module runs, the holding place is empty and the reply
queue has a place (R179, R180). -/
def State.Ready (s : State) : Prop := s.phase = .running ∧ s.held = none ∧ s.replyRoom = true

/-- The state after an OK reply has joined the reply queue and the transmitter has looked for a frame (R181, R184). -/
def State.replied (s : State) (t : RequestType) (tag : Word16) (body : List Byte) : State :=
  (s.formReply { type := t.code, tag := tag, status := .ok, body := body }).pumpTx

/-- The state after a request has been refused with its status alone and the transmitter has looked for a frame (R180,
R181, R184). -/
def State.refusedWith (s : State) (t : RequestType) (tag : Word16) (st : Status) : State := (s.refuse t tag st).pumpTx

/-! ## Notices -/

/-- The stations, the notices and the transmitter are the same in two states. -/
structure SameNotices (s t : State) : Prop where
  stations : t.stations = s.stations
  notices : t.notices = s.notices
  noticesLost : t.noticesLost = s.noticesLost
  tx : t.tx = s.tx

/-- The notice that a station flushes into (R187). -/
def Station.notice (st : Station) : Notice := { post := st.post, items := st.items }

/-- Every station open in one state has been flushed in the other, in order of open time (R188). -/
def FlushesAll (s t : State) : Prop :=
  ∃ order : List Station, order.Perm s.stations ∧ order.Pairwise (fun a b => a.opened ≤ b.opened) ∧
    SameNotices (State.forEach { s with stations := [] } order fun u st => u.offerNotice st.notice) t

/-! ## What stands still -/

/-- The transmitter goes on as it was, or from idle it has taken up a notice that joined (R184). -/
def TxGoesOn (s t : State) : Prop := t.tx = s.tx ∨ (s.tx = none ∧ ∃ n, t.tx = some (.notice n))

/-- What no event of a post line, of a run's timers or of a trailer touches: the clocks, the inputs, the store, the
configuration, the reasons of the last start, the weather, the receive side, the reply queue, the commands that wait, and
the transmitter but for a notice that it may take up from idle. -/
structure WorldSame (s t : State) : Prop where
  runCounter : t.runCounter = s.runCounter
  yardOffset : t.yardOffset = s.yardOffset
  clockInvalid : t.clockInvalid = s.clockInvalid
  keySwitch : t.keySwitch = s.keySwitch
  rateSwitch : t.rateSwitch = s.rateSwitch
  rate : t.rate = s.rate
  mainsPresent : t.mainsPresent = s.mainsPresent
  store : t.store = s.store
  invalidBlocks : t.invalidBlocks = s.invalidBlocks
  asFactory : t.asFactory = s.asFactory
  write : t.write = s.write
  config : t.config = s.config
  startPrimary : t.startPrimary = s.startPrimary
  startSecondary : t.startSecondary = s.startSecondary
  imageNumber : t.imageNumber = s.imageNumber
  weather : t.weather = s.weather
  rx : t.rx = s.rx
  discardedFrames : t.discardedFrames = s.discardedFrames
  overruns : t.overruns = s.overruns
  held : t.held = s.held
  replies : t.replies = s.replies
  tx : TxGoesOn s t
  freeCount : t.freeCount = s.freeCount
  pending : t.pending = s.pending

/-- Everything outside the trailer side of the module stands as it stood: beside what `WorldSame` names, Hold-Up
Control's phase and restart record and the line controllers with their post state tables. The trailer side is the
Trailer Table, its owners, the arbiter, the Finding Unit, Output Control and the Notice Gatherer. -/
structure OutsideSame (s t : State) : Prop extends WorldSame s t where
  phase : t.phase = s.phase
  restartRecord : t.restartRecord = s.restartRecord
  lineA : t.lineA = s.lineA
  lineB : t.lineB = s.lineB
  posts : t.posts = s.posts

/-- The rebuild history and the causes handed to Hold-Up Control stand too. -/
structure NoRebuild (s t : State) : Prop where
  rebuilds : t.rebuilds = s.rebuilds
  heldCauses : t.heldCauses = s.heldCauses

/-- Every other post's record, output state and actions in force stand as they stood. -/
def OtherPostsSame (p : Post) (s t : State) : Prop :=
  ∀ q, q ≠ p → t.trailer q = s.trailer q ∧ t.output q = s.output q ∧ t.inForce q = s.inForce q

/-- A record after a change of its fields (R27): the record as it stood where the change leaves every field as it was, and
else the record with those fields and its code computed. -/
def TrailerRecord.changedTo (old new : TrailerRecord) : TrailerRecord :=
  if new.sealed = old.sealed then old else new.sealed

/-! ## A GOOD status at the table -/

/-- A GOOD status ends the exchange in flight on a line (R6): a round is in progress, the bytes are a STATUS of the address
polled, and no restart cause waits. -/
structure State.Hears (s : State) (l : Line) (bytes : List Byte) (r : Round) (rep : StatusReport) : Prop where
  round : (s.line l).round = some r
  good : goodStatus (postAddress r.exchange.post) bytes = some rep
  noCause : s.heldCauses = []

/-- The status of the unit that an ENROLLED record holds, so that the trailer is evaluated (R26, R39), with its profile. -/
structure State.Evaluates (s : State) (l : Line) (bytes : List Byte) (r : Round) (rep : StatusReport) (pr : Profile) : Prop
    extends s.Hears l bytes r rep where
  unit : rep.unit = .unit
  verifies : (s.trailer r.exchange.post).verifies = true
  enrolled : (s.trailer r.exchange.post).state = .enrolled
  serial : (s.trailer r.exchange.post).serial = rep.serial
  profile : s.profileOf (s.trailer r.exchange.post) = some pr

/-- A held temperature and its invalid count after a report, for a valid range (R51, R52). -/
def heldAfter (held : Option Int) (count : Nat) (reported : Option Int) (low high : Int) (held' : Option Int)
    (count' : Nat) : Prop :=
  (∀ v, reported = some v → low ≤ v → v ≤ high → held' = some v ∧ count' = 0) ∧
  ((∀ v, reported = some v → v < low ∨ high < v) → held' = held ∧ count' = min 255 (count + 1))

/-- The post's trailer is not gone at the gone test: its post is LIVE and its record ARRIVING or ENROLLED (R35). -/
def State.Present (s : State) (owner : Post) : Prop :=
  (s.entry owner).map (·.state) = some .live ∧
    ((s.trailer owner).state = .arriving ∨ (s.trailer owner).state = .enrolled)

/-- The finding table gives no action that reaches a request or a run (R154, R155) to any class but UNIT-STUCK-DEFROST, which
no status produces: so does the factory table (8.3). -/
def State.OnlyBeacons (s : State) : Prop :=
  ∀ c, c ≠ .unitStuckDefrost → (s.tableEntry c).action = .none ∨ (s.tableEntry c).action = .beacon

/-- The next address of a round has been polled as a first exchange (R3, R5, R166): with the levels worked out in the state
that the result of the address before has left. -/
def State.PollsNext (u : State) (l : Line) (q : Post) (r : Round) : Prop :=
  ∃ v : State, u = (v.levelsFor q true).2.putLine l { v.line l with
    round := some { r with exchange := { post := q, retry := false, levels := (v.levelsFor q true).1 } } }

/-- A class is in at most one of a record's two sets, as every production leaves it (8.1, R147). Only an image that no flush
wrote can restore it in both (log entry 30). -/
def TrailerRecord.InOneSet (t : TrailerRecord) (c : FindingClass) : Prop := t.activeOf c = none ∨ t.notedOf c = none

/-- The start values of a post's entry (R8). -/
def PostEntry.start : PostEntry := { state := .unseen, missed := 0, lastGood := none, pluggedNoUnit := false }

/-! ## Laws of the state -/

/-- The exception stack holds at most 8 frames and the next push number lies from 1 to 65535 (R157). -/
def State.StackLaw (s : State) : Prop := s.stack.length ≤ 8 ∧ 1 ≤ s.nextPush ∧ s.nextPush ≤ 65535

/-- The buffers of the host line stay within their places: the reply queue with the place reserved for a write in flight
(R179), the gather stations with their items, one for a post (R186), and the notice transmit queue (R188); the counts saturate (R178,
R179). -/
def State.BufferLaw (s : State) : Prop :=
  s.replies.length + (if s.write.isSome then 1 else 0) ≤ 4 ∧ s.stations.length ≤ 12 ∧
  (s.stations.map (·.post)).Nodup ∧
  (∀ st ∈ s.stations, 1 ≤ st.items.length ∧ st.items.length ≤ 5) ∧ s.notices.length ≤ 24 ∧
  s.discardedFrames ≤ 65535 ∧ s.overruns ≤ 65535

/-- No record has custody CLOSED while its held door state is OPEN (R142). -/
def State.CustodyLaw (s : State) : Prop :=
  ∀ p tag, (s.trailer p).custody = .closed tag → (s.trailer p).door.held ≠ some .opened

/-- The load that runs hold on a queue (R71). -/
def State.grantedLoad (s : State) (q : Queue) : Nat :=
  (allPosts.map fun p => match s.run p with
    | some r => if r.queue = q then r.load else 0
    | none => 0).sum

/-- The requests of a queue stand in the one order of R75. -/
def ordered (q : List Request) : Prop := q.Pairwise fun a b => a.before b = true

/-- Runs, requests and committed load agree (R71, R74, R75): a run belongs to an ENROLLED record; a request belongs to an
ENROLLED record with no run; a trailer has at most one request; each queue stands in its one order; each committed load
is the sum of the loads of the runs that hold a grant from the queue. -/
structure State.GrantLaw (s : State) : Prop where
  runEnrolled : ∀ p, (s.run p).isSome → (s.trailer p).state = .enrolled
  requestEnrolled : ∀ q, ∀ r ∈ s.queue q, (s.trailer r.post).state = .enrolled ∧ s.run r.post = none
  onePerQueue : ∀ q, ((s.queue q).map (·.post)).Nodup
  oneQueue : ∀ q q', q ≠ q' → ∀ r ∈ s.queue q, ∀ r' ∈ s.queue q', r.post ≠ r'.post
  inOrder : ∀ q, ordered (s.queue q)
  committed : ∀ q, s.load q = s.grantedLoad q

/-- Whether a record in a state has a directory entry (R25): ARRIVING, ENROLLED or RESTORED. -/
def RecordState.listed : RecordState → Bool
  | .arriving | .enrolled | .restored => true
  | .vacant | .held => false

/-- The directory agrees with the records (R25): entries in rising serial order with no serial twice, each for a record
that is ARRIVING, ENROLLED or RESTORED and carries the entry's serial, and an entry for every such record. -/
structure State.DirectoryLaw (s : State) : Prop where
  rising : s.directory.Pairwise fun a b => a.1.toNat < b.1.toNat
  sound : ∀ e ∈ s.directory, (s.trailer e.2).state.listed = true ∧ (s.trailer e.2).serial = e.1
  complete : ∀ p, (s.trailer p).state.listed = true → ((s.trailer p).serial, p) ∈ s.directory

/-! ## A start from the store -/

/-- The blocks of the store as a start has judged them (R191): a block with no mark or with content that does not pass its
checks is in the list of invalid blocks and counts as its factory content, and any other is in force. Of profiles with one
model code the lowest is valid (log entry 15). -/
structure State.BlocksJudged (s : State) : Prop where
  ascending : s.invalidBlocks.Pairwise (· < ·)
  range : ∀ b ∈ s.invalidBlocks, 1 ≤ b ∧ b ≤ 37
  asFactory : s.asFactory = s.invalidBlocks
  unread : ∀ b : Fin 102, 1 ≤ b.val → b.val ≤ 37 →
    ((s.block b).mark = false ∨ readBlock b.val (s.block b).bytes = none) → b.val ∈ s.invalidBlocks
  repeated : ∀ (b : Fin 102) (i j : ProfileId) (p q : Profile), 1 ≤ b.val → b.val ≤ 37 →
    readBlock b.val (s.block b).bytes = some (.profile i (some p)) → p.model ≠ 0 → j.val < i.val →
    s.config.profiles.get j = some q → q.model = p.model → b.val ∈ s.invalidBlocks
  inForce : ∀ (b : Fin 102) (c : BlockContent), 1 ≤ b.val → b.val ≤ 37 → (s.block b).mark = true →
    readBlock b.val (s.block b).bytes = some c →
    (∀ (i j : ProfileId) (p q : Profile), c = .profile i (some p) → p.model ≠ 0 → j.val < i.val →
      s.config.profiles.get j = some q → q.model ≠ p.model) →
    b.val ∉ s.invalidBlocks ∧ s.config.block b.val = c
  factory : ∀ b ∈ s.invalidBlocks, s.config.block b = YardConfig.factory.block b

/-- The packed records that a start restores, of those that the image holds in their order (R42): a record is dropped where
its address is not installed or its serial has come already, and where its post has (log entry 30). -/
def restoredOf (installed : Post → Bool) (vs : List Saved) : List Saved :=
  vs.foldl (fun kept v =>
    if installed v.post && kept.all fun w => decide (w.serial ≠ v.serial ∧ w.post ≠ v.post) then kept ++ [v] else kept) []

/-- A record as a restore makes it from its saved values (R42, R130, R133, R198). -/
structure TrailerRecord.RestoredFrom (t : TrailerRecord) (v : Saved) (now : Time) (hp : Nat) : Prop where
  state : t.state = .restored
  serial : t.serial.toNat = v.serial
  model : t.model = 0
  profile : t.profile.map (·.val) = v.profile
  times : t.arrival = some now ∧ t.lastStatus = some now ∧ t.lastEval = none
  sensors : t.tr = none ∧ t.tc = none ∧ t.trInvalid = 0 ∧ t.tcInvalid = 0 ∧ t.unitAbsent = 0
  account : t.f = v.f ∧ t.r = v.r
  lastDefrostEnd : t.lastDefrostEnd = if v.endAge = 0 then none else some (now - v.endAge + 1)
  deferral : t.deferral = if v.remaining = 0 then none else some (now + v.remaining)
  inhibit : t.inhibit = decide (v.inhibit ≠ 0)
  mask : t.mask = BitVec.ofNat 16 v.mask ||| 0x8000
  custody : t.custody.code = v.custody ∧ ((v.custody = 1 ∨ v.custody = 2) → t.custody.tag = v.tag)
  door : t.door.held = none ∧ t.door.unknownCount = 0 ∧ t.door.openingTime = none ∧ t.door.ajarReported = false ∧
    t.door.history = BitVec.ofNat 16 v.history ∧
    t.door.pn = if v.history = 0 then none else some (now / (hp : Int) - v.pnAge)
  fuel : t.fuel.started = decide (v.lf16 ≠ 0) ∧ t.fuel.lf16 = v.lf16 ∧ t.fuel.lastLevel = none ∧
    t.fuel.invalidCount = 0 ∧ t.fuel.refuelPending = false ∧ t.fuel.window = none ∧
    t.fuel.bs = (if v.bs = 0 then none else some v.bs) ∧
    t.fuel.hours = if v.bs = 0 then 9999 else min 9999 (reportedLevel v.lf16 * 10 / v.bs)
  run : t.run = none
  active : ∀ c : FindingClass,
    t.activeOf c = if v.active.testBit c.num then some { cls := c, detail := 0, push := none } else none
  noted : ∀ c : FindingClass, t.notedOf c = if v.noted.testBit c.num then some { cls := c, detail := 0 } else none
  verifies : t.verifies = true

/-- The trailer table, the directory and the actions as a start has built them from the image area (R23, R25, R42, R198 step
4). -/
structure State.ImageRestored (s : State) : Prop where
  number : s.imageNumber = (readImage s.imageArea).map (·.1)
  records : ∀ number vs, readImage s.imageArea = some (number, vs) → ∀ v ∈ restoredOf s.installed vs,
    (s.trailer v.post).RestoredFrom v s.now s.config.hp ∧ (BitVec.ofNat 32 v.serial, v.post) ∈ s.directory ∧
    ∀ a : Action, a ≠ .none → (s.inForce v.post).of a
      = if (s.trailer v.post).active.any fun x => decide ((s.tableEntry x.cls).action = a) then some 0 else none
  others : ∀ p, (∀ number vs, readImage s.imageArea = some (number, vs) → ∀ v ∈ restoredOf s.installed vs, v.post ≠ p) →
    s.trailer p = .vacant ∧ s.inForce p = .none ∧ ∀ e ∈ s.directory, e.2 ≠ p
  rising : s.directory.Pairwise fun a b => a.1.toNat < b.1.toNat
  entries : ∀ e ∈ s.directory, (s.trailer e.2).state = .restored ∧ (s.trailer e.2).serial = e.1

/-! ## Values that their coding holds -/

/-- A temperature that a STATUS can carry as fitted: every signed two-byte number but the not-fitted code. -/
def temperatureFits (t : Option Int) : Prop := ∀ v, t = some v → -32767 ≤ v ∧ v ≤ 32767

/-- A report whose numbers lie within the fields of a STATUS (10.6). -/
def StatusReport.fits (r : StatusReport) : Prop :=
  temperatureFits r.tr ∧ temperatureFits r.tc ∧ r.heaterCurrent ≤ 65535 ∧ r.fuelRaw ≤ 1023

/-- Saved values within the fields of a packed record (10.6). -/
def Saved.fits (v : Saved) : Prop :=
  v.ok = true ∧ v.serial < 2 ^ 32 ∧ v.f < 2 ^ 16 ∧ v.endAge < 2 ^ 32 ∧ v.history < 2 ^ 16 ∧ v.pnAge < 2 ^ 16 ∧
  v.tag.length ≤ 12 ∧ v.bs < 2 ^ 16 ∧ v.mask < 2 ^ 16 ∧ v.active < 2 ^ 16 ∧ v.noted < 2 ^ 16 ∧ v.inhibit < 2 ^ 8 ∧
  v.remaining < 2 ^ 16

end Sys2Proof.Machine
end

