-- ==== Sys2Proof/WellFormed.lean ====
section
/-! DEFINITION. The checks on a command's operands that its type leaves open: the lengths of byte strings that a line
can deliver at once, and the fields that a frame of the catalogue holds. -/

namespace Sys2Proof

/-- The most bytes a post-line frame can take after its start byte: length, 255 counted bytes and CRC, each escaped. -/
def maxPostFrameBytes : Nat := 2 * 258

/-- A command is well formed: byte strings within what a line delivers, the payload of an unknown request within what the
module receives (R177) and its type outside the catalogue (R180), a custody tag of at most 12 characters (10.3), and
store content of one block (10.3). -/
def Instr.wf : Instr → Bool
  | .status _ bytes => bytes.length ≤ maxPostFrameBytes
  | .unknownRequest ty _ payload => (RequestType.ofCode ty).isNone && decide (payload.length ≤ Config.maxPayload)
  | .declareCustody _ _ t => t.length ≤ 12
  | .storeWrite _ _ content => content.length = 256
  | .postLineStrayBytes _ _ | .hostFrame _
  | .roundStart _ | .responseWindowExpiry _ | .postFrameGapTimeout _ | .startTimerExpiry _ | .maxDurationExpiry _
  | .suspensionLimitExpiry _ | .stuckTimerExpiry _ | .gatherHoldExpiry _ | .hostFrameGapTimeout | .yardStatus _
  | .lineQuery _ _ | .trailerQuery _ _ | .trailerList _ _ _ | .findUnit _ _ | .bindProfile _ _ _ | .releasePost _ _
  | .setWeather _ _ _ | .defrostNow _ _ | .defrostCancel _ _ _ | .defrostInhibit _ _ _ | .feederQuery _ _
  | .clearCustody _ _ | .setRaiseMask _ _ _ | .ackFinding _ _ _ | .takeException _ | .peekExceptions _
  | .postOutput _ _ _ _ _ _ | .storeRead _ _ | .storeWriteComplete | .setClock _ _ | .restart _ | .transmitComplete
  | .mainsLoss | .imageBlockWritten | .mainsReturn | .supplyFail | .powerOn _ | .keySwitchChange _
  | .lineRateSwitchChange _ | .imageBlockErased => true

end Sys2Proof
end

