-- ==== Sys2Proof/Certificates/Slice0/Obligations.lean ====
section
/-! DEFINITION. The statements for the provers, from the numbered rules of spec/ chapter by chapter. A statement about a request
row speaks of its arrival while the module runs with an empty holding place and a place in the reply queue
(`State.Ready`); `RequestsAreCheckedAndHeld` covers the other cases for every request at once. -/

open Sys2Proof
open Sys2Proof.Machine

/-! ## The machine -/

/-- A step runs the command at the front of the queue with the queue's rest; on an empty queue a second passes (the
model's choice, log entry 1). -/
def Obligations.StepRunsTheFront : Prop :=
  (∀ (s : State) (i : Instr) (rest : List Instr), s.pending = i :: rest →
    step s = exec i { s with pending := rest }) ∧
  (∀ s : State, s.pending = [] → step s = .next { s with runCounter := s.runCounter + 1 })

/-- Every command answers a next state (log entry 32, DEDUCED: no rule stops the module), leaves the commands that wait,
and never leaves the transmitter idle over a waiting reply or notice (R184; that a reply waits for the end of its command
is the model's choice, log entry 5). -/
def Obligations.EveryCommandEnds : Prop :=
  ∀ (i : Instr) (s : State), ∃ t, exec i s = .next t ∧ t.pending = s.pending ∧
    (t.tx = none → t.replies = [] ∧ t.notices = [])

/-- The start values that chapters 1 to 10 give, and the laws of the state, hold at reset: the lines (R18), the records and
the directory (R23, R25), the rebuild history (R29), the weather (R58), the queues and loads, the fuel hours (R115), the
stack (R157), the output states (R165), the receive side, the holding place, the reply queue and the notices (R177 to R179,
R186, R188). That State.reset stands for a cold start from factory content is the model's choice (log entry 9). -/
def Obligations.ResetStartValues : Prop :=
  (∀ p, (State.reset.trailer p).state = .vacant ∧ (State.reset.trailer p).mask = 0xFFFF ∧
    (State.reset.trailer p).fuel.hours = 9999 ∧ State.reset.run p = none ∧ State.reset.entry p = none ∧
    State.reset.output p = none) ∧
  State.reset.directory = [] ∧ State.reset.rebuilds = [] ∧ State.reset.weather.receipt = none ∧
  (∀ q, State.reset.queue q = [] ∧ State.reset.load q = 0) ∧
  State.reset.stack = [] ∧ State.reset.nextPush = 1 ∧
  State.reset.rx = .hunting ∧ State.reset.discardedFrames = 0 ∧ State.reset.overruns = 0 ∧ State.reset.held = none ∧
  State.reset.replies = [] ∧ State.reset.stations = [] ∧ State.reset.notices = [] ∧ State.reset.noticesLost = false ∧
  (∀ l, (State.reset.line l).state = .off ∧ (State.reset.line l).sinceUp = none) ∧
  State.reset.StackLaw ∧ State.reset.BufferLaw ∧ State.reset.CustodyLaw ∧ State.reset.GrantLaw ∧
  State.reset.DirectoryLaw

/-! ## Laws that every step keeps -/

/-- Every step keeps the bounds of the exception stack and of the host line's buffers (R157, R179, R186, R188). -/
def Obligations.BuffersStayBounded : Prop :=
  ∀ s t : State, s.StackLaw → s.BufferLaw → step s = .next t → t.StackLaw ∧ t.BufferLaw

/-- Every step keeps the law of R142: no record has custody CLOSED while its held door state is OPEN. -/
def Obligations.CustodyStaysLawful : Prop :=
  ∀ s t : State, s.CustodyLaw → step s = .next t → t.CustodyLaw

/-- Every step keeps runs, requests and committed loads in agreement, and the queues in their order (R71, R74, R75).
-/
def Obligations.GrantsStayLawful : Prop :=
  ∀ s t : State, s.GrantLaw → step s = .next t → t.GrantLaw

/-- Every step keeps the unit directory in agreement with the records (R25). -/
def Obligations.DirectoryStaysLawful : Prop :=
  ∀ s t : State, s.DirectoryLaw → step s = .next t → t.DirectoryLaw

/-- The trailer table stands still while it is flushed (R195): from a pending restart to a pending restart, with no
round in progress, no command but the completion of a store write changes a record, the directory, a queue, a
committed load, an action in force or the exception stack, and no command at all starts a round. -/
def Obligations.TableStandsStill : Prop :=
  ∀ (i : Instr) (s t : State), s.phase.restartPending = true → s.lineA.round = none → s.lineB.round = none →
    exec i s = .next t → t.phase.restartPending = true →
    t.lineA.round = none ∧ t.lineB.round = none ∧
    (i ≠ .storeWriteComplete → t.records = s.records ∧ t.directory = s.directory ∧ t.queues = s.queues ∧
      t.committed = s.committed ∧ t.actions = s.actions ∧ t.stack = s.stack ∧ t.nextPush = s.nextPush)

/-! ## Frames on the lines (10.1, 10.3, 10.6) -/

/-- The request frame of every well-formed request row reads back as that row, and the frame of an UNKNOWN_REQUEST as
an unknown type (10.3, R180). -/
def Obligations.RequestFrameReadsBack : Prop :=
  ∀ (i : Instr) (f : HostFrame), i.wf = true → i.frame = some f →
    decodeRequest f = (if (RequestType.ofCode f.type).isSome then .request i else .unknownRequest)

/-- The wire bytes of a request row's frame, received from HUNTING, do what the row itself does; the row stands for
the whole arrival of its frame, which is the model's choice (log entry 4; 10.1, R177, R178). -/
def Obligations.WireBytesDoWhatTheRowDoes : Prop :=
  ∀ (i : Instr) (f : HostFrame) (s : State), i.wf = true → i.frame = some f → s.rx = .hunting →
    exec (.hostFrame f.wire) s = exec i s

/-- The frames of a post line. A STATUS frame reads back, whatever its address and fields (10.6). A post interface unit
that hears a POLL (R20) with its own address applies the four levels and answers with a STATUS that the module reads as
GOOD for that address; with any other address it changes nothing and sends nothing. -/
def Obligations.PostLineFramesReadBack : Prop :=
  (∀ (address : Nat) (r : StatusReport), address < 256 → r.fits →
     readStatus (r.frameBytes address) = some (address, r)) ∧
  (∀ (u : Piu) (now : Time) (address : Nat) (l : Levels) (sensed : StatusReport), address < 256 → sensed.fits →
     (u.address = address →
       ∃ answer, u.hear now (pollWire address l).tail sensed
           = ({ u with outputs := l, accepted := some now }, some (Config.startByte :: answer)) ∧
         goodStatus address answer = some sensed.asSent) ∧
     (u.address ≠ address → u.hear now (pollWire address l).tail sensed = (u, none)))

/-- The image area that a flush of some records leaves, over an erased area, is read back as those records with the
flush number (10.6, R196, R198). The padding is the model's (log entry 7). -/
def Obligations.FlushedImageReadsBack : Prop :=
  ∀ (number rest : Nat) (vs : List Saved), number ≤ 65534 → vs.length ≤ 240 → (∀ v ∈ vs, v.fits) →
    readImage (flushBlocks number (vs.map Saved.bytes) ++ List.replicate rest (List.replicate 256 0xFF))
      = some (number, vs)

/-! ## The host line (10.1, 10.2) -/

/-- The checks of R180 before a request's owner: an unknown type, then a length outside the catalogue, then a pending
restart, each answered by its status with no other effect. The holding place (R179): a request that finds it occupied
is discarded and counted, and one that finds the reply queue full waits in it. That the rows stand for whole frames
and that a reply waits for the end of its command are the model's choices (log entries 4 and 5). -/
def Obligations.RequestsAreCheckedAndHeld : Prop :=
  (∀ s : State, s.hostServed = true → s.held = none → s.replyRoom = true →
     (∀ ty tag payload, (Instr.unknownRequest ty tag payload).wf = true →
       exec (.unknownRequest ty tag payload) s
         = .next (s.formReply { type := ty, tag := tag, status := .unknownRequest, body := [] }).pumpTx) ∧
     (∀ (f : HostFrame) t, s.rx = .hunting → RequestType.ofCode f.type = some t → f.payload.length ≤ 272 →
       t.lengthOk f.payload.length = false →
       exec (.hostFrame f.wire) s
         = .next (s.formReply { type := f.type, tag := f.tag, status := .badLength, body := [] }).pumpTx) ∧
     (∀ (i : Instr) (f : HostFrame), i.wf = true → i.frame = some f → (RequestType.ofCode f.type).isSome →
       s.phase.restartPending = true →
       exec i s = .next (s.formReply { type := f.type, tag := f.tag, status := .restarting, body := [] }).pumpTx)) ∧
  (∀ (i : Instr) (f : HostFrame) (s : State), i.wf = true → i.frame = some f → s.hostServed = true →
     (∀ g, s.held = some g → exec i s = .next (State.pumpTx { s with overruns := min 65535 (s.overruns + 1) })) ∧
     (s.held = none → s.replyRoom = false → exec i s = .next (State.pumpTx { s with held := some f })))

/-- TRANSMIT_COMPLETE (R179, R184): the oldest reply is sent next, else the oldest notice, else the transmitter is
idle; a reply that leaves its place lets the request in the holding place be taken. -/
def Obligations.TransmitterTakesRepliesFirst : Prop :=
  ∀ s : State,
    (∀ r rest, s.replies = r :: rest → s.held = none →
      exec .transmitComplete s = .next { s with tx := some (.reply r), replies := rest }) ∧
    (∀ n rest, s.replies = [] → s.notices = n :: rest → s.held = none →
      exec .transmitComplete s = .next { s with tx := some (.notice n), notices := rest }) ∧
    (s.replies = [] → s.notices = [] → s.held = none → exec .transmitComplete s = .next { s with tx := none }) ∧
    (∀ r rest f, s.replies = r :: rest → s.held = some f → s.hostServed = true →
      rest.length + (if s.write.isSome then 1 else 0) < 4 →
      exec .transmitComplete s
        = .next ({ s with tx := some (.reply r), replies := rest, held := none }.takeRequest f).pumpTx)

/-- The gather stations (R184 to R188), GATHER_HOLD_EXPIRY, and the flush of every station as a restart begins. A notice offered is begun at once by an idle transmitter
with nothing waiting; else it waits in the transmit queue, or is lost and flagged where that holds 24. An item joins its
post's station or opens one, with the yard time of now; an item for a new post while all twelve stations are open
first flushes the earliest of them; an item that raises a finding or reports a departure, and a sixth item, flush the
station into one notice, as do two seconds after its open time; the flush as a restart begins takes every open station, in
order of open time. Before its moment the expiry changes nothing (the model's choice, log entry 2). -/
def Obligations.StationsGatherAndFlush : Prop :=
  ∀ (s : State) (p : Post), s.BufferLaw →
    (∀ n : Notice,
      (s.tx = none → s.replies = [] → s.notices = [] → s.offerNotice n = { s with tx := some (.notice n) }) ∧
      ((s.tx ≠ none ∨ s.replies ≠ [] ∨ s.notices ≠ []) → s.notices.length < 24 →
        s.offerNotice n = { s with notices := s.notices ++ [n] }) ∧
      (24 ≤ s.notices.length → s.offerNotice n = { s with noticesLost := true })) ∧
    (∀ b : ItemBody, s.stationOf p = none → s.stations.length < 12 →
      (b.flushes = false →
        s.item p b = { s with stations := s.stations ++
          [{ post := p, opened := s.now, items := [{ yardTime := s.yardNow, body := b }] }] }) ∧
      (b.flushes = true →
        s.item p b = s.offerNotice { post := p, items := [{ yardTime := s.yardNow, body := b }] })) ∧
    (∀ b : ItemBody, s.stationOf p = none → s.stations.length = 12 →
      ∃ before e after, s.stations = before ++ e :: after ∧ (∀ x ∈ before, e.opened < x.opened) ∧
        (∀ x ∈ after, e.opened ≤ x.opened) ∧
        (b.flushes = false →
          s.item p b =
            { State.offerNotice { s with stations := before ++ after } { post := e.post, items := e.items } with
              stations := before ++ after ++
                [{ post := p, opened := s.now, items := [{ yardTime := s.yardNow, body := b }] }] }) ∧
        (b.flushes = true →
          s.item p b
            = (State.offerNotice { s with stations := before ++ after }
                { post := e.post, items := e.items }).offerNotice
                { post := p, items := [{ yardTime := s.yardNow, body := b }] })) ∧
    (∀ (b : ItemBody) (st : Station), s.stationOf p = some st →
      (b.flushes = false → st.items.length < 5 →
        s.item p b = { s with stations := (s.item p b).stations } ∧
        (s.item p b).stationOf p = some { st with items := st.items ++ [{ yardTime := s.yardNow, body := b }] } ∧
        ∀ q, q ≠ p → (s.item p b).stationOf q = s.stationOf q) ∧
      ((b.flushes = true ∨ st.items.length = 5) →
        s.item p b =
          State.offerNotice { s with stations := s.stations.filter fun x => decide (x.post ≠ p) }
            { post := p, items := st.items ++ [{ yardTime := s.yardNow, body := b }] })) ∧
    (∀ st : Station, s.stationOf p = some st →
      (st.opened + 2 ≤ s.now →
        exec (.gatherHoldExpiry p) s
          = .next (State.pumpTx
              (State.offerNotice { s with stations := s.stations.filter fun x => decide (x.post ≠ p) }
                { post := p, items := st.items }))) ∧
      (s.now < st.opened + 2 → exec (.gatherHoldExpiry p) s = .next s.pumpTx)) ∧
    (s.stationOf p = none → exec (.gatherHoldExpiry p) s = .next s.pumpTx) ∧
    (let u := State.flushAll s.stations.length s
     FlushesAll s u ∧ u = { s with
       stations := [], notices := u.notices, noticesLost := u.noticesLost, tx := u.tx } ∧ TxGoesOn s u)

/-- Events that move a switch or find nothing to act on: a gap ends a frame begun on the host line and is counted, and
is nothing while HUNTING, where every byte but the start byte is discarded and the start byte begins a frame (R177);
the switches only take their positions (R176, R193); stray bytes, and a frame, a window or a gap with no exchange in
flight, change nothing (R6). -/
def Obligations.GapsSwitchesAndStrayBytes : Prop :=
  ∀ s : State,
    (∀ c e, s.rx = .inFrame c e →
      exec .hostFrameGapTimeout s
        = .next (State.pumpTx { s with rx := .hunting, discardedFrames := min 65535 (s.discardedFrames + 1) })) ∧
    (s.rx = .hunting → exec .hostFrameGapTimeout s = .next s.pumpTx) ∧
    (∀ bytes, s.rx = .hunting → Config.startByte ∉ bytes → exec (.hostFrame bytes) s = .next s.pumpTx) ∧
    (s.hostServed = true → s.rx = .hunting →
      exec (.hostFrame [Config.startByte]) s = .next (State.pumpTx { s with rx := .inFrame [] false })) ∧
    (∀ k, exec (.keySwitchChange k) s = .next (State.pumpTx { s with keySwitch := k })) ∧
    (∀ r, exec (.lineRateSwitchChange r) s = .next (State.pumpTx { s with rateSwitch := r })) ∧
    (∀ l bytes, exec (.postLineStrayBytes l bytes) s = .next s.pumpTx) ∧
    (∀ l, (s.line l).round = none →
      (∀ bytes, exec (.status l bytes) s = .next s.pumpTx) ∧
      exec (.responseWindowExpiry l) s = .next s.pumpTx ∧ exec (.postFrameGapTimeout l) s = .next s.pumpTx)

/-! ## Requests that report (R22, R43 to R45, R91, R161, R190, R192) -/

/-- YARD_STATUS, LINE_QUERY, FEEDER_QUERY and STORE_READ (R22, R91, R188, R190, R192): each reports what it names and
changes nothing, but that YARD_STATUS clears the notices-lost flag it reports; a line above 1, a queue above 8 and a
block above 101 are refused BAD-ARGUMENT, and a read while a write is in flight STORE-BUSY. TRAILER_QUERY (R43, 10.6):
the reply is the 154-byte record and nothing changes; NO-TRAILER for a VACANT record and BAD-ARGUMENT above 239.
Widths and codes of the replies where the manual is silent are the model's (log entries 7, 38 and 41). -/
def Obligations.QueriesReport : Prop :=
  (∀ (tag : Word16) (b : Byte) (s : State), s.Ready →
     exec (.yardStatus tag) s = .next (State.replied { s with noticesLost := false } .yardStatus tag s.yardStatusFields) ∧
     (b = 0 → exec (.lineQuery tag b) s = .next (s.replied .lineQuery tag (s.lineFields .a))) ∧
     (b = 1 → exec (.lineQuery tag b) s = .next (s.replied .lineQuery tag (s.lineFields .b))) ∧
     (1 < b.toNat → exec (.lineQuery tag b) s = .next (s.refusedWith .lineQuery tag .badArgument)) ∧
     (∀ q : Queue, b.toNat = q.val →
       exec (.feederQuery tag b) s = .next (s.replied .feederQuery tag (s.feederFields q))) ∧
     (8 < b.toNat → exec (.feederQuery tag b) s = .next (s.refusedWith .feederQuery tag .badArgument)) ∧
     (∀ k : Fin 102, b.toNat = k.val → s.write = none →
       exec (.storeRead tag b) s
         = .next (s.replied .storeRead tag ((s.block k).bytes ++
             if k.val < 38 then [if k.val ∈ s.asFactory then 1 else 0] else []))) ∧
     (∀ k : Fin 102, b.toNat = k.val → s.write.isSome → exec (.storeRead tag b) s
         = .next (s.refusedWith .storeRead tag .storeBusy)) ∧
     (101 < b.toNat → exec (.storeRead tag b) s = .next (s.refusedWith .storeRead tag .badArgument))) ∧
  (∀ (tag : Word16) (b : Byte) (s : State), s.Ready →
     (239 < b.toNat → exec (.trailerQuery tag b) s = .next (s.refusedWith .trailerQuery tag .badArgument)) ∧
     (∀ p : Post, b.toNat = p.val → (s.trailer p).state = .vacant →
       exec (.trailerQuery tag b) s = .next (s.refusedWith .trailerQuery tag .noTrailer)) ∧
     (∀ p : Post, b.toNat = p.val → (s.trailer p).state ≠ .vacant →
       exec (.trailerQuery tag b) s = .next (s.replied .trailerQuery tag (s.trailerRecordBytes p)) ∧
       ((s.trailer p).custody.tag.length ≤ 12 → (s.trailerRecordBytes p).length = 154)))

/-- TRAILER_LIST (R44): the reply lists, in ascending post index from the start post, the records whose state is in the
filter, at most 32 of them, and gives the next post index to ask from or the end of the list; an empty filter, a filter
with bits 5 to 7 and a start post above 239 are refused BAD-ARGUMENT. FIND_UNIT (R45), where the directory agrees with
the records: the post of the record that is ARRIVING, ENROLLED or RESTORED with the serial and its state, and the posts
of every HELD record with it, ascending; NO-TRAILER where the serial is in neither, BAD-ARGUMENT for serial 0. Neither
changes anything. Widths and codes of the replies where the manual is silent are the model's (log entry 7). -/
def Obligations.ListingsNameTheirRecords : Prop :=
  (∀ (tag : Word16) (filter b : Byte) (s : State), s.Ready →
     (filter = 0 ∨ 32 ≤ filter.toNat ∨ 239 < b.toNat →
       exec (.trailerList tag filter b) s = .next (s.refusedWith .trailerList tag .badArgument)) ∧
     (∀ start : Post, b.toNat = start.val → filter ≠ 0 → filter.toNat < 32 →
       ∃ matches' : List Post,
         matches'.Pairwise (fun p q => p.val < q.val) ∧
         (∀ p, p ∈ matches' ↔ start.val ≤ p.val ∧ filter.getLsbD (s.trailer p).state.code = true) ∧
         exec (.trailerList tag filter b) s
           = .next (s.replied .trailerList tag
               (listField (matches'.take 32) (fun p =>
                   num1 p.val ++ num1 (s.trailer p).state.code ++ bytes32 (s.trailer p).serial
                     ++ opt1 ((s.trailer p).profile.map (·.val))
                     ++ flagField (((s.entry p).map (·.pluggedNoUnit)).getD false))
                 ++ opt1 (matches'[32]?.map (·.val)))))) ∧
  (∀ (tag : Word16) (serial : Word32) (s : State), s.Ready → s.DirectoryLaw →
     (serial = 0 → exec (.findUnit tag serial) s = .next (s.refusedWith .findUnit tag .badArgument)) ∧
     (serial ≠ 0 → ∃ held : List Post,
       held.Pairwise (fun p q => p.val < q.val) ∧
       (∀ p, p ∈ held ↔ (s.trailer p).state = .held ∧ (s.trailer p).serial = serial) ∧
       (∀ p, (s.trailer p).state.listed = true → (s.trailer p).serial = serial →
         exec (.findUnit tag serial) s
           = .next (s.replied .findUnit tag
               (num1 p.val ++ num1 (s.trailer p).state.code ++ listField held fun q => num1 q.val))) ∧
       ((∀ p, (s.trailer p).state.listed = true → (s.trailer p).serial ≠ serial) →
         exec (.findUnit tag serial) s
           = .next (if held = [] then s.refusedWith .findUnit tag .noTrailer
               else s.replied .findUnit tag ([0xFF, 0xFF] ++ listField held fun q => num1 q.val)))))

/-- PEEK_EXCEPTIONS (R161): the number of frames, 0 to 8, the next push number and every frame, top first; nothing
changes. TAKE_EXCEPTION (R160): the top frame is removed and returned; an empty stack answers none; while a restart is
pending it is refused RESTARTING. No class changes. Widths and codes of the replies where the manual is silent are the
model's (log entry 7). -/
def Obligations.ExceptionStackIsPeekedAndTaken : Prop :=
  (∀ (tag : Word16) (s : State), s.Ready → s.StackLaw →
     exec (.peekExceptions tag) s
       = .next (s.replied .peekExceptions tag
           (num1 s.stack.length ++ num2 s.nextPush ++ s.stack.flatMap ExceptionFrame.bytes)) ∧
     s.stack.length ≤ 8) ∧
  (∀ (tag : Word16) (s : State),
     (∀ f rest, s.Ready → s.stack = f :: rest →
       exec (.takeException tag) s
         = .next (State.replied { s with stack := rest } .takeException tag (num1 1 ++ f.bytes))) ∧
     (s.Ready → s.stack = [] → exec (.takeException tag) s = .next (s.replied .takeException tag (num1 0))) ∧
     (s.phase.restartPending = true → s.held = none → s.replyRoom = true →
       exec (.takeException tag) s = .next (s.refusedWith .takeException tag .restarting)))

/-! ## Requests of the Trailer Table and the weather (R46, R47, R59) -/

/-- BIND_PROFILE (R34, R46): an ARRIVING record is enrolled with the named profile's enrolment values and UNKNOWN-
MODEL clears from the set that holds it; every other post, the queues, the loads, the stack and the directory are unchanged. The
refusals in their order. That the items come before the reply, where an idle transmitter may begin their notice, is the
model's choice (log entry 16). -/
def Obligations.BindProfileEnrols : Prop :=
  ∀ (tag : Word16) (b n : Byte) (s : State), s.Ready →
    (239 < b.toNat → exec (.bindProfile tag b n) s = .next (s.refusedWith .bindProfile tag .badArgument)) ∧
    (∀ p : Post, b.toNat = p.val →
      (31 < n.toNat ∨ ∃ i : ProfileId, n.toNat = i.val ∧ s.config.profiles.get i = none) →
      exec (.bindProfile tag b n) s = .next (s.refusedWith .bindProfile tag .badArgument)) ∧
    (∀ (p : Post) (i : ProfileId) (pr : Profile), b.toNat = p.val → n.toNat = i.val →
      s.config.profiles.get i = some pr →
      ((s.trailer p).state = .vacant →
        exec (.bindProfile tag b n) s = .next (s.refusedWith .bindProfile tag .noTrailer)) ∧
      ((s.trailer p).state ≠ .vacant → (s.trailer p).state ≠ .arriving →
        exec (.bindProfile tag b n) s = .next (s.refusedWith .bindProfile tag .wrongState)) ∧
      ((s.trailer p).state = .arriving →
        ∃ u : State, exec (.bindProfile tag b n) s = .next (u.replied .bindProfile tag []) ∧
          (u.trailer p).state = .enrolled ∧ (u.trailer p).profile = some i ∧
          (u.trailer p).f = pr.fth / 2 ∧ (u.trailer p).r = 0 ∧ (u.trailer p).lastDefrostEnd = none ∧
          (u.trailer p).lastEval = none ∧ (u.trailer p).custody = .none ∧ (u.trailer p).fuel = .start ∧
          (u.trailer p).door = { (s.trailer p).door with history := 0, pn := none } ∧
          (u.trailer p).mask = pr.mask ||| 0x8000 ∧
          (u.trailer p).serial = (s.trailer p).serial ∧ (u.trailer p).model = (s.trailer p).model ∧
          (u.trailer p).arrival = (s.trailer p).arrival ∧ (u.trailer p).inhibit = (s.trailer p).inhibit ∧
          (u.trailer p).deferral = (s.trailer p).deferral ∧ (u.trailer p).verifies = true ∧
          (u.trailer p).activeOf .unknownModel = none ∧
          ((s.trailer p).InOneSet .unknownModel → (u.trailer p).stands .unknownModel = false) ∧
          u.queues = s.queues ∧ u.committed = s.committed ∧ u.stack = s.stack ∧ u.nextPush = s.nextPush ∧
          u.directory = s.directory ∧ OutsideSame s u ∧ NoRebuild s u ∧ OtherPostsSame p s u))

/-- RELEASE_POST (R30, R47), where runs and requests are in agreement: the record departs: it takes the vacant values,
and its request, its directory entry and its actions are gone; no other record changes its state or its serial, and no
other directory entry goes. The items are those of the run that ended and of the grants that its load set free, if it held
one, and then DEPARTED with the serial; that they come before the reply, where an idle transmitter begins their notice, is the
model's choice (log entry 16), and so is that DEFROST-ENDED counts a suspension in progress (log entry 47). -/
def Obligations.ReleasePostDeparts : Prop :=
  ∀ (tag : Word16) (b : Byte) (s : State), s.Ready → s.GrantLaw →
    (239 < b.toNat → exec (.releasePost tag b) s = .next (s.refusedWith .releasePost tag .badArgument)) ∧
    (∀ p : Post, b.toNat = p.val → (s.trailer p).state = .vacant →
      exec (.releasePost tag b) s = .next (s.refusedWith .releasePost tag .noTrailer)) ∧
    (∀ p : Post, b.toNat = p.val → (s.trailer p).state ≠ .vacant →
      ∃ u : State, exec (.releasePost tag b) s = .next (u.replied .releasePost tag []) ∧
        u.trailer p = .vacant ∧ u.inForce p = .none ∧
        (∀ q, ∀ r ∈ u.queue q, r.post ≠ p) ∧
        u.directory = s.directory.filter (fun e => decide (e.2 ≠ p)) ∧
        (∀ q, q ≠ p → (u.trailer q).state = (s.trailer q).state ∧ (u.trailer q).serial = (s.trailer q).serial) ∧
        (s.run p = none → SameNotices (s.item p (.departed (s.trailer p).serial)) u) ∧
        (∀ x, s.run p = some x → ∃ granted : List Request, (∀ r ∈ granted, r ∈ s.queue x.queue) ∧
          SameNotices
            (((s.item p (.defrostEnded (.aborted .departure) x.f0 (x.heatingAt s.now) (x.suspendedAt s.now)
                false)).forEach granted fun v r =>
              v.item r.post (.defrostStarted r.cls x.queue r.load r.cls.firstState)).item p
                (.departed (s.trailer p).serial)) u) ∧
        u.stack = s.stack ∧ u.nextPush = s.nextPush ∧ OutsideSame s u ∧ NoRebuild s u)

/-- SET_WEATHER (R59, R60): RH and Ta are clamped to 0 to 100 and −400 to +500 and replace the weather state with the
receipt time now; the reply carries them, the M they give, and whether either was clamped; while a restart is pending
the request is refused RESTARTING and nothing changes. SET_CLOCK (R199): the yard clock reads the setting from that
moment, and the reply carries the run counter and the new yard clock. Widths and codes of the replies where the manual
is silent are the model's (log entry 7). -/
def Obligations.WeatherAndClockAreSet : Prop :=
  (∀ (tag rh ta : Word16) (s : State),
     (s.Ready →
       ∃ (h : Nat) (a : Int), (h : Int) = max 0 (min 100 rh.toInt) ∧ a = max (-400) (min 500 ta.toInt) ∧
         exec (.setWeather tag rh ta) s
           = .next (State.replied { s with weather := { rh := h, ta := a, receipt := some s.now } } .setWeather tag
               (num2 h ++ signed16 a ++ num1 (if 0 ≤ a then h * 16 / 100 else h * 8 / 100)
                 ++ [if (h : Int) ≠ rh.toInt ∨ a ≠ ta.toInt then 1 else 0]))) ∧
     (s.phase.restartPending = true → s.held = none → s.replyRoom = true →
       exec (.setWeather tag rh ta) s = .next (s.refusedWith .setWeather tag .restarting))) ∧
  (∀ (tag : Word16) (setting : Word32) (s : State), s.Ready →
     exec (.setClock tag setting) s
       = .next (State.replied { s with yardOffset := setting.toInt - s.now } .setClock tag
           (num4 s.runCounter ++ bytes32 setting)) ∧
     ({ s with yardOffset := setting.toInt - s.now } : State).yardNow = setting.toInt)

/-! ## Requests of the Feeder Arbiter (R87 to R89) -/

/-- DEFROST_NOW refused (R87): no trailer; a record that is not ENROLLED or has a run; and, named in the reply's second
byte, the inhibit flag, an INHIBIT-DEFROST action in force, a deferral later than now, the first found in that order.
DEFROST_NOW taken (R75, R80, R87) for an ENROLLED trailer with no run that nothing blocks: a FORCED or HOST request is
not changed; a UNIT or THRESHOLD request becomes HOST in place, its filing time, load and pass count kept; with no
request one of class HOST is filed, and either stands in its queue or has been granted by the walk. Widths and codes of
the reply where the manual is silent are the model's (log entry 7), and so is that the items of a grant come before the
reply (log entry 16). -/
def Obligations.DefrostNowFilesOrIsRefused : Prop :=
  (∀ (tag : Word16) (b : Byte) (s : State), s.Ready →
     (239 < b.toNat → exec (.defrostNow tag b) s = .next (s.refusedWith .defrostNow tag .badArgument)) ∧
     (∀ p : Post, b.toNat = p.val →
       ((s.trailer p).state = .vacant →
         exec (.defrostNow tag b) s = .next (s.refusedWith .defrostNow tag .noTrailer)) ∧
       ((s.trailer p).state ≠ .vacant → ((s.trailer p).state ≠ .enrolled ∨ (s.run p).isSome) →
         exec (.defrostNow tag b) s = .next (s.refusedWith .defrostNow tag .wrongState)) ∧
       ((s.trailer p).state = .enrolled → s.run p = none →
         ((s.trailer p).inhibit = true →
           exec (.defrostNow tag b) s = .next (s.answer .defrostNow tag .wrongState [1]).pumpTx) ∧
         ((s.trailer p).inhibit = false → ((s.inForce p).inhibit).isSome →
           exec (.defrostNow tag b) s = .next (s.answer .defrostNow tag .wrongState [2]).pumpTx) ∧
         (∀ d, (s.trailer p).inhibit = false → (s.inForce p).inhibit = none → (s.trailer p).deferral = some d →
           s.now < d →
           exec (.defrostNow tag b) s = .next (s.answer .defrostNow tag .wrongState [3]).pumpTx)))) ∧
  (∀ (tag : Word16) (b : Byte) (p : Post) (pr : Profile) (s : State), s.Ready → b.toNat = p.val →
     (s.trailer p).state = .enrolled → s.run p = none → s.profileOf (s.trailer p) = some pr →
     (s.trailer p).inhibit = false → (s.inForce p).inhibit = none →
     (∀ d, (s.trailer p).deferral = some d → d ≤ s.now) →
     (∀ q r, s.requestOf p = some (q, r) → (r.cls = .forced ∨ r.cls = .host) →
       exec (.defrostNow tag b) s
         = .next (s.replied .defrostNow tag (num1 q.val ++ num1 r.cls.code ++ num1 (placeIn p (s.queue q))))) ∧
     (∀ q r, s.requestOf p = some (q, r) → (r.cls = .unit ∨ r.cls = .threshold) →
       ∃ u : State, exec (.defrostNow tag b) s
             = .next (u.replied .defrostNow tag (num1 q.val ++ num1 1 ++ num1 (placeIn p (u.queue q)))) ∧
         u = { s with queues := u.queues } ∧ (∀ q', q' ≠ q → u.queue q' = s.queue q') ∧
         (u.queue q).Perm
           ({ post := p, cls := .host, filed := r.filed, load := r.load, passes := r.passes } ::
             (s.queue q).filter fun x => decide (x.post ≠ p))) ∧
     (s.requestOf p = none →
       ∃ u : State, OutsideSame s u ∧ NoRebuild s u ∧ u.directory = s.directory ∧ u.stack = s.stack ∧ u.nextPush = s.nextPush ∧
         ((∃ r, u.run p = some r ∧ r.cls = .host ∧ r.queue = s.queueOf p ∧ r.load = pr.load ∧ r.grantTime = s.now ∧
             (∀ q, ∀ x ∈ u.queue q, x.post ≠ p) ∧
             exec (.defrostNow tag b) s
               = .next (u.replied .defrostNow tag (num1 (s.queueOf p).val ++ num1 1 ++ num1 0))) ∨
           (u.run p = none ∧ ∃ n,
             { post := p, cls := .host, filed := s.now, load := pr.load, passes := n } ∈ u.queue (s.queueOf p) ∧
             exec (.defrostNow tag b) s
               = .next (u.replied .defrostNow tag
                   (num1 (s.queueOf p).val ++ num1 1 ++ num1 (placeIn p (u.queue (s.queueOf p)))))))))

/-- DEFROST_CANCEL (R88), where runs and requests are in agreement: the request is removed, a run that is not ENDING
enters ENDING as ABORTED(HOST), and the deferral runs from now for the minutes given, at most 240; the reply reports
all of it. Nothing else changes. Widths and codes of the reply where the manual is silent are the model's (log entry
7). -/
def Obligations.DefrostCancelCancels : Prop :=
  ∀ (tag : Word16) (b : Byte) (minutes : Word16) (s : State), s.Ready → s.GrantLaw →
    (239 < b.toNat → exec (.defrostCancel tag b minutes) s = .next (s.refusedWith .defrostCancel tag .badArgument)) ∧
    (∀ p : Post, b.toNat = p.val →
      ((s.trailer p).state = .vacant →
        exec (.defrostCancel tag b minutes) s = .next (s.refusedWith .defrostCancel tag .noTrailer)) ∧
      ((s.trailer p).state ≠ .vacant → (s.trailer p).state ≠ .enrolled →
        exec (.defrostCancel tag b minutes) s = .next (s.refusedWith .defrostCancel tag .wrongState)) ∧
      ((s.trailer p).state = .enrolled →
        ∃ u : State, exec (.defrostCancel tag b minutes) s
            = .next (u.replied .defrostCancel tag
                (flagField (decide (240 < minutes.toNat)) ++ flagField (s.requestOf p).isSome
                  ++ flagField ((s.run p).any fun r => !r.isEnding)
                  ++ s.timeField (some (s.now + (min 240 minutes.toNat) * 60)))) ∧
          u = { s with records := u.records, queues := u.queues } ∧
          u.trailer p = (s.trailer p).changedTo { s.trailer p with
            run := (s.run p).map fun r => if r.isEnding then r else r.enter s.now (.aborted .host) false 0
            deferral := some (s.now + (min 240 minutes.toNat) * 60) } ∧
          (∀ q, q ≠ p → u.trailer q = s.trailer q) ∧
          (∀ q, u.queue q = (s.queue q).filter fun x => decide (x.post ≠ p))))

/-- DEFROST_INHIBIT (R89), where runs and requests are in agreement: ON sets the flag, removes the request and brings
a run that is not ENDING to ENDING as ABORTED(INHIBIT) with no finding; OFF clears the flag and changes nothing else.
That an ON/OFF byte above 1 is refused before the record is looked at is the model's choice (log entry 40), as are widths and
codes of the reply where the manual is silent (log entry 7). -/
def Obligations.DefrostInhibitInhibits : Prop :=
  ∀ (tag : Word16) (b on : Byte) (s : State), s.Ready → s.GrantLaw →
    (239 < b.toNat ∨ 1 < on.toNat →
      exec (.defrostInhibit tag b on) s = .next (s.refusedWith .defrostInhibit tag .badArgument)) ∧
    (∀ p : Post, b.toNat = p.val → on.toNat ≤ 1 →
      ((s.trailer p).state = .vacant →
        exec (.defrostInhibit tag b on) s = .next (s.refusedWith .defrostInhibit tag .noTrailer)) ∧
      ((s.trailer p).state = .held →
        exec (.defrostInhibit tag b on) s = .next (s.refusedWith .defrostInhibit tag .wrongState)) ∧
      ((s.trailer p).state ≠ .vacant → (s.trailer p).state ≠ .held → on = 0 →
        ∃ u : State, exec (.defrostInhibit tag b on) s = .next (u.replied .defrostInhibit tag [0, 0]) ∧
          u = { s with records := u.records } ∧
          u.trailer p = (s.trailer p).changedTo { s.trailer p with inhibit := false } ∧
          (∀ q, q ≠ p → u.trailer q = s.trailer q)) ∧
      ((s.trailer p).state ≠ .vacant → (s.trailer p).state ≠ .held → on = 1 →
        ∃ u : State, exec (.defrostInhibit tag b on) s
            = .next (u.replied .defrostInhibit tag
                ([1] ++ flagField ((s.requestOf p).isSome || (s.run p).any fun r => !r.isEnding))) ∧
          u = { s with records := u.records, queues := u.queues } ∧
          u.trailer p = (s.trailer p).changedTo { s.trailer p with
            run := (s.run p).map fun r => if r.isEnding then r else r.enter s.now (.aborted .inhibit) false 0
            inhibit := true } ∧
          (∀ q, q ≠ p → u.trailer q = s.trailer q) ∧
          (∀ q, u.queue q = (s.queue q).filter fun x => decide (x.post ≠ p))))

/-! ## Requests of the Door Watch and the Finding Unit (R143, R145, R160, R162, R163) -/

/-- DECLARE_CUSTODY and CLEAR_CUSTODY (R143, R145): an ENROLLED record whose held door state is CLOSED takes custody
CLOSED with the tag, and the reply carries the unknown count; the custody of any record that is not VACANT is cleared
to NONE, with an item only when that changed it. The refusals in their order. Widths and codes of the reply where the
manual is silent are the model's (log entry 7), and so is that the item comes before the reply (log entry 16). -/
def Obligations.CustodyIsDeclaredAndCleared : Prop :=
  ∀ (tag : Word16) (b : Byte) (s : State), s.Ready →
    (∀ t : List Byte, t.length ≤ 12 →
      (239 < b.toNat ∨ t = [] ∨ (∃ c ∈ t, c.toNat < 0x20 ∨ 0x7E < c.toNat) →
        exec (.declareCustody tag b t) s = .next (s.refusedWith .declareCustody tag .badArgument)) ∧
      (∀ p : Post, b.toNat = p.val → t ≠ [] → (∀ c ∈ t, 0x20 ≤ c.toNat ∧ c.toNat ≤ 0x7E) →
        ((s.trailer p).state = .vacant →
          exec (.declareCustody tag b t) s = .next (s.refusedWith .declareCustody tag .noTrailer)) ∧
        ((s.trailer p).state ≠ .vacant → (s.trailer p).state ≠ .enrolled →
          exec (.declareCustody tag b t) s = .next (s.refusedWith .declareCustody tag .wrongState)) ∧
        ((s.trailer p).state = .enrolled → (s.trailer p).door.held ≠ some .closed →
          exec (.declareCustody tag b t) s = .next (s.refusedWith .declareCustody tag .doorNotClosed)) ∧
        ((s.trailer p).state = .enrolled → (s.trailer p).door.held = some .closed →
          ∃ u : State, exec (.declareCustody tag b t) s
              = .next (u.replied .declareCustody tag (num1 (s.trailer p).door.unknownCount)) ∧
            u = (s.editTrailer p fun x => { x with custody := .closed t }).item p (.custodyChanged (.closed t)) ∧
            u = { s with records := u.records, stations := u.stations, notices := u.notices,
                         noticesLost := u.noticesLost, tx := u.tx } ∧ TxGoesOn s u ∧
            u.trailer p = (s.trailer p).changedTo { s.trailer p with custody := .closed t } ∧
            (∀ q, q ≠ p → u.trailer q = s.trailer q)))) ∧
    (239 < b.toNat → exec (.clearCustody tag b) s = .next (s.refusedWith .clearCustody tag .badArgument)) ∧
    (∀ p : Post, b.toNat = p.val → (s.trailer p).state = .vacant →
      exec (.clearCustody tag b) s = .next (s.refusedWith .clearCustody tag .noTrailer)) ∧
    (∀ p : Post, b.toNat = p.val → (s.trailer p).state ≠ .vacant →
      ∃ u : State, exec (.clearCustody tag b) s = .next (u.replied .clearCustody tag []) ∧
        ((s.trailer p).custody ≠ .none →
          u = (s.editTrailer p fun x => { x with custody := .none }).item p (.custodyChanged .none)) ∧
        u = { s with records := u.records, stations := u.stations, notices := u.notices,
                     noticesLost := u.noticesLost, tx := u.tx } ∧ TxGoesOn s u ∧
        u.trailer p = (s.trailer p).changedTo { s.trailer p with custody := .none } ∧
        (∀ q, q ≠ p → u.trailer q = s.trailer q) ∧
        ((s.trailer p).custody = .none →
          u.stations = s.stations ∧ u.notices = s.notices ∧ u.noticesLost = s.noticesLost ∧ u.tx = s.tx))

/-- SET_RAISE_MASK (R163): the mask replaces the record's, with the entry for class 15 read as set, and the reply
returns it; no set, action or frame changes. -/
def Obligations.SetRaiseMaskSets : Prop :=
  ∀ (tag : Word16) (b : Byte) (mask : Word16) (s : State), s.Ready →
    (239 < b.toNat → exec (.setRaiseMask tag b mask) s = .next (s.refusedWith .setRaiseMask tag .badArgument)) ∧
    (∀ p : Post, b.toNat = p.val → (s.trailer p).state = .vacant →
      exec (.setRaiseMask tag b mask) s = .next (s.refusedWith .setRaiseMask tag .noTrailer)) ∧
    (∀ p : Post, b.toNat = p.val → (s.trailer p).state ≠ .vacant →
      ∃ u : State, exec (.setRaiseMask tag b mask) s = .next (u.replied .setRaiseMask tag (bytes16 (mask ||| 0x8000))) ∧
        u = { s with records := u.records } ∧
        u.trailer p = (s.trailer p).changedTo { s.trailer p with mask := mask ||| 0x8000 } ∧
        (∀ q, q ≠ p → u.trailer q = s.trailer q))

/-- ACK_FINDING (R151, R162): a latched class that stands leaves its set, and its action is withdrawn when no active
class carries it any more, and one item FINDING-CLEARED is produced, marked as acknowledged; the other classes, the
exception stack, the queues and the other posts are unchanged. A self-clearing class and a class that does not stand are
refused WRONG-STATE. That the item comes before the reply is the model's choice (log entry 16). -/
def Obligations.AckFindingClears : Prop :=
  ∀ (tag : Word16) (b k : Byte) (s : State), s.Ready →
    (239 < b.toNat ∨ 15 < k.toNat →
      exec (.ackFinding tag b k) s = .next (s.refusedWith .ackFinding tag .badArgument)) ∧
    (∀ (p : Post) (c : FindingClass), b.toNat = p.val → k.toNat = c.num →
      ((s.trailer p).state = .vacant →
        exec (.ackFinding tag b k) s = .next (s.refusedWith .ackFinding tag .noTrailer)) ∧
      ((s.trailer p).state ≠ .vacant → (c.latched = false ∨ (s.trailer p).stands c = false) →
        exec (.ackFinding tag b k) s = .next (s.refusedWith .ackFinding tag .wrongState)) ∧
      ((s.trailer p).state ≠ .vacant → c.latched = true → (s.trailer p).stands c = true →
        ∃ u : State, exec (.ackFinding tag b k) s = .next (u.replied .ackFinding tag []) ∧
          (u.trailer p).activeOf c = none ∧
          ((s.trailer p).activeOf c = none → (u.trailer p).notedOf c = none) ∧
          (∀ c', c' ≠ c → (u.trailer p).activeOf c' = (s.trailer p).activeOf c' ∧
            (u.trailer p).notedOf c' = (s.trailer p).notedOf c') ∧
          ((s.trailer p).activeOf c ≠ none →
            (∀ x ∈ (u.trailer p).active, (s.tableEntry x.cls).action ≠ (s.tableEntry c).action) →
            (u.inForce p).of (s.tableEntry c).action = none) ∧
          SameNotices (s.item p (.findingCleared c true)) u ∧
          u.stack = s.stack ∧ u.nextPush = s.nextPush ∧ u.queues = s.queues ∧ u.committed = s.committed ∧
          u.directory = s.directory ∧ OutsideSame s u ∧ NoRebuild s u ∧ OtherPostsSame p s u))

/-! ## Requests of Output Control, the store, the clock and RESTART (R174, R193, R199) -/

/-- POST_OUTPUT (R174): each selector other than KEEP replaces its field of an installed post's output state on a line
that is not OFF; the reply reports the output state after the change, and the levels that the next POLL would carry. Nothing else changes.
That these levels are those of a first exchange begun now is the model's choice (log entry 17), as are widths and codes of the
reply where the manual is silent (log entry 7). -/
def Obligations.PostOutputSelects : Prop :=
  ∀ (tag : Word16) (b contactor beacon off on : Byte) (s : State), s.Ready →
    (239 < b.toNat ∨ 2 < contactor.toNat ∨ 2 < beacon.toNat ∨ 2 < off.toNat ∨ 2 < on.toNat →
      exec (.postOutput tag b contactor beacon off on) s
        = .next (s.refusedWith .postOutput tag .badArgument)) ∧
    (∀ p : Post, b.toNat = p.val → contactor.toNat ≤ 2 → beacon.toNat ≤ 2 → off.toNat ≤ 2 → on.toNat ≤ 2 →
      (s.output p = none ∨ (s.line (postLine p)).state = .off →
        exec (.postOutput tag b contactor beacon off on) s
          = .next (s.refusedWith .postOutput tag .wrongState)) ∧
      (∀ o, s.output p = some o → (s.line (postLine p)).state ≠ .off →
        ∃ o' : OutputState,
          o' = { o with contactor := o'.contactor, beacon := o'.beacon, forceOff := o'.forceOff,
                        forceOn := o'.forceOn } ∧
          (contactor = 0 → o'.contactor = false) ∧ (contactor = 1 → o'.contactor = true) ∧
          (contactor = 2 → o'.contactor = o.contactor) ∧
          (beacon = 0 → o'.beacon = false) ∧ (beacon = 1 → o'.beacon = true) ∧
          (beacon = 2 → o'.beacon = o.beacon) ∧
          (off = 0 → o'.forceOff = false) ∧ (off = 1 → o'.forceOff = true) ∧
          (off = 2 → o'.forceOff = o.forceOff) ∧
          (on = 0 → o'.forceOn = false) ∧ (on = 1 → o'.forceOn = true) ∧ (on = 2 → o'.forceOn = o.forceOn) ∧
          exec (.postOutput tag b contactor beacon off on) s
            = .next ((s.putOutput p (some o')).replied .postOutput tag (s.outputReply p o'))))

/-- STORE_WRITE (R193): the checks in their order, each with its status and no other effect; a write that passes them
is in flight, its block's completion mark cleared, and no reply is formed yet. The content's byte layout is the
model's (log entry 6). -/
def Obligations.StoreWriteStarts : Prop :=
  ∀ (tag : Word16) (b : Byte) (content : List Byte) (s : State), s.Ready → content.length = 256 →
    (101 < b.toNat →
      exec (.storeWrite tag b content) s = .next (s.refusedWith .storeWrite tag .badArgument)) ∧
    (b.toNat ≤ 101 → s.write.isSome →
      exec (.storeWrite tag b content) s = .next (s.refusedWith .storeWrite tag .storeBusy)) ∧
    (b.toNat ≤ 101 → s.write = none →
      (b.toNat = 0 ∨ 38 ≤ b.toNat ∨ (b.toNat ≤ 3 ∧ s.keySwitch = .run)) →
      exec (.storeWrite tag b content) s = .next (s.refusedWith .storeWrite tag .isProtected)) ∧
    (1 ≤ b.toNat → b.toNat ≤ 37 → s.write = none → (3 < b.toNat ∨ s.keySwitch = .service) →
      (readBlock b.toNat content = none →
        exec (.storeWrite tag b content) s = .next (s.refusedWith .storeWrite tag .badArgument)) ∧
      (∀ c, readBlock b.toNat content = some c → s.config.admits c = false →
        exec (.storeWrite tag b content) s = .next (s.refusedWith .storeWrite tag .badArgument)) ∧
      (∀ i p, readBlock b.toNat content = some (.profile i none) → (s.trailer p).state ≠ .vacant →
        (s.trailer p).profile = some i →
        exec (.storeWrite tag b content) s = .next (s.refusedWith .storeWrite tag .wrongState)) ∧
      (∀ (c : BlockContent) (k : Fin 102), readBlock b.toNat content = some c → s.config.admits c = true →
        (∀ i, c = .profile i none → ∀ p, (s.trailer p).state ≠ .vacant → (s.trailer p).profile ≠ some i) →
        b.toNat = k.val →
        exec (.storeWrite tag b content) s
          = .next (State.pumpTx
              { s.putBlock k { s.block k with mark := false } with
                write := some { block := k, content := content, tag := tag } })))

/-- RESTART (R195, R199), where every record verifies: OK is formed, the restart is recorded as HOST-RESTART, polling
stops, every station flushes in order of open time into the notice queue (R188), and the image flush begins, or waits for the
store write in flight. -/
def Obligations.RestartBeginsTheFlush : Prop :=
  ∀ (tag : Word16) (s : State), s.Ready → s.heldCauses = [] → (∀ p, (s.trailer p).verifies = true) →
    ∃ u : State, exec (.restart tag) s = .next u.pumpTx ∧
      u = { s with
        replies := s.replies ++ [{ type := 0x17, tag := tag, status := .ok, body := [] }]
        restartRecord := { primary := some .hostRestart, secondary := none }
        phase := if s.write.isSome then .flushWaiting
          else .flushing 38 (flushBlocks (flushNumber s.imageNumber) s.packedRecords)
        lineA := { s.lineA with round := none }, lineB := { s.lineB with round := none }
        stations := [], notices := u.notices, noticesLost := u.noticesLost } ∧
      (s.BufferLaw →
        FlushesAll { s with replies := s.replies ++ [{ type := 0x17, tag := tag, status := .ok, body := [] }] } u)

/-! ## Events of the post lines (chapter 1) -/

/-- ROUND_START on a line that polls (R3, R4, R5, R166), the installed-address set unchanged: the configured settings
are in force, and the first installed post is polled with the levels worked out now. An event whose moment has not
come changes nothing (the model's choice, log entry 2), and neither does one on an OFF line with no installed address.
-/
def Obligations.RoundStartPollsTheFirstPost : Prop :=
  ∀ (l : Line) (s : State),
    (∀ p rest, s.phase = .running → (s.line l).round = none → (s.line l).state ≠ .off →
      (∀ t, (s.line l).lastStart = some t → ((s.lineConfig l).floor : Int) ≤ s.now - t) →
      (s.line l).settings.installed = (s.lineConfig l).installed →
      installedPosts l (s.lineConfig l).installed = p :: rest →
      ∃ u : State, exec (.roundStart l) s = .next u.pumpTx ∧
        u.line l = { s.line l with
          settings := s.lineConfig l, lastStart := some s.now
          round := some
            { beganRecovering := decide ((s.line l).state = .recovering), hadGood := false, spoiled := false
              remaining := rest, exchange := { post := p, retry := false, levels := (s.levelsFor p true).1 } } } ∧
        (∀ l', l' ≠ l → u.line l' = s.line l') ∧ (∀ q, q ≠ p → u.output q = s.output q) ∧
        u = { s with lineA := u.lineA, lineB := u.lineB, outputs := u.outputs }) ∧
    ((s.phase ≠ .running ∨ (s.line l).round ≠ none ∨
        (∃ t, (s.line l).lastStart = some t ∧ s.now - t < ((s.lineConfig l).floor : Int))) →
      exec (.roundStart l) s = .next s.pumpTx) ∧
    ((s.line l).state = .off → (s.lineConfig l).installed = 0 → exec (.roundStart l) s = .next s.pumpTx)

/-- A round start takes the configured installed-address set (R1, R2, R8, R18, R165): an added address gets its start
values, a removed one loses its entry and its output state, and where runs and requests are in agreement the record that
stands there departs; one that remains keeps its entry; the other line keeps all of its entries. With an empty set the
line enters OFF with its fields at their start values and no entry is left. -/
def Obligations.RoundTakesItsSettings : Prop :=
  ∀ (l : Line) (s : State), s.phase = .running → (s.line l).round = none → (s.line l).state ≠ .off →
    (∀ t, (s.line l).lastStart = some t → ((s.lineConfig l).floor : Int) ≤ s.now - t) →
    ∃ u : State, exec (.roundStart l) s = .next u.pumpTx ∧ (u.line l).settings = s.lineConfig l ∧
      ((s.lineConfig l).installed ≠ 0 →
        (u.line l).misses = (s.line l).misses ∧ (u.line l).state = (s.line l).state ∧ (u.line l).round.isSome) ∧
      ((s.lineConfig l).installed = 0 →
        u.line l
          = { state := .off, misses := 0, goodRounds := 0, silentRounds := 0, sinceUp := none,
              settings := s.lineConfig l, lastStart := none, round := none }) ∧
      (∀ i : Fin 120, (s.line l).settings.installed.getLsbD i.val = true →
        (s.lineConfig l).installed.getLsbD i.val = false →
        u.entry (postAt l i) = none ∧ u.output (postAt l i) = none ∧
        (s.GrantLaw → (s.trailer (postAt l i)).state ≠ .vacant →
          u.trailer (postAt l i) = .vacant ∧ u.inForce (postAt l i) = .none ∧
          ∀ e ∈ u.directory, e.2 ≠ postAt l i)) ∧
      (∀ i : Fin 120, (s.line l).settings.installed.getLsbD i.val = false →
        (s.lineConfig l).installed.getLsbD i.val = true →
        u.entry (postAt l i) = some PostEntry.start ∧
        ∃ o, u.output (postAt l i) = some o ∧ o.contactor = s.config.startOn.get (postAt l i) ∧ o.beacon = false ∧
          o.forceOff = false ∧ o.forceOn = false ∧ o.delivered = none ∧ o.actual = none ∧ o.mismatch = 0) ∧
      (∀ i : Fin 120, (s.line l).settings.installed.getLsbD i.val = (s.lineConfig l).installed.getLsbD i.val →
        u.entry (postAt l i) = s.entry (postAt l i)) ∧
      (∀ q, postLine q ≠ l → u.entry q = s.entry q)

/-- A GOOD exchange (R3, R5 to R7, R9, R11, R12, R172, R173): the post is LIVE with no missed round and the time of now. The
plugged-no-unit indication is set exactly where the status reports no unit and the record is VACANT once the table has
handled it. A post that was LOST leaves no POST among its run's causes, and LINK-LOST of detail POST or 0 clears. The POLL's
levels are its delivered levels and the reported ones its last actual levels; levels in disagreement count, and at the third
OUTPUT-MISMATCH stands, which levels in agreement clear. The line's run of misses is 0, and no other post's entry changes.
Where the round has another address, that is polled next as a first exchange. -/
def Obligations.GoodStatusIsHeard : Prop :=
  ∀ (l : Line) (bytes : List Byte) (s : State) (r : Round) (rep : StatusReport) (e : PostEntry),
    let p := r.exchange.post
    let t := s.trailer p
    s.Hears l bytes r rep → s.entry p = some e →
    ∃ (u : State) (plugged : Bool), exec (.status l bytes) s = .next u.pumpTx ∧
      let t' := u.trailer p
      let d := disagreement r.exchange.levels rep.actual
      u.entry p = some { state := .live, missed := 0, lastGood := some s.now, pluggedNoUnit := plugged } ∧
      (plugged = true → rep.unit = .noUnit ∧ t'.state = .vacant) ∧
      ((r.remaining ≠ [] ∨ t.state ≠ .restored) → rep.unit = .noUnit → t'.state = .vacant → plugged = true) ∧
      (∀ q, q ≠ p → u.entry q = s.entry q) ∧
      (e.state = .lost → ∀ x, u.run p = some x → ∀ k ∈ x.causes, k.cause ≠ .post) ∧
      (t.verifies = true → t.state ≠ .vacant → t.state ≠ .held → t.InOneSet .linkLost →
        (t.detailOf .linkLost = some 1 ∨ t.detailOf .linkLost = some 0) →
        ((rep.unit = .unit ∧ t.serial = rep.serial) ∨
          (rep.unit = .noUnit ∧ (t.state ≠ .enrolled ∨ t.unitAbsent ≠ 2))) → t'.stands .linkLost = false) ∧
      (∀ o, s.output p = some o →
        ∃ o', u.output p = some o' ∧ o'.delivered = some r.exchange.levels ∧ o'.actual = some rep.actual ∧
          o'.mismatch = (if d = 0 then 0 else min 255 (o.mismatch + 1)) ∧
          (d = 0 → (∀ q, (s.trailer q).InOneSet .outputMismatch) → t'.stands .outputMismatch = false) ∧
          (d ≠ 0 → 3 ≤ o'.mismatch → s.phase = .running → t'.state ≠ .vacant →
            t'.stands .outputMismatch = true ∧
            ((∀ q, (s.trailer q).stands .outputMismatch = false) → t'.detailOf .outputMismatch = some d))) ∧
      (u.line l).misses = 0 ∧
      (∀ q rest, r.remaining = q :: rest → (∀ q', (s.trailer q').verifies = true) →
        u.PollsNext l q { r with hadGood := true, remaining := rest }) ∧ WorldSame s u

/-- The first exchange of an address that ends SILENT or GARBLED (R6, R7, R166): the post is polled once more with the
levels worked out now, and nothing else changes. A retry that ends so is a MISS (R7, R10, R12): missed rounds advance
only while the line is UP or RECOVERING, a LIVE post at its third becomes LOST, with POST among the causes of its run and
LINK-LOST of detail POST, and a MISS by a LIVE post adds to the run of misses. No other post's entry changes. Where the round
has another address, that is polled next as a first exchange. -/
def Obligations.FailedExchangesAreRetriedThenMissed : Prop :=
  (∀ (l : Line) (s : State) (r : Round), (s.line l).round = some r → r.exchange.retry = false →
     ∃ u : State, exec (.responseWindowExpiry l) s = .next u.pumpTx ∧
       exec (.postFrameGapTimeout l) s = .next u.pumpTx ∧
       (∀ bytes, goodStatus (postAddress r.exchange.post) bytes = none → exec (.status l bytes) s = .next u.pumpTx) ∧
       u.line l = { s.line l with
         round := some { r with
           exchange := { post := r.exchange.post, retry := true, levels := (s.levelsFor r.exchange.post false).1 } } } ∧
       (∀ l', l' ≠ l → u.line l' = s.line l') ∧ (∀ q, q ≠ r.exchange.post → u.output q = s.output q) ∧
       u = { s with lineA := u.lineA, lineB := u.lineB, outputs := u.outputs }) ∧
  (∀ (l : Line) (s : State) (r : Round) (e : PostEntry), (s.line l).round = some r → r.exchange.retry = true →
     s.entry r.exchange.post = some e →
     ∃ u : State, exec (.responseWindowExpiry l) s = .next u.pumpTx ∧
       exec (.postFrameGapTimeout l) s = .next u.pumpTx ∧
       (∀ bytes, goodStatus (postAddress r.exchange.post) bytes = none → exec (.status l bytes) s = .next u.pumpTx) ∧
       (((s.line l).state = .up ∨ (s.line l).state = .recovering) → (e.state ≠ .live ∨ e.missed + 1 < 3) →
         u.entry r.exchange.post = some { e with missed := min 255 (e.missed + 1) }) ∧
       (((s.line l).state = .up ∨ (s.line l).state = .recovering) → e.state = .live → 3 ≤ e.missed + 1 →
         u.entry r.exchange.post
           = some { e with state := .lost, missed := min 255 (e.missed + 1), pluggedNoUnit := false } ∧
         (∀ x, (s.trailer r.exchange.post).state = .enrolled → s.run r.exchange.post = some x →
           (∀ t o seen, x.state ≠ .ending t o seen) → (s.tableEntry .linkLost).action ≠ .inhibitDefrost →
           ∃ x' k, u.run r.exchange.post = some x' ∧ k ∈ x'.causes ∧ k.cause = .post) ∧
         (s.phase = .running → (s.trailer r.exchange.post).state ≠ .vacant →
           ((s.trailer r.exchange.post).state ≠ .restored ∨ r.remaining ≠ []) →
           (u.trailer r.exchange.post).stands .linkLost = true ∧
           ((s.trailer r.exchange.post).stands .linkLost = false →
             (u.trailer r.exchange.post).detailOf .linkLost = some 1))) ∧
       ((s.line l).state ≠ .up → (s.line l).state ≠ .recovering → u.entry r.exchange.post = some e) ∧
       (u.line l).misses = (if e.state = .live then min 255 ((s.line l).misses + 1) else (s.line l).misses) ∧
       (∀ q, q ≠ r.exchange.post → u.entry q = s.entry q) ∧
       (∀ q rest, r.remaining = q :: rest →
         u.PollsNext l q { r with
           remaining := rest, spoiled := r.spoiled || decide (e.state = .live ∧ 2 ≤ (s.line l).misses) }) ∧
       WorldSame s u)

/-- The MISS that brings the run of misses to 3 on a line that is UP (R14, R19, R100, R101): the line is DISTURBED,
and no run on any of its posts is left COMMANDED or HEATING. -/
def Obligations.ThirdMissStopsTheLine : Prop :=
  ∀ (l : Line) (s : State) (r : Round) (e : PostEntry), (s.line l).round = some r → r.exchange.retry = true →
    s.entry r.exchange.post = some e → e.state = .live → (s.line l).state = .up → 2 ≤ (s.line l).misses →
    ∃ u : State, exec (.responseWindowExpiry l) s = .next u.pumpTx ∧ (u.line l).state = .disturbed ∧
      (∀ q x, postLine q = l → u.run q = some x → x.state ≠ .commanded ∧ ∀ t, x.state ≠ .heating t)

/-! ## A GOOD status at the Trailer Table (chapters 2 to 7) -/

/-- A GOOD STATUS evaluates an ENROLLED trailer with no run (R26, R31, R39, R48 to R53, R134 to R141): the record keeps its
binding and takes the reported model, the times of now and an unit-absent count of 0; a reported temperature in range is
held with its count back at 0, and any other counts as invalid; SENSOR stands where a count reaches 10, its detail naming the
sensors whose count did, and clears where both are below 10; DOOR-SENSOR stands at the tenth unknown door report in a row and
clears at a known one; F and R are those of the frost step on the held
temperatures and the door history as it stood; the door report is counted, opens or closes the held state, an opening
marks the history and breaks a declared custody, and DOOR-AJAR is tested. While the round goes on, other posts' records
change by grants alone. -/
def Obligations.StatusEvaluatesTheTrailer : Prop :=
  ∀ (l : Line) (bytes : List Byte) (s : State) (r : Round) (rep : StatusReport) (pr : Profile),
    let p := r.exchange.post
    let t := s.trailer p
    s.Evaluates l bytes r rep pr → t.run = none →
    ∃ u : State, exec (.status l bytes) s = .next u.pumpTx ∧ WorldSame s u ∧
      let t' := u.trailer p
      let h := (s.editTrailer p fun x => x.holdTemperatures rep).frostStep p rep t.atArrival
      t'.state = .enrolled ∧ t'.serial = t.serial ∧ t'.profile = t.profile ∧ t'.arrival = t.arrival ∧
      t'.inhibit = t.inhibit ∧ t'.mask = t.mask ∧ t'.deferral = t.deferral ∧ t'.lastDefrostEnd = t.lastDefrostEnd ∧
      t'.model = (if rep.model = 0 then t.model else rep.model) ∧ t'.unitAbsent = 0 ∧ t'.lastStatus = some s.now ∧
      t'.lastEval = some s.now ∧ t'.verifies = true ∧
      heldAfter t.tr t.trInvalid rep.tr (-400) 500 t'.tr t'.trInvalid ∧
      heldAfter t.tc t.tcInvalid rep.tc (-500) 500 t'.tc t'.tcInvalid ∧
      (let reached := (if t'.trInvalid = 10 ∧ t.trInvalid ≠ 10 then 1 else 0)
         + (if t'.tcInvalid = 10 ∧ t.tcInvalid ≠ 10 then 2 else 0)
       (reached ≠ 0 → s.phase = .running →
         t'.stands .sensor = true ∧ (t.stands .sensor = false → t'.detailOf .sensor = some reached)) ∧
       (t'.trInvalid < 10 → t'.tcInvalid < 10 → t.InOneSet .sensor → t'.stands .sensor = false) ∧
       (reached = 0 → (10 ≤ t'.trInvalid ∨ 10 ≤ t'.tcInvalid) →
         t'.activeOf .sensor = t.activeOf .sensor ∧ t'.notedOf .sensor = t.notedOf .sensor)) ∧
      (rep.door = .unknown → t.door.unknownCount = 9 → s.phase = .running →
        t'.stands .doorSensor = true ∧
        (t.stands .doorSensor = false →
          t'.detailOf .doorSensor = some (match t.door.held with | none => 0 | some .closed => 1 | some .opened => 2))) ∧
      (rep.door = .unknown → t.door.unknownCount ≠ 9 →
        t'.activeOf .doorSensor = t.activeOf .doorSensor ∧ t'.notedOf .doorSensor = t.notedOf .doorSensor) ∧
      (rep.door ≠ .unknown → t.InOneSet .doorSensor → t'.stands .doorSensor = false) ∧
      t'.f = (h.trailer p).f ∧ t'.r = (h.trailer p).r ∧
      (rep.door = .unknown →
        t'.door = { t.door with unknownCount := min 255 (t.door.unknownCount + 1)
                                ajarReported := t'.door.ajarReported }) ∧
      (rep.door = .opened → t.door.held = some .opened →
        t'.door = { t.door with unknownCount := 0, ajarReported := t'.door.ajarReported }) ∧
      (rep.door = .opened → t.door.held ≠ some .opened →
        t'.door = { ((s.opening p).trailer p).door with
          unknownCount := 0, ajarReported := t'.door.ajarReported } ∧
        t'.custody = ((s.opening p).trailer p).custody ∧
        (s.phase = .running → ∀ tag, t.custody = .closed tag → t'.stands .custodyBreak = true)) ∧
      (rep.door = .closed →
        t'.door = { t.door with
          held := some .closed, unknownCount := 0
          openingTime := if t.door.held = some .opened then none else t.door.openingTime
          ajarReported := if t.door.held = some .opened then false else t.door.ajarReported } ∧
        (t.door.held = some .opened → t.InOneSet .doorAjar → t'.stands .doorAjar = false)) ∧
      ((rep.door ≠ .opened ∨ t.door.held = some .opened) → t'.custody = t.custody) ∧
      (∀ o, rep.door ≠ .closed → t.door.held = some .opened → t.door.openingTime = some o →
        ((pr.ajar : Int) ≤ s.now - o →
          t'.door.ajarReported = true ∧
          (s.phase = .running → t.door.ajarReported = false → t'.stands .doorAjar = true)) ∧
        (s.now - o < (pr.ajar : Int) → t'.door.ajarReported = t.door.ajarReported)) ∧
      (r.remaining ≠ [] →
        u.directory = s.directory ∧
        ∀ q, q ≠ p → (u.trailer q).sealed = { (s.trailer q).sealed with run := (u.trailer q).run })

/-- A GOOD STATUS audits the fuel of an ENROLLED trailer whose profile has a sender (R114 to R128): an invalid reading
counts, and at the fifth SENDER-FAULT stands; a valid one clears it, converts by the curve, starts the filter, takes or
holds a refuel, or moves the filtered level a quarter of the way; the burn window takes its marks, and is restarted after
600 s with the burn rate smoothed in and FUEL-LOSS where more went than the profile allows; H follows from both, and
LOW-FUEL from H and the power source. With no sender nothing is audited. A run's heating mark reads the run as it stood,
so a run that this status itself may resume is left out here. -/
def Obligations.StatusAuditsTheFuel : Prop :=
  ∀ (l : Line) (bytes : List Byte) (s : State) (r : Round) (rep : StatusReport) (pr : Profile),
    let p := r.exchange.post
    let t := s.trailer p
    let a := t.fuel
    s.Evaluates l bytes r rep pr →
    (t.run = none ∨ ((s.entry p).map (·.state) ≠ some .lost ∧ t.stands .linkLost = false)) →
    ∃ u : State, exec (.status l bytes) s = .next u.pumpTx ∧
      let t' := u.trailer p
      let a' := t'.fuel
      let valid : Prop := 16 ≤ rep.fuelRaw ∧ rep.fuelRaw ≤ 1007
      let level := convert pr.curve rep.fuelRaw
      let rises : Prop := (pr.refuel : Int) ≤ (level : Int) - (reportedLevel a.lf16 : Int)
      let marked (w : BurnWindow) : BurnWindow :=
        { w with heating := w.heating || t.atArrival.runHeating, engine := w.engine || decide (rep.power = .engine) }
      let fresh : BurnWindow := { start := s.now, lfStart := reportedLevel a'.lf16, heating := false, engine := false }
      (pr.sender = false → a' = a) ∧
      (pr.sender = true → ¬ valid →
        a' = { a with
          invalidCount := min 255 (a.invalidCount + 1), window := a.window.map marked
          hours := hoursRemaining a.bs (if a.started then reportedLevel a.lf16 else 0) } ∧
        (s.phase = .running → a.invalidCount = 4 → t'.stands .senderFault = true)) ∧
      (pr.sender = true → valid →
        a' = { a with
          started := true, lf16 := a'.lf16, lastLevel := some level, invalidCount := 0
          refuelPending := a'.refuelPending, window := a'.window, bs := a'.bs
          hours := hoursRemaining a'.bs (reportedLevel a'.lf16) } ∧
        (t.InOneSet .senderFault → t'.stands .senderFault = false) ∧
        (a.started = false → a'.lf16 = 16 * level ∧ a'.refuelPending = a.refuelPending ∧ a'.window = some fresh ∧
          a'.bs = a.bs) ∧
        (a.started = true → rises → a.refuelPending = true →
          a'.lf16 = 16 * level ∧ a'.refuelPending = false ∧ a'.window = some fresh ∧ a'.bs = a.bs) ∧
        (a.started = true → rises → a.refuelPending = false → a'.lf16 = a.lf16 ∧ a'.refuelPending = true) ∧
        (a.started = true → ¬ rises → a'.lf16 = filterStep a.lf16 level ∧ a'.refuelPending = false) ∧
        (a.started = true → (rises → a.refuelPending = false) → a.window = none →
          a'.window = some fresh ∧ a'.bs = a.bs) ∧
        (∀ w, a.started = true → (rises → a.refuelPending = false) → a.window = some w →
          let elapsed := (s.now - w.start).toNat
          let consumed : Int := (w.lfStart : Int) - (reportedLevel a'.lf16 : Int)
          let burn := if 0 < consumed then consumed.toNat * 3600 / elapsed else 0
          let allowed := pr.tolerance
            + (if (marked w).heating then pr.defrostBurn else if (marked w).engine then pr.engineBurn else 0)
              * elapsed / 3600
          (elapsed < 600 → a'.window = some (marked w) ∧ a'.bs = a.bs) ∧
          (3600 < elapsed → a'.window = some fresh ∧ a'.bs = a.bs) ∧
          (600 ≤ elapsed → elapsed ≤ 3600 →
            a'.window = some fresh ∧ (a.bs = none → a'.bs = some burn) ∧
            (∀ b, a.bs = some b → a'.bs = some ((3 * b + burn) / 4)) ∧
            (s.phase = .running → (allowed : Int) < consumed → t'.stands .fuelLoss = true)))) ∧
      (pr.sender = true →
        (t.stands .lowFuel = true → t.InOneSet .lowFuel →
          (t'.stands .lowFuel = true ↔ rep.power ≠ .shore ∧ a'.hours < pr.lowHours + 20)) ∧
        (t.stands .lowFuel = false → s.phase = .running →
          (t'.stands .lowFuel = true ↔ rep.power = .engine ∧ a'.hours < pr.lowHours)))

/-- A GOOD STATUS files for an ENROLLED trailer with no run (R76 to R80), where runs and requests agree and the finding table
gives INHIBIT-DEFROST to no class but UNIT-STUCK-DEFROST, which no status produces: with no request, or a UNIT one whose unit has left DEFROST, a request of the highest class due is
filed in the post's queue with now and the profile's load, unless the inhibit flag, a deferral or an INHIBIT-DEFROST action
in force blocks it, and it stands there or has been granted; any other request keeps its place's values and becomes FORCED
where that is due. -/
def Obligations.StatusFilesARequest : Prop :=
  ∀ (l : Line) (bytes : List Byte) (s : State) (r : Round) (rep : StatusReport) (pr : Profile),
    let p := r.exchange.post
    let t := s.trailer p
    s.Evaluates l bytes r rep pr → t.run = none → s.GrantLaw →
    (∀ c, c ≠ .unitStuckDefrost → (s.tableEntry c).action ≠ .inhibitDefrost) →
    ∃ u : State, exec (.status l bytes) s = .next u.pumpTx ∧
      let t' := u.trailer p
      let forced : Prop := ∃ since, (t.lastDefrostEnd.or t.arrival) = some since ∧ (pr.maxInterval : Int) ≤ s.now - since
      let threshold : Prop :=
        pr.fth ≤ t'.f ∧ ∀ e, t.lastDefrostEnd = some e → (pr.minInterval : Int) ≤ s.now - e
      let blocked : Prop :=
        t.inhibit = true ∨ (∃ d, t.deferral = some d ∧ s.now < d) ∨ ((s.inForce p).inhibit).isSome
      let asked (q : Queue) (c : RequestClass) (filed : Time) (load : Nat) : Prop :=
        (∃ n, u.requestOf p = some (q, { post := p, cls := c, filed := filed, load := load, passes := n })) ∨
        (u.requestOf p = none ∧
          ∃ x, u.run p = some x ∧ x.cls = c ∧ x.queue = q ∧ x.load = load ∧ x.grantTime = s.now ∧ x.f0 = t'.f)
      let silent : Prop := u.requestOf p = none ∧ u.run p = none
      ((s.requestOf p = none ∨ ∃ q x, s.requestOf p = some (q, x) ∧ x.cls = .unit ∧ rep.mode ≠ .defrost) →
        (blocked → silent) ∧
        (¬ blocked → forced → asked (s.queueOf p) .forced s.now pr.load) ∧
        (¬ blocked → ¬ forced → rep.mode = .defrost → asked (s.queueOf p) .unit s.now pr.load) ∧
        (¬ blocked → ¬ forced → rep.mode ≠ .defrost → threshold → asked (s.queueOf p) .threshold s.now pr.load) ∧
        (¬ forced → rep.mode ≠ .defrost → ¬ threshold → silent)) ∧
      (∀ q x, s.requestOf p = some (q, x) → (x.cls = .unit → rep.mode = .defrost) →
        (forced → asked q .forced x.filed x.load) ∧ (¬ forced → asked q x.cls x.filed x.load))

/-- A GOOD STATUS tests the run of an ENROLLED trailer (R94, R96, R98, R99, R102, R106, R109), within a round, with the held
limits those of the profile, the post not LOST, and no action but BEACON for a class that a status can produce. A door report that opens or closes the held
state joins or takes away DOOR first. COMMANDED becomes HEATING when the unit reports DEFROST. A run that was HEATING counts
the status and ends CLEARED or UNIT-ENDED by the held coil and the mode, or is tested for a weak heater. SUSPENDED takes
DEFROST as its prior state HEATING, and with that prior state ends CLEARED at a warm coil. ENDING waits while the unit reports
DEFROST, and any other mode ends the run with its outcome's effect on F, R and the last defrost end, and nothing is filed. That one status
can set the prior state and end the run by it, and that the evaluation whose tests bring a run to ENDING is not one since its
ending start, are the model's choices (log entries 20 and 43). -/
def Obligations.StatusTestsTheRun : Prop :=
  ∀ (l : Line) (bytes : List Byte) (s : State) (r : Round) (rep : StatusReport) (pr : Profile) (x : RunRecord),
    let p := r.exchange.post
    let t := s.trailer p
    s.Evaluates l bytes r rep pr → t.run = some x → x.limits = pr.limits → r.remaining ≠ [] → s.GrantLaw →
    (s.entry p).map (·.state) ≠ some .lost → s.OnlyBeacons →
    ∃ u : State, exec (.status l bytes) s = .next u.pumpTx ∧
      let t' := u.trailer p
      let opens : Prop := rep.door = .opened ∧ t.door.held ≠ some .opened
      let closes : Prop := rep.door = .closed ∧ t.door.held = some .opened
      let warm : Prop := ∃ v, t'.tc = some v ∧ pr.termination ≤ v
      let door : CauseEntry := { cause := .door, joined := s.now, push := 0 }
      (x.state = .commanded →
        (¬ opens → rep.mode = .defrost → u.run p = some { x with state := .heating s.now, heatCount := 0 }) ∧
        (¬ opens → rep.mode ≠ .defrost → u.run p = some x) ∧
        (opens → rep.mode ≠ .defrost → u.run p = some { x with state := .suspended s.now .commanded [door] }) ∧
        (opens → rep.mode = .defrost → ¬ warm →
          u.run p = some { x with state := .suspended s.now .heating [door] }) ∧
        (opens → rep.mode = .defrost → warm → u.run p = some { x with state := .ending s.now .cleared false, byAction := false })) ∧
      (∀ start, x.state = .heating start →
        let spent := x.heatingTime + (s.now - start).toNat
        let count := min 255 (x.heatCount + 1)
        let weak : Prop := 2 ≤ count ∧ 0 < pr.minCurrent ∧ rep.heaterCurrent < pr.minCurrent
        (opens → ¬ warm →
          u.run p = some { x with state := .suspended s.now .heating [door], heatingTime := spent }) ∧
        (opens → warm → u.run p = some { x with state := .ending s.now .cleared false, byAction := false, heatingTime := spent }) ∧
        (¬ opens → (warm ∨ (rep.mode ≠ .defrost ∧ ∃ v, t'.tc = some v ∧ pr.termination - 30 ≤ v)) →
          u.run p = some { x with state := .ending s.now .cleared false, byAction := false, heatingTime := spent, heatCount := count }) ∧
        (¬ opens → rep.mode ≠ .defrost → (∀ v, t'.tc = some v → v < pr.termination - 30) →
          u.run p = some { x with
            state := .ending s.now .unitEnded false, byAction := false, heatingTime := spent, heatCount := count }) ∧
        (¬ opens → rep.mode = .defrost → ¬ warm →
          (weak → u.run p = some { x with heatCount := count, heaterWeak := true } ∧
            (s.phase = .running → x.heaterWeak = false → t'.stands .heaterWeak = true)) ∧
          (¬ weak → u.run p = some { x with heatCount := count }))) ∧
      (∀ start prior causes, x.state = .suspended start prior causes →
        let spent := x.suspendedTime + (s.now - start).toNat
        let prior' : PriorState := if rep.mode = .defrost then .heating else prior
        (¬ opens → ¬ closes →
          (prior' = .heating → warm →
            u.run p = some { x with state := .ending s.now .cleared false, byAction := false, suspendedTime := spent }) ∧
          (¬ (prior' = .heating ∧ warm) → u.run p = some { x with state := .suspended start prior' causes })) ∧
        (opens → ¬ (prior' = .heating ∧ warm) → (∀ c ∈ causes, c.cause ≠ .door) →
          u.run p = some { x with state := .suspended start prior' (causes ++ [door]) }) ∧
        (closes → ¬ (prior' = .heating ∧ warm) → (∃ c ∈ causes, c.cause ≠ .door) →
          u.run p = some { x with
            state := .suspended start prior' (causes.filter fun c => decide (c.cause ≠ .door)) }) ∧
        (closes → causes ≠ [] → (∀ c ∈ causes, c.cause = .door) →
          (prior = .commanded → rep.mode ≠ .defrost →
            u.run p = some { x with state := .commanded, suspendedTime := spent }) ∧
          ((prior = .heating ∨ rep.mode = .defrost) →
            u.run p = some { x with state := .heating s.now, suspendedTime := spent, heatCount := 0 }))) ∧
      (∀ start o seen, x.state = .ending start o seen →
        (rep.mode = .defrost → u.run p = some { x with state := .ending start o true }) ∧
        (rep.mode ≠ .defrost →
          u.run p = none ∧ u.requestOf p = none ∧
          t'.f = (match o with
            | .cleared => 0
            | .timedOut | .unitEnded => x.f0 / 2
            | .startFailed | .aborted _ => x.f0) ∧
          t'.r = (if o = .cleared then 0 else t.r) ∧
          t'.lastDefrostEnd = (match o with
            | .cleared | .timedOut | .unitEnded => some s.now
            | .startFailed | .aborted _ => t.lastDefrostEnd)))

/-- A GOOD STATUS of a unit that the post's record does not hold, or that a HELD or an ARRIVING record holds (R24, R25, R28,
R32 to R39). An
unknown serial makes a VACANT record, or one that another serial first departs, ARRIVING with the fresh values, and a model
that a profile matches enrols it at once with that profile's values; with none UNKNOWN-MODEL stands. A serial that stands at
another post whose trailer is not gone makes the record HELD with DUPLICATE-UNIT, and a HELD record stays so; where the owner
has departed it arrives, and DUPLICATE-UNIT clears. An ARRIVING record takes the reported model where it is not 0, and the
match is tried again. A record that does not verify is rebuilt, with custody UNKNOWN, F at the
threshold of the profile and RECORD-REBUILT. That UNKNOWN-MODEL stands where such a retry, of a HELD or of an ARRIVING record,
finds no profile is the model's reading (DEDUCED, log entry 35). -/
def Obligations.StatusArrivesOrHolds : Prop :=
  ∀ (l : Line) (bytes : List Byte) (s : State) (r : Round) (rep : StatusReport),
    let p := r.exchange.post
    let t := s.trailer p
    s.Hears l bytes r rep → rep.unit = .unit → s.phase = .running → s.GrantLaw →
    ∃ u : State, exec (.status l bytes) s = .next u.pumpTx ∧
      let t' := u.trailer p
      let takes : Prop := t.state = .vacant ∨ (t.verifies = true ∧ t.serial ≠ rep.serial)
      let retries : Prop := t.verifies = true ∧ t.state = .held ∧ t.serial = rep.serial
      let arrived : Prop :=
        t'.serial = rep.serial ∧ t'.model = rep.model ∧ t'.arrival = some s.now ∧ t'.lastStatus = some s.now ∧
        t'.unitAbsent = 0 ∧ t'.r = 0 ∧ t'.lastDefrostEnd = none ∧ t'.inhibit = false ∧ t'.deferral = none
      let listed : Prop := (rep.serial, p) ∈ u.directory ∧ t'.verifies = true
      ((takes ∨ retries) → s.dirLookup rep.serial = none →
        arrived ∧ listed ∧ t'.stands .duplicateUnit = false ∧
        (∀ i pr, s.matching rep.model = some (i, pr) →
          t'.state = .enrolled ∧ t'.profile = some i ∧ t'.f = pr.fth / 2 ∧ t'.mask = pr.mask ||| 0x8000 ∧
          t'.custody = .none ∧ t'.lastEval = some s.now) ∧
        (s.matching rep.model = none →
          t'.state = .arriving ∧ t'.profile = none ∧ t'.f = 0 ∧ t'.mask = 0xFFFF ∧ t'.custody = .none ∧
          t'.lastEval = none ∧ t'.fuel = .start ∧ t'.door = .vacant ∧ t'.run = none ∧
          t'.stands .unknownModel = true)) ∧
      (∀ owner, takes → s.dirLookup rep.serial = some owner → owner ≠ p → s.Present owner →
        arrived ∧ t'.state = .held ∧ t'.profile = none ∧ t'.f = 0 ∧ t'.custody = .none ∧ t'.lastEval = none ∧
        t'.run = none ∧ t'.stands .duplicateUnit = true ∧ (rep.serial, owner) ∈ u.directory ∧
        (u.trailer owner).state = (s.trailer owner).state ∧ (u.trailer owner).serial = (s.trailer owner).serial) ∧
      (∀ owner, retries → s.dirLookup rep.serial = some owner → owner ≠ p → s.Present owner →
        t'.state = .held ∧ t'.serial = t.serial ∧ t'.arrival = t.arrival ∧ t'.lastStatus = some s.now ∧
        t'.stands .duplicateUnit = t.stands .duplicateUnit ∧ (rep.serial, owner) ∈ u.directory) ∧
      (t.verifies = true → t.state = .arriving → t.serial = rep.serial →
        let model := if rep.model = 0 then t.model else rep.model
        t'.serial = t.serial ∧ t'.model = model ∧ t'.arrival = t.arrival ∧ t'.lastStatus = some s.now ∧
        t'.inhibit = t.inhibit ∧ t'.deferral = t.deferral ∧ t'.verifies = true ∧
        ((rep.serial, p) ∈ s.directory → (rep.serial, p) ∈ u.directory) ∧
        (∀ i pr, s.matching model = some (i, pr) →
          t'.state = .enrolled ∧ t'.profile = some i ∧ t'.f = pr.fth / 2 ∧ t'.r = 0 ∧ t'.mask = pr.mask ||| 0x8000 ∧
          t'.custody = .none ∧ t'.lastDefrostEnd = none ∧ t'.lastEval = some s.now ∧
          (t.InOneSet .unknownModel → t'.stands .unknownModel = false)) ∧
        (s.matching model = none →
          t'.state = .arriving ∧ t'.profile = t.profile ∧ t'.f = t.f ∧ t'.r = t.r ∧ t'.mask = t.mask ∧
          t'.custody = t.custody ∧ t'.door = t.door ∧ t'.fuel = t.fuel ∧ t'.run = none ∧ t'.lastEval = t.lastEval ∧
          t'.stands .unknownModel = true)) ∧
      (t.verifies = false → t.state ≠ .vacant → (s.entry p).map (·.state) ≠ some .lost → t.stands .linkLost = false →
        (∀ e ∈ s.directory, e.1 = rep.serial → e.2 = p) →
        arrived ∧ listed ∧ t'.custody = .unknown ∧ t'.stands .recordRebuilt = true ∧
        u.rebuilds.getLast? = some s.now ∧
        (∀ i pr, s.matching rep.model = some (i, pr) →
          t'.state = .enrolled ∧ t'.profile = some i ∧ t'.f = pr.fth ∧ t'.mask = pr.mask ||| 0x8000 ∧
          t'.lastEval = some s.now) ∧
        (s.matching rep.model = none →
          t'.state = .arriving ∧ t'.profile = none ∧ t'.f = 0 ∧ t'.mask = 0xFFFF ∧ t'.lastEval = none ∧
          t'.stands .unknownModel = true))

/-- A GOOD STATUS that departs, counts, confirms or moves (R30, R31, R35, R36, R38, R40), where runs and requests, and the directory and the records, agree. Plug
NONE makes the record vacant, with its request, its directory entry and its actions gone. No unit counts at an ENROLLED
record, which at the third has LINK-LOST, and leaves an ARRIVING, a HELD or a RESTORED record as it was but for its last status
time and its findings. A RESTORED record is confirmed by its serial, keeping its values; that UNKNOWN-MODEL stands where its
profile is gone and no model matches is the model's reading (log entry 35). A serial whose owner is gone is carried to the arriving post with its account,
its door and its custody, its run and request ended, and leaves the owner's record vacant (an owner post with no entry counts as gone, the model's
choice, log entry 36); an owner record that does not verify is rebuilt there instead. -/
def Obligations.StatusMovesConfirmsOrDeparts : Prop :=
  ∀ (l : Line) (bytes : List Byte) (s : State) (r : Round) (rep : StatusReport),
    let p := r.exchange.post
    let t := s.trailer p
    s.Hears l bytes r rep → s.GrantLaw → s.DirectoryLaw →
    ∃ u : State, exec (.status l bytes) s = .next u.pumpTx ∧
      let t' := u.trailer p
      (t.verifies = true → rep.unit = .unplugged → t.state ≠ .vacant →
        t' = .vacant ∧ u.inForce p = .none ∧ (∀ e ∈ u.directory, e.2 ≠ p) ∧ (∀ q, ∀ x ∈ u.queue q, x.post ≠ p)) ∧
      (rep.unit ≠ .unit → t.state = .vacant → t'.state = .vacant) ∧
      (t.verifies = true → rep.unit = .noUnit → t.state = .enrolled →
        t'.state = .enrolled ∧ t'.serial = t.serial ∧ t'.profile = t.profile ∧ t'.lastStatus = some s.now ∧
        t'.unitAbsent = min 3 (t.unitAbsent + 1) ∧ t'.f = t.f ∧ t'.r = t.r ∧ t'.lastEval = t.lastEval ∧
        t'.custody = t.custody ∧ t'.door = t.door ∧ t'.fuel = t.fuel ∧
        (s.phase = .running → t.unitAbsent = 2 → t'.stands .linkLost = true)) ∧
      (t.verifies = true → rep.unit = .noUnit →
        (t.state = .arriving ∨ t.state = .held ∨
          (t.state = .restored ∧ (r.remaining ≠ [] ∨ (s.line l).sinceUp ≠ some 4))) →
        t'.lastStatus = some s.now ∧ (∀ d ∈ s.directory, d.2 = p → d ∈ u.directory) ∧
        { t' with lastStatus := t.lastStatus, active := t.active, noted := t.noted, checkError := 0 } = t) ∧
      (t.verifies = true → rep.unit = .unit → t.state = .restored → t.serial = rep.serial → t.lastEval = none →
        (∀ pr, s.profileOf t = some pr →
          t'.state = .enrolled ∧ t'.profile = t.profile ∧ t'.f = t.f ∧ t'.r = t.r ∧ t'.mask = t.mask ∧
          t'.inhibit = t.inhibit ∧ t'.arrival = t.arrival ∧ t'.lastDefrostEnd = t.lastDefrostEnd ∧
          t'.model = rep.model ∧ t'.lastStatus = some s.now ∧ t'.lastEval = some s.now) ∧
        (s.profileOf t = none → s.matching rep.model = none →
          t'.state = .arriving ∧ t'.profile = none ∧ t'.f = t.f ∧ t'.r = t.r ∧ t'.mask = t.mask ∧
          t'.model = rep.model ∧ t'.lastStatus = some s.now ∧
          (s.phase = .running → t'.stands .unknownModel = true))) ∧
      (∀ owner, rep.unit = .unit → s.dirLookup rep.serial = some owner → owner ≠ p → ¬ s.Present owner →
        (t.state = .vacant ∨ (t.verifies = true ∧ (t.serial ≠ rep.serial ∨ t.state = .held))) →
        let o := s.trailer owner
        u.trailer owner = .vacant ∧ u.inForce owner = .none ∧ (rep.serial, p) ∈ u.directory ∧
        (∀ e ∈ u.directory, e.1 = rep.serial → e.2 = p) ∧ (∀ q, ∀ x ∈ u.queue q, x.post ≠ owner) ∧
        t'.model = rep.model ∧ t'.lastStatus = some s.now ∧
        (∀ pr, o.verifies = true → s.profileOf o = some pr →
          t'.state = .enrolled ∧ t'.serial = o.serial ∧ t'.profile = o.profile ∧ t'.arrival = o.arrival ∧
          t'.f = (o.run.map (·.f0)).getD o.f ∧ t'.r = o.r ∧ t'.lastDefrostEnd = o.lastDefrostEnd ∧
          t'.inhibit = o.inhibit ∧ t'.deferral = o.deferral ∧ t'.mask = o.mask ∧ t'.unitAbsent = 0 ∧
          t'.lastEval = some s.now ∧ (o.InOneSet .linkLost → t'.stands .linkLost = false) ∧
          ((rep.door ≠ .opened ∨ o.door.held = some .opened) → t'.custody = o.custody ∧
            t'.door.history = o.door.history ∧ t'.door.pn = o.door.pn)) ∧
        (o.verifies = true → s.profileOf o = none → s.matching rep.model = none →
          t'.state = .arriving ∧ t'.serial = o.serial ∧ t'.profile = none ∧ t'.arrival = o.arrival ∧
          t'.f = (o.run.map (·.f0)).getD o.f ∧ t'.r = o.r ∧ t'.custody = o.custody ∧ t'.door = o.door) ∧
        (o.verifies = false →
          t'.serial = rep.serial ∧ t'.arrival = some s.now ∧ t'.custody = .unknown ∧
          u.rebuilds.getLast? = some s.now ∧
          (s.phase = .running → t'.stands .recordRebuilt = true) ∧
          (∀ i pr, s.matching rep.model = some (i, pr) →
            t'.state = .enrolled ∧ t'.profile = some i ∧ t'.f = pr.fth ∧ t'.r = 0) ∧
          (s.matching rep.model = none → t'.state = .arriving ∧ t'.profile = none ∧ t'.f = 0 ∧ t'.r = 0)))

/-! ## The line state (1.5) -/

/-- The line state machine at a round end (R13, R15 to R18, R41), at the failed retry of the last address by a post that was
not LIVE: a clean round is one with a GOOD result that no MISS spoiled. DISTURBED goes to RECOVERING or UP by a clean round,
counts silent rounds and goes DOWN at the third; RECOVERING counts clean rounds it began in up to the recover count, which
takes it UP; UP and DOWN stay. Rounds since first UP starts at the first round that ends UP and rises, and as it reaches 5
the records still RESTORED on the line depart. As the line enters UP no run on it has LINE among its causes. A GOOD result
takes a line that is DOWN to RECOVERING at once, and a GOOD result at the last address is judged with its round. -/
def Obligations.LineStateAtARoundEnd : Prop :=
  (∀ (l : Line) (s : State) (r : Round) (e : PostEntry), (s.line l).round = some r → r.exchange.retry = true →
    r.remaining = [] → s.entry r.exchange.post = some e → e.state ≠ .live →
    ∃ u : State, exec (.responseWindowExpiry l) s = .next u.pumpTx ∧ exec (.postFrameGapTimeout l) s = .next u.pumpTx ∧
      let c := s.line l
      let c' := u.line l
      let clean : Prop := r.hadGood = true ∧ r.spoiled = false
      let silent := if r.hadGood then 0 else min 3 (c.silentRounds + 1)
      let good := min 15 (c.goodRounds + 1)
      c' = { c with
        round := none, state := c'.state, goodRounds := c'.goodRounds, silentRounds := c'.silentRounds
        sinceUp := c'.sinceUp } ∧
      (c.state ≠ .disturbed → c'.silentRounds = c.silentRounds) ∧
      (c.state = .off ∨ c.state = .up ∨ c.state = .down → c'.state = c.state ∧ c'.goodRounds = c.goodRounds) ∧
      (c.state = .disturbed →
        c'.silentRounds = silent ∧
        (clean → c.settings.recover = 1 → c'.state = .up ∧ c'.goodRounds = 0) ∧
        (clean → 1 < c.settings.recover → c'.state = .recovering ∧ c'.goodRounds = 1) ∧
        (¬ clean → silent = 3 → c'.state = .down ∧ c'.goodRounds = 0) ∧
        (¬ clean → silent < 3 → c'.state = .disturbed ∧ c'.goodRounds = c.goodRounds)) ∧
      (c.state = .recovering →
        (r.beganRecovering = true → clean → c.settings.recover ≤ good → c'.state = .up ∧ c'.goodRounds = 0) ∧
        (r.beganRecovering = true → clean → good < c.settings.recover →
          c'.state = .recovering ∧ c'.goodRounds = good) ∧
        (r.beganRecovering = false ∨ ¬ clean → c'.state = .recovering ∧ c'.goodRounds = c.goodRounds)) ∧
      (∀ n, c.sinceUp = some n → c'.sinceUp = some (min 255 (n + 1))) ∧
      (c.sinceUp = none → c'.sinceUp = if c'.state = .up then some 0 else none) ∧
      (c.state ≠ .up → c'.state = .up → ∀ q x, postLine q = l → u.run q = some x → ∀ k ∈ x.causes, k.cause ≠ .line) ∧
      (c.sinceUp = some 4 → s.GrantLaw → ∀ q, postLine q = l → (s.trailer q).state = .restored →
        u.trailer q = .vacant ∧ ∀ d ∈ u.directory, d.2 ≠ q) ∧
      (∀ q, (c.sinceUp ≠ some 4 ∨ postLine q ≠ l ∨ (s.trailer q).state ≠ .restored) →
        (u.trailer q).state = (s.trailer q).state ∧ (u.trailer q).serial = (s.trailer q).serial) ∧
      (∀ l', l' ≠ l → u.line l' = s.line l') ∧ (∀ q, q ≠ r.exchange.post → u.entry q = s.entry q) ∧ WorldSame s u) ∧
  (∀ (l : Line) (bytes : List Byte) (s : State) (r : Round) (rep : StatusReport), s.Hears l bytes r rep →
    r.beganRecovering = false → (s.line l).state = .down →
    ∃ u : State, exec (.status l bytes) s = .next u.pumpTx ∧ (u.line l).state = .recovering ∧
      (u.line l).goodRounds = 0 ∧ (u.line l).silentRounds = 0 ∧ (u.line l).misses = 0) ∧
  (∀ (l : Line) (bytes : List Byte) (s : State) (r : Round) (rep : StatusReport), s.Hears l bytes r rep →
    r.remaining = [] → (∀ q, (s.trailer q).verifies = true) →
    ∃ u : State, exec (.status l bytes) s = .next u.pumpTx ∧
      let c := s.line l
      let c' := u.line l
      let good := min 15 (c.goodRounds + 1)
      c'.round = none ∧ c'.misses = 0 ∧ (c.state = .up → c'.state = .up) ∧
      (c.state = .disturbed →
        c'.silentRounds = 0 ∧
        (r.spoiled = false → c.settings.recover = 1 → c'.state = .up ∧ c'.goodRounds = 0) ∧
        (r.spoiled = false → 1 < c.settings.recover → c'.state = .recovering ∧ c'.goodRounds = 1) ∧
        (r.spoiled = true → c'.state = .disturbed ∧ c'.goodRounds = c.goodRounds)) ∧
      (c.state = .recovering →
        (r.beganRecovering = true → r.spoiled = false → c.settings.recover ≤ good →
          c'.state = .up ∧ c'.goodRounds = 0) ∧
        (r.beganRecovering = true → r.spoiled = false → good < c.settings.recover →
          c'.state = .recovering ∧ c'.goodRounds = good) ∧
        (r.beganRecovering = false ∨ r.spoiled = true → c'.state = .recovering ∧ c'.goodRounds = c.goodRounds)) ∧
      (c.state ≠ .up → c'.state = .up → ∀ q x, postLine q = l → u.run q = some x → ∀ k ∈ x.causes, k.cause ≠ .line))

/-! ## The timers of a run (chapter 5) -/

/-- START_TIMER_EXPIRY (R96, R105), 60 s after the grant, for a run that is COMMANDED or SUSPENDED from COMMANDED: it
enters ENDING as START-FAILED, DEFROST-START-FAILED stands, and the next request is deferred by 600 s or the longer
deferral held. Before its moment, and for any other run, it changes nothing. That it does nothing then is the model's
choice (log entry 2). -/
def Obligations.StartTimerFailsTheRun : Prop :=
  ∀ (p : Post) (s : State),
    (∀ r, s.phase = .running → s.run p = some r →
      (r.state = .commanded ∨ ∃ t cs, r.state = .suspended t .commanded cs) → r.grantTime + 60 ≤ s.now →
      ∃ (u : State) (r' : RunRecord), exec (.startTimerExpiry p) s = .next u.pumpTx ∧ u.run p = some r' ∧
        r'.state = .ending s.now .startFailed false ∧ r'.byAction = false ∧ r'.queue = r.queue ∧ r'.load = r.load ∧ r'.f0 = r.f0 ∧
        r'.heatingTime = r.heatingTime ∧ r'.suspendedTime = r.suspendedAt s.now ∧
        (u.trailer p).deferral
          = some (((s.trailer p).deferral.map fun d => max d (s.now + 600)).getD (s.now + 600)) ∧
        (u.trailer p).stands .defrostStartFailed = true ∧ (u.trailer p).f = (s.trailer p).f ∧
        u.queues = s.queues ∧ u.committed = s.committed ∧ u.directory = s.directory ∧
        OutsideSame s u ∧ NoRebuild s u ∧ OtherPostsSame p s u) ∧
    ((s.run p = none ∨ ∃ r, s.run p = some r ∧
        (s.now < r.grantTime + 60 ∨ (∃ t, r.state = .heating t) ∨ (∃ t cs, r.state = .suspended t .heating cs) ∨
          ∃ t o e, r.state = .ending t o e)) →
      exec (.startTimerExpiry p) s = .next s.pumpTx)

/-- MAX_DURATION_EXPIRY (R97, R105), once the heating time with the segment in progress has reached the held maximum:
the run enters ENDING as TIMED-OUT with its heating time closed, and nothing else changes. Before its moment, and for
a run that is not HEATING, it changes nothing. That it does nothing then is the model's choice (log entry 2). -/
def Obligations.MaxDurationTimesTheRunOut : Prop :=
  ∀ (p : Post) (s : State),
    (∀ r start, s.phase = .running → s.run p = some r → r.state = .heating start →
      r.limits.maxDuration ≤ r.heatingTime + (s.now - start).toNat →
      ∃ u : State, exec (.maxDurationExpiry p) s = .next u.pumpTx ∧
        u = { s with records := u.records } ∧
        u.trailer p = { s.trailer p with
          run := some { r with
            state := .ending s.now .timedOut false, byAction := false, heatingTime := r.heatingTime + (s.now - start).toNat }
          checkError := 0 } ∧
        (∀ q, q ≠ p → u.trailer q = s.trailer q)) ∧
    ((s.run p = none ∨ ∃ r, s.run p = some r ∧ ((∀ t, r.state ≠ .heating t) ∨
        ∃ t, r.state = .heating t ∧ r.heatingTime + (s.now - t).toNat < r.limits.maxDuration)) →
      exec (.maxDurationExpiry p) s = .next s.pumpTx)

/-- SUSPENSION_LIMIT_EXPIRY (R104, R105), once this suspension has reached the suspend limit or all of them twice the
limit: the run enters ENDING as ABORTED with the cause in force longest, DEFROST-ABORTED stands, and the next request
is deferred. Before its moment, and for a run that is not SUSPENDED, it changes nothing. That it does nothing then is
the model's choice (log entry 2). -/
def Obligations.SuspensionLimitAbortsTheRun : Prop :=
  ∀ (p : Post) (s : State),
    (∀ r start prior cs, s.phase = .running → s.run p = some r → r.state = .suspended start prior cs → cs ≠ [] →
      (r.limits.suspendLimit ≤ (s.now - start).toNat ∨
        2 * r.limits.suspendLimit ≤ r.suspendedTime + (s.now - start).toNat) →
      ∃ (u : State) (r' : RunRecord) (c : CauseEntry), exec (.suspensionLimitExpiry p) s = .next u.pumpTx ∧
        c ∈ cs ∧ (∀ x ∈ cs, c.joined < x.joined ∨ (c.joined = x.joined ∧ c.cause.code ≤ x.cause.code)) ∧
        u.run p = some r' ∧ r'.state = .ending s.now (.aborted c.cause.abort) false ∧ r'.byAction = false ∧
        r'.suspendedTime = r.suspendedTime + (s.now - start).toNat ∧ r'.heatingTime = r.heatingTime ∧
        r'.queue = r.queue ∧ r'.load = r.load ∧ r'.f0 = r.f0 ∧
        (u.trailer p).deferral
          = some (((s.trailer p).deferral.map fun d => max d (s.now + 600)).getD (s.now + 600)) ∧
        (u.trailer p).stands .defrostAborted = true ∧ (u.trailer p).f = (s.trailer p).f ∧
        u.queues = s.queues ∧ u.committed = s.committed ∧ u.directory = s.directory ∧
        OutsideSame s u ∧ NoRebuild s u ∧ OtherPostsSame p s u) ∧
    ((s.run p = none ∨ ∃ r, s.run p = some r ∧ ((∀ t o cs, r.state ≠ .suspended t o cs) ∨
        ∃ t o cs, r.state = .suspended t o cs ∧ (s.now - t).toNat < r.limits.suspendLimit ∧
          r.suspendedTime + (s.now - t).toNat < 2 * r.limits.suspendLimit)) →
      exec (.suspensionLimitExpiry p) s = .next s.pumpTx)

/-- STUCK_TIMER_EXPIRY (R106, R109), 60 s after the ending start of a trailer with no queued request: UNIT-STUCK-
DEFROST stands and the run is gone, with its outcome's effect on F, R and the last defrost end. Before its moment, and
for a run that is not ENDING, it changes nothing. That it does nothing then is the model's choice (log entry 2). -/
def Obligations.StuckTimerEndsTheRun : Prop :=
  ∀ (p : Post) (s : State),
    (∀ r start o evaluated, s.phase = .running → s.run p = some r → r.state = .ending start o evaluated →
      start + 60 ≤ s.now → (∀ q, ∀ x ∈ s.queue q, x.post ≠ p) →
      ∃ u : State, exec (.stuckTimerExpiry p) s = .next u.pumpTx ∧ u.run p = none ∧
        (u.trailer p).stands .unitStuckDefrost = true ∧
        (u.trailer p).f = (match o with
          | .cleared => 0
          | .timedOut | .unitEnded => r.f0 / 2
          | .startFailed | .aborted _ => r.f0) ∧
        (u.trailer p).r = (if o = .cleared then 0 else (s.trailer p).r) ∧
        (u.trailer p).lastDefrostEnd = (match o with
          | .cleared | .timedOut | .unitEnded => some s.now
          | .startFailed | .aborted _ => (s.trailer p).lastDefrostEnd) ∧
        (u.trailer p).state = (s.trailer p).state ∧ u.directory = s.directory ∧ OutsideSame s u ∧ NoRebuild s u) ∧
    ((s.run p = none ∨ ∃ r, s.run p = some r ∧ ((∀ t o e, r.state ≠ .ending t o e) ∨
        ∃ t o e, r.state = .ending t o e ∧ s.now < t + 60)) →
      exec (.stuckTimerExpiry p) s = .next s.pumpTx)

/-! ## The store, hold-up and power (chapter 11) -/

/-- STORE_WRITE_COMPLETE (R194): the block holds its new content with its mark, the content is in force, the reply OK
is formed, and a flush that waited for the write begins. With no write in flight the event changes nothing. The
content's byte layout is the model's (log entry 6), and so is that the reply is formed before any notice of the content's
effects, so that the transmitter takes up none within the event (log entry 16). -/
def Obligations.StoreWriteCompletes : Prop :=
  ∀ s : State,
    (∀ w c, s.write = some w → readBlock w.block.val w.content = some c →
      ∃ u : State, exec .storeWriteComplete s = .next u.pumpTx ∧ u.write = none ∧
        u.block w.block = { bytes := w.content, mark := true } ∧ (∀ b, b ≠ w.block → u.block b = s.block b) ∧
        u.config = s.config.put c ∧
        u.replies = s.replies ++ [{ type := 0x15, tag := w.tag, status := .ok, body := [] }] ∧
        u.asFactory = s.asFactory.filter (fun b => decide (b ≠ w.block.val)) ∧
        (s.phase = .flushWaiting → u.phase = .flushing 38 (flushBlocks (flushNumber u.imageNumber) u.packedRecords)) ∧
        (s.phase ≠ .flushWaiting → u.phase = s.phase) ∧
        u.runCounter = s.runCounter ∧ u.yardOffset = s.yardOffset ∧ u.weather = s.weather ∧ u.rx = s.rx ∧
        u.held = s.held ∧ u.tx = s.tx) ∧
    (s.write = none → exec .storeWriteComplete s = .next s.pumpTx)

/-- What the content of a completed STORE_WRITE does (R194). While the module runs: an OFF line whose installed set is no
longer empty becomes RECOVERING and polls its first post, and any other line waits for its round start; each feeder queue is
walked with its new capacity; queued requests follow a new post map, and only a queue that receives one is walked; every
record's actions are settled against a new finding table, an action newly carried coming into force with the push number of
the lowest class that carries it, BEACON and CUT-HEATER before INHIBIT-DEFROST can end a run, with no item and no frame where
no trailer has a run; a changed sender or curve resets the fuel of the bound records, with SENDER-FAULT and
LOW-FUEL cleared and FUEL-LOSS kept; the defaults and a profile with neither change touch no record and no queue. While a
flush waits for the write, only the fuel reset is taken. -/
def Obligations.CompletedContentTakesEffect : Prop :=
  ∀ (s : State) (w : StoreWrite) (c : BlockContent), s.write = some w → readBlock w.block.val w.content = some c →
    ∃ u : State, exec .storeWriteComplete s = .next u.pumpTx ∧ u.config = s.config.put c ∧
      let idle : Prop :=
        u.records = s.records ∧ u.queues = s.queues ∧ u.committed = s.committed ∧ u.actions = s.actions ∧
        u.stack = s.stack ∧ u.directory = s.directory
      let changed (i : ProfileId) (pr : Profile) : Prop :=
        ∃ old, s.config.profiles.get i = some old ∧ (old.sender ≠ pr.sender ∨ old.curve ≠ pr.curve)
      (s.phase = .running → ∀ a b, c = .lines a b →
        ((∀ l, (s.line l).state = .off → (s.line l).settings.installed = 0) → idle) ∧ ∀ l,
        ((s.line l).state = .off → (s.line l).settings.installed = 0 →
          ∀ p rest, installedPosts l (u.lineConfig l).installed = p :: rest →
            ∃ x, u.line l = { s.line l with
                state := .recovering, goodRounds := 0, silentRounds := 0, settings := u.lineConfig l
                lastStart := some s.now, round := some x } ∧
              x.exchange.post = p ∧ x.exchange.retry = false ∧ x.remaining = rest ∧ x.beganRecovering = true ∧
              ∀ q ∈ p :: rest, u.entry q = some PostEntry.start) ∧
        (((s.line l).state ≠ .off ∨ (u.lineConfig l).installed = 0) →
          u.line l = s.line l ∧ ∀ q, postLine q = l → u.entry q = s.entry q ∧ u.output q = s.output q)) ∧
      (s.phase = .running → s.GrantLaw → ∀ k, c = .capacities k → ∀ q : Queue,
        (∀ f : Fin 8, q.val = f.val →
          let walked := walkFrom (some (k.get f)) (fun x => (s.ineligible q x.post).isNone) (s.load q) [] (s.queue q)
          u.queue q = walked.2 ∧ u.load q = s.load q + (walked.1.map (·.load)).sum ∧
          ∀ x ∈ walked.1, ∃ y, u.run x.post = some y ∧ y.cls = x.cls ∧ y.load = x.load ∧ y.queue = q ∧
            y.grantTime = s.now) ∧
        (q.val = 8 → u.queue q = s.queue q ∧ u.load q = s.load q)) ∧
      (s.phase = .running → s.GrantLaw → ∀ m st, c = .postMap m st →
        (∀ q, ∀ x ∈ s.queue q,
          (∃ y ∈ u.queue (m.get x.post), y = { x with passes := y.passes } ∧ x.passes ≤ y.passes) ∨
          ∃ y, u.run x.post = some y ∧ y.cls = x.cls ∧ y.load = x.load ∧ y.queue = m.get x.post ∧
            y.grantTime = s.now) ∧
        (∀ q, (∀ q', q' ≠ q → ∀ x ∈ s.queue q', m.get x.post ≠ q) →
          u.queue q = (s.queue q).filter (fun x => decide (m.get x.post = q)) ∧ u.load q = s.load q) ∧
        ∀ p x, s.run p = some x → u.run p = some x) ∧
      (s.phase = .running → ∀ tbl, c = .findingTable tbl → ∀ p,
        (u.trailer p).state = (s.trailer p).state ∧
        ((s.trailer p).state ≠ .vacant → s.run p = none →
          (u.trailer p).active = (s.trailer p).active ∧ (u.trailer p).noted = (s.trailer p).noted) ∧
        ((s.trailer p).state ≠ .vacant →
          ∀ a : Action, a ≠ .none →
            let carrier := (s.trailer p).active.find? fun x => decide ((u.tableEntry x.cls).action = a)
            (carrier = none → (s.run p = none ∨ (u.tableEntry .defrostAborted).action ≠ a) →
              (u.inForce p).of a = none) ∧
            (∀ x, carrier = some x →
              (((s.inForce p).of a).isSome → (u.inForce p).of a = (s.inForce p).of a) ∧
              ((s.inForce p).of a = none → (u.inForce p).of a = some (x.push.getD 0)))) ∧
        ((s.trailer p).state = .vacant → u.trailer p = s.trailer p ∧ u.inForce p = s.inForce p) ∧
        ((∀ q, s.run q = none) → u.stack = s.stack ∧ u.nextPush = s.nextPush ∧ SameNotices s u)) ∧
      (∀ i pr, c = .profile i (some pr) →
        (∀ p, (s.trailer p).profile = some i → changed i pr → (s.phase = .running ∨ s.phase = .flushWaiting) →
          (u.trailer p).fuel = .start ∧
          ((s.trailer p).InOneSet .senderFault → (u.trailer p).stands .senderFault = false) ∧
          ((s.trailer p).InOneSet .lowFuel → (u.trailer p).stands .lowFuel = false) ∧
          (u.trailer p).activeOf .fuelLoss = (s.trailer p).activeOf .fuelLoss ∧
          (u.trailer p).notedOf .fuelLoss = (s.trailer p).notedOf .fuelLoss ∧ (u.trailer p).f = (s.trailer p).f ∧
          (u.trailer p).mask = (s.trailer p).mask) ∧
        (∀ old, s.config.profiles.get i = some old → ¬ changed i pr → idle)) ∧
      (∀ d h, c = .defaults d h → idle) ∧
      (s.phase = .flushWaiting →
        u.stations = s.stations ∧ u.lineA = s.lineA ∧ u.lineB = s.lineB ∧ u.queues = s.queues ∧
        u.committed = s.committed ∧ u.actions = s.actions ∧ u.stack = s.stack ∧
        ((∀ i pr, c ≠ .profile i pr) → idle))

/-- MAINS_LOSS (R194, R195, R197), where every record verifies: while the module runs it begins a restart with the
reason MAINS-LOSS, which abandons a store write in flight, its block without mark and its reply RESTARTING, and flushes every station in order of
open time (R188; before that reply, which is the model's choice, log entry 16); while a restart with another reason is
pending, it takes the slot, and a write that the flush waits for is abandoned and the flush begins. -/
def Obligations.MainsLossBeginsARestart : Prop :=
  ∀ s : State,
    (s.phase = .running → s.write = none → s.heldCauses = [] → (∀ p, (s.trailer p).verifies = true) →
      ∃ u : State, exec .mainsLoss s = .next u.pumpTx ∧
        u = { s with
          mainsPresent := false, restartRecord := { primary := some .mainsLoss, secondary := none }
          phase := .flushing 38 (flushBlocks (flushNumber s.imageNumber) s.packedRecords)
          lineA := { s.lineA with round := none }, lineB := { s.lineB with round := none }
          stations := [], notices := u.notices, noticesLost := u.noticesLost, tx := u.tx } ∧ TxGoesOn s u ∧
        (s.BufferLaw → FlushesAll s u)) ∧
    (∀ w, s.phase = .running → s.write = some w → s.heldCauses = [] → (∀ p, (s.trailer p).verifies = true) →
      ∃ u : State, exec .mainsLoss s = .next u.pumpTx ∧ u.write = none ∧ (u.block w.block).mark = false ∧
        (u.block w.block).bytes.length = 256 ∧ (∀ b, b ≠ w.block → u.block b = s.block b) ∧
        u.replies = s.replies ++ [{ type := 0x15, tag := w.tag, status := .restarting, body := [] }] ∧
        u.restartRecord = { primary := some .mainsLoss, secondary := none } ∧
        u.phase = .flushing 38 (flushBlocks (flushNumber s.imageNumber) s.packedRecords) ∧
        u.lineA.round = none ∧ u.lineB.round = none ∧ u.stations = [] ∧ u.records = s.records ∧ u.config = s.config ∧
        (s.BufferLaw → FlushesAll s u)) ∧
    (∀ w, s.phase = .flushWaiting → s.write = some w → s.restartRecord.primary ≠ some .mainsLoss → s.heldCauses = [] →
      (∀ p, (s.trailer p).verifies = true) →
      ∃ u : State, exec .mainsLoss s = .next u.pumpTx ∧
        u = { s with
          mainsPresent := false, restartRecord := { s.restartRecord with secondary := some .mainsLoss }, write := none
          phase := .flushing 38 (flushBlocks (flushNumber s.imageNumber) s.packedRecords)
          replies := s.replies ++ [{ type := 0x15, tag := w.tag, status := .restarting, body := [] }]
          store := u.store, freeCount := u.freeCount } ∧
        (u.block w.block).mark = false ∧ (u.block w.block).bytes.length = 256 ∧
        ∀ b, b ≠ w.block → u.block b = s.block b) ∧
    (s.phase.restartPending = true → s.write = none → s.restartRecord.primary ≠ some .mainsLoss →
      exec .mainsLoss s
        = .next (State.pumpTx
            { s with mainsPresent := false, restartRecord := { s.restartRecord with secondary := some .mainsLoss } }))

/-- IMAGE_BLOCK_WRITTEN and MAINS_RETURN (R196 to R198): the block is stored and the next is being written; after the
last one a start follows at once where no reason is MAINS-LOSS, while one that is waits for mains, whose presence or
return makes the start's reason MAINS-DIP with the former reason in the slot. A start judges blocks 1 to 37 (R191), restores
the records of the image (R42, R130, R133), erases block 101 first and leaves no run, no request and no frame. The order of
profiles with one model code and of two packed records of one post are the model's choices (log entries 15 and 30). -/
def Obligations.FlushEndsInAStart : Prop :=
  ∀ s : State,
    (∀ (b : Fin 102) k k' rest, s.phase = .flushing b.val (k :: k' :: rest) →
      exec .imageBlockWritten s
        = .next (State.pumpTx
            { s.putBlock b { bytes := k, mark := true } with phase := .flushing (b.val + 1) (k' :: rest) })) ∧
    (∀ (b : Fin 102) k, s.phase = .flushing b.val [k] →
      (s.restartRecord.primary ≠ some .mainsLoss → s.restartRecord.secondary ≠ some .mainsLoss →
        ∃ u : State, exec .imageBlockWritten s = .next u.pumpTx ∧ u.phase = .starting 101 ∧
          u.startPrimary = s.restartRecord.primary.getD .powerOn ∧
          u.startSecondary = (if s.restartRecord.primary.isSome then s.restartRecord.secondary else none) ∧
          u.restartRecord = { primary := none, secondary := none } ∧ u.block b = { bytes := k, mark := true } ∧
          u.rate = s.rateSwitch ∧ u.runCounter = s.runCounter ∧ u.yardOffset = s.yardOffset ∧
          (∀ p, u.run p = none) ∧ (∀ q, u.queue q = [] ∧ u.load q = 0) ∧ u.stack = [] ∧ u.nextPush = 1 ∧
          u.replies = [] ∧ u.notices = [] ∧ u.lineA.round = none ∧ u.lineB.round = none ∧ u.BlocksJudged ∧
          u.ImageRestored) ∧
      ((s.restartRecord.primary = some .mainsLoss ∨ s.restartRecord.secondary = some .mainsLoss) →
        s.mainsPresent = false →
        exec .imageBlockWritten s
          = .next (State.pumpTx { s.putBlock b { bytes := k, mark := true } with phase := .awaitingMains })) ∧
      ((s.restartRecord.primary = some .mainsLoss ∨ s.restartRecord.secondary = some .mainsLoss) →
        s.mainsPresent = true →
        ∃ u : State, exec .imageBlockWritten s = .next u.pumpTx ∧ u.phase = .starting 101 ∧
          u.startPrimary = .mainsDip ∧
          u.startSecondary = (if s.restartRecord.primary = some .mainsLoss then s.restartRecord.secondary
            else s.restartRecord.primary) ∧ u.block b = { bytes := k, mark := true } ∧ (∀ p, u.run p = none) ∧
          u.BlocksJudged ∧ u.ImageRestored)) ∧
    (s.phase = .awaitingMains →
      ∃ u : State, exec .mainsReturn s = .next u.pumpTx ∧ u.phase = .starting 101 ∧ u.mainsPresent = true ∧
        u.startPrimary = .mainsDip ∧
        u.startSecondary = (if s.restartRecord.primary = some .mainsLoss then s.restartRecord.secondary
          else s.restartRecord.primary) ∧ u.store = s.store ∧ (∀ p, u.run p = none) ∧ u.BlocksJudged ∧
        u.ImageRestored) ∧
    (s.phase ≠ .awaitingMains → exec .mainsReturn s = .next (State.pumpTx { s with mainsPresent := true }))

/-- SUPPLY_FAIL and POWER_ON (R197, R198): the module is off, with MAINS-LOSS in the restart record where either
reason is MAINS-LOSS, and nothing left of working memory; at power-on the start takes its reasons from the restart
record, and a failed battery makes the clocks 0, the clock invalid and the reason POWER-ON; the start judges the blocks and
restores the image (R42, R191). That the rule for MAINS-
LOSS holds during the flush too, and which of two profiles or packed records counts, are the model's choices (log entries 27,
15 and 30). -/
def Obligations.PowerFailsAndReturns : Prop :=
  ∀ s : State,
    (s.phase ≠ .off →
      ∃ u : State, exec .supplyFail s = .next u.pumpTx ∧ u.phase = .off ∧
        u.restartRecord
          = (if s.restartRecord.primary = some .mainsLoss then
              { primary := some .mainsLoss, secondary := s.restartRecord.secondary }
            else if s.restartRecord.secondary = some .mainsLoss then
              { primary := some .mainsLoss, secondary := s.restartRecord.primary }
            else s.restartRecord) ∧
        u.runCounter = s.runCounter ∧ u.yardOffset = s.yardOffset ∧ u.replies = [] ∧ u.tx = none ∧ u.notices = [] ∧
        u.stack = [] ∧ u.directory = [] ∧ u.write = none ∧
        ((s.phase = .running ∨ s.phase = .awaitingMains) → s.write = none → u.store = s.store)) ∧
    (s.phase = .off → exec .supplyFail s = .next s.pumpTx) ∧
    (s.phase = .off →
      ∃ u : State, exec (.powerOn true) s = .next u.pumpTx ∧ u.phase = .starting 101 ∧
        u.startPrimary = s.restartRecord.primary.getD .powerOn ∧ u.clockInvalid = false ∧
        u.runCounter = s.runCounter ∧ u.yardOffset = s.yardOffset ∧ u.store = s.store ∧ (∀ p, u.run p = none) ∧
        u.BlocksJudged ∧ u.ImageRestored) ∧
    (s.phase = .off →
      ∃ u : State, exec (.powerOn false) s = .next u.pumpTx ∧ u.phase = .starting 101 ∧ u.startPrimary = .powerOn ∧
        u.startSecondary = none ∧ u.clockInvalid = true ∧ u.runCounter = 0 ∧ u.yardOffset = 0 ∧
        u.store = s.store ∧ (∀ p, u.run p = none) ∧ u.BlocksJudged ∧ u.ImageRestored) ∧
    (∀ good, s.phase ≠ .off → exec (.powerOn good) s = .next s.pumpTx)

/-- IMAGE_BLOCK_ERASED (R18, R198): the block is erased and the next lower one follows; after block 38 the module
runs, each line is OFF or RECOVERING with its fields at their start values, and every installed post is UNSEEN, the
records as the restore left them. At any other time the event changes nothing. That the module runs on also where the
monitor still reports loss is the model's reading (DEDUCED, log entry 28). -/
def Obligations.LastEraseStartsTheModule : Prop :=
  ∀ s : State,
    (∀ b : Fin 102, s.phase = .starting b.val → 38 < b.val →
      exec .imageBlockErased s
        = .next (State.pumpTx
            { s.putBlock b { bytes := List.replicate 256 0xFF, mark := true } with
              phase := .starting (b.val - 1) })) ∧
    (s.phase = .starting 38 → s.heldCauses = [] →
      ∃ u : State, exec .imageBlockErased s = .next u.pumpTx ∧ u.phase = .running ∧
        u.block 38 = { bytes := List.replicate 256 0xFF, mark := true } ∧
        (∀ l, u.line l
          = { state := if (s.lineConfig l).installed = 0 then .off else .recovering, misses := 0, goodRounds := 0,
              silentRounds := 0, sinceUp := none, settings := s.lineConfig l, lastStart := none, round := none }) ∧
        (∀ p, s.installed p = true →
          u.entry p = some { state := .unseen, missed := 0, lastGood := none, pluggedNoUnit := false }) ∧
        u.records = s.records ∧ u.directory = s.directory ∧ u.config = s.config) ∧
    ((∀ b, s.phase ≠ .starting b) → exec .imageBlockErased s = .next s.pumpTx)

/-! ## Output Control (R166 to R171) -/

/-- HEATER-PERMIT and DEFROST-DEMAND of a POLL (R168, R169): the permit is ON exactly while the run is COMMANDED or
HEATING, the line is UP, no CUT-HEATER action is in force and FORCE-OFF is clear; the demand exactly while the run is
COMMANDED, HEATING or SUSPENDED. Working the levels out changes no more than the output state. -/
def Obligations.PermitOnlyWhileFourHold : Prop :=
  ∀ (s : State) (p : Post) (first : Bool) (o : OutputState), s.output p = some o →
    ((s.levelsFor p first).1.permit = true ↔
      (∃ r, s.run p = some r ∧ (r.state = .commanded ∨ ∃ t, r.state = .heating t)) ∧
      (s.line (postLine p)).state = .up ∧ (s.inForce p).cut = none ∧ o.forceOff = false) ∧
    ((s.levelsFor p first).1.demand = true ↔
      ∃ r, s.run p = some r ∧
        (r.state = .commanded ∨ (∃ t, r.state = .heating t) ∨ ∃ t prior cs, r.state = .suspended t prior cs)) ∧
    (s.levelsFor p first).2 = { s with outputs := (s.levelsFor p first).2.outputs } ∧
    (∀ q, q ≠ p → (s.levelsFor p first).2.output q = s.output q)

/-- CONTACTOR and BEACON of a POLL (R167, R170, R171). On a line that is UP the contactor is OFF under FORCE-OFF, else ON
under FORCE-ON, else as requested; the beacon is OFF under FORCE-OFF, else follows the round-toggle pattern while a BEACON
action is in force, else is as requested. The first exchange of a round makes this round's toggle level absent; the pattern
with that level absent carries the next level, which becomes this round's and turns; with it present it is carried and
nothing turns; where the beacon is settled otherwise nothing turns, and a BEACON action that comes into force makes the
next level ON. On any other line CONTACTOR and BEACON are the delivered levels, or the start level and OFF, the permit is
OFF and the demand is worked out as on a line that is UP. Nothing but the toggle fields changes. -/
def Obligations.ContactorAndBeaconOfAPoll : Prop :=
  ∀ (s : State) (p : Post) (o : OutputState), s.output p = some o →
    (∀ first : Bool,
      ∃ (lv : Levels) (o' : OutputState), s.levelsFor p first = (lv, s.putOutput p (some o')) ∧
        o' = { o with nextToggle := o'.nextToggle, thisToggle := o'.thisToggle } ∧
        ((s.line (postLine p)).state = .up →
          (o.forceOff = true → lv.contactor = false ∧ lv.beacon = false) ∧
          (o.forceOff = false → lv.contactor = (o.forceOn || o.contactor)) ∧
          (o.forceOff = false → (s.inForce p).beacon = none → lv.beacon = o.beacon) ∧
          (o.forceOff = false → (s.inForce p).beacon.isSome → (first = true ∨ o.thisToggle = none) →
            lv.beacon = o.nextToggle ∧ o'.nextToggle = !o.nextToggle ∧ o'.thisToggle = some o.nextToggle) ∧
          (∀ level, o.forceOff = false → (s.inForce p).beacon.isSome → first = false → o.thisToggle = some level →
            lv.beacon = level ∧ o' = o)) ∧
        ((s.line (postLine p)).state ≠ .up →
          (∀ d, o.delivered = some d → lv.contactor = d.contactor ∧ lv.beacon = d.beacon) ∧
          (o.delivered = none → lv.contactor = s.config.startOn.get p ∧ lv.beacon = false) ∧
          lv.permit = false ∧
          (lv.demand = true ↔ ∃ r, s.run p = some r ∧ ∀ t c e, r.state ≠ .ending t c e)) ∧
        (((s.line (postLine p)).state ≠ .up ∨ o.forceOff = true ∨ (s.inForce p).beacon = none) →
          o'.nextToggle = o.nextToggle ∧ o'.thisToggle = (if first then none else o.thisToggle))) ∧
    (∀ cause, (s.inForce p).beacon = none →
      (s.applyAction p .beacon cause).output p = some { o with nextToggle := true } ∧
      ((s.applyAction p .beacon cause).inForce p).beacon = some cause) ∧
    (∀ cause, (s.inForce p).beacon.isSome → s.applyAction p .beacon cause = s)

/-! ## The Feeder Arbiter's walk (R84, R85) -/

/-- A walk (R82, R84, R85): every entry is granted once or stays once; a granted entry is eligible; the grants keep the
committed load within the capacity; what stays keeps the queue's order; and no pass count exceeds 3 or falls. Of a queue
of distinct posts with pass counts of at most 3, an entry is granted exactly when it is eligible, fits the committed load
with the grants before it, and no entry before it has ended the walk: an eligible entry left in place ends it where its
pass count stands at 3, and where a grant behind it brings the count to 3. An entry that stays gains 1 for each grant
behind it in this walk where it is eligible, and nothing where it is not. Each feeder and ENGINE-BAY, which has no
capacity, is walked so: while the module runs, a walk of its queue leaves the entries that stay and commits and creates the
runs of those granted, and changes no other queue and no other record. -/
def Obligations.WalkGrantsWithinCapacity : Prop :=
  (∀ (s : State) (q : Queue),
    (∀ f : Fin 8, q.val = f.val → s.capacityOf q = some (s.config.capacity.get f)) ∧
    (q.val = 8 → s.capacityOf q = none) ∧
    (∀ p pr, s.profileOf (s.trailer p) = some pr →
      (s.ineligible q p = none ↔
        (s.line (postLine p)).state = .up ∧ (s.entry p).map (·.state) = some .live ∧
        (q.val = 8 → pr.sender = true → 20 ≤ (s.trailer p).fuel.hours))) ∧
    (s.phase ≠ .running → s.walk q = s) ∧
    (s.phase = .running → s.GrantLaw →
      let w := walkFrom (s.capacityOf q) (fun x => (s.ineligible q x.post).isNone) (s.load q) [] (s.queue q)
      let u := s.walk q
      u.queue q = w.2 ∧ u.load q = s.load q + (w.1.map (·.load)).sum ∧
      (∀ x ∈ w.1, ∃ y, u.run x.post = some y ∧ y.cls = x.cls ∧ y.load = x.load ∧ y.queue = q ∧ y.grantTime = s.now ∧
        y.f0 = (s.trailer x.post).f ∧ (u.trailer x.post).f = (s.trailer x.post).f) ∧
      (∀ q', q' ≠ q → u.queue q' = s.queue q' ∧ u.load q' = s.load q') ∧
      (∀ p, (∀ x ∈ w.1, x.post ≠ p) → u.trailer p = s.trailer p) ∧
      u = { s with
        records := u.records, queues := u.queues, committed := u.committed, stations := u.stations
        notices := u.notices, noticesLost := u.noticesLost, tx := u.tx } ∧ TxGoesOn s u)) ∧
  ∀ (capacity : Option Nat) (eligible : Request → Bool) (committed : Nat) (queue : List Request),
    ∃ granted left, walkFrom capacity eligible committed [] queue = (granted, left) ∧
      ((granted ++ left).map (·.post)).Perm (queue.map (·.post)) ∧
      (∀ r ∈ granted, r ∈ queue ∧ eligible r = true) ∧
      (∀ c, capacity = some c → granted ≠ [] → committed + (granted.map (·.load)).sum ≤ c) ∧
      granted.Sublist queue ∧
      (left.map fun r => (r.post, r.cls, r.filed, r.load)).Sublist (queue.map fun r => (r.post, r.cls, r.filed, r.load)) ∧
      ((∀ r ∈ queue, r.passes ≤ 3) → ∀ r ∈ left, r.passes ≤ 3) ∧
      (∀ r ∈ left, ∃ r₀ ∈ queue, r₀.post = r.post ∧ r₀.passes ≤ r.passes) ∧
      ((queue.map (·.post)).Nodup → (∀ r ∈ queue, r.passes ≤ 3) →
        ∀ before e after, queue = before ++ e :: after →
          (e ∈ granted ↔
            eligible e = true ∧
            (∀ c, capacity = some c →
              committed + ((before.filter fun x => decide (x ∈ granted)).map (·.load)).sum + e.load ≤ c) ∧
            ∀ a x mid, before = a ++ x :: mid → eligible x = true → x ∉ granted →
              x.passes + (mid.filter fun y => decide (y ∈ granted)).length < 3) ∧
          (e ∉ granted →
            { e with
              passes := e.passes
                + if eligible e then (after.filter fun x => decide (x ∈ granted)).length else 0 } ∈ left))

/-! ## Frost, fuel, doors and findings (chapters 3, 6, 7 and 8) -/

/-- The frost step of an evaluation (R49, R50, R63 to R67). The first evaluation leaves F and R and only starts the clock. At
any later one, with no run, COOL and a coil below 0, the account 16 × F + R rises by exactly dt × (Kc + D) × M while F does
not saturate, dt being the seconds since the last evaluation held to 1 to 300 and Kc a tenth of the return air over the
coil, held to 0 to 200 and 0 with no return air; NULL or OFF with a coil at 20 or above melts F by dt times a tenth of the
coil, at most 20 a second; and in every other case, a run at the arrival among them, F and R stand. D counts the openings of the
door history aged to now, twice in the upper byte (R55, R56). M is from RH and Ta while the weather is at most 7200 s old,
CURRENT below 1800 s and STALE from there on, and Mdef where it is older or absent (R60). -/
def Obligations.FrostAccountIsExact : Prop :=
  ∀ (s : State) (p : Post) (rep : StatusReport) (before : AtArrival),
    let t := s.trailer p
    let u := s.frostStep p rep before
    let same := (u.trailer p).f = t.f ∧ (u.trailer p).r = t.r
    (u.trailer p).lastEval = some s.now ∧ u = { s with records := u.records } ∧
    (∀ q, q ≠ p → u.trailer q = s.trailer q) ∧
    (t.lastEval = none → same) ∧ (t.tc = none → same) ∧ (before.runExists = true → same) ∧
    (rep.mode ≠ .cool → rep.mode ≠ .null → rep.mode ≠ .off → same) ∧
    (∀ tc, t.tc = some tc → rep.mode = .cool → 0 ≤ tc → same) ∧
    (∀ tc, t.tc = some tc → (rep.mode = .null ∨ rep.mode = .off) → tc < 20 → same) ∧
    (∀ (last : Time) (tc : Int) (dt : Nat), t.lastEval = some last → t.tc = some tc → before.runExists = false →
      (dt : Int) = max 1 (min 300 (s.now - last)) →
      (rep.mode = .cool → tc < 0 →
        ∃ k d m : Nat, k ≤ 20 ∧ d ≤ 24 ∧ (t.tr = none → k = 0) ∧
          (∀ tr, t.tr = some tr → (k : Int) = max 0 (min 200 (tr - tc)) / 10) ∧
          (before.pn = none → d = 0) ∧
          (∀ n, before.pn = some n →
            let shift := (s.now / (s.config.hp : Int) - n).toNat
            d = 2 * (List.range 8).countP (fun i => before.history.getLsbD (8 + i + shift))
                  + (List.range 8).countP (fun i => before.history.getLsbD (i + shift))) ∧
          m = s.weather.moisture s.now s.config.mdef ∧
          (u.trailer p).f = min 65535 (t.f + (dt * (k + d) * m + t.r) / 16) ∧
          (u.trailer p).r = (dt * (k + d) * m + t.r) % 16 ∧
          (t.f + (dt * (k + d) * m + t.r) / 16 ≤ 65535 →
            16 * (u.trailer p).f + (u.trailer p).r = 16 * t.f + t.r + dt * (k + d) * m)) ∧
      ((rep.mode = .null ∨ rep.mode = .off) → 20 ≤ tc →
        (u.trailer p).f = t.f - dt * ((min tc 200).toNat / 10) ∧ (u.trailer p).r = t.r)) ∧
    (∀ (w : Weather) (now : Time) (mdef : Nat),
      (∀ at', w.receipt = some at' → now - at' ≤ 7200 →
        w.standing now = (if now - at' < 1800 then .current else .stale) ∧
        w.moisture now mdef = if 0 ≤ w.ta then w.rh * 16 / 100 else w.rh * 8 / 100) ∧
      ((∀ at', w.receipt = some at' → 7200 < now - at') →
        w.standing now = .default ∧ w.moisture now mdef = mdef))

/-- The level of a valid reading and the filter (R119, R120): the ends of the curve clamp, every segment that holds
the reading gives the level; the filter moves a quarter of the way to 16 × L, rounded toward where it stood, and the filtered level stays within
the curve's litres. -/
def Obligations.FuelLevelStaysOnTheCurve : Prop :=
  (∀ lf16 level : Nat,
    (lf16 ≤ 16 * level → filterStep lf16 level = lf16 + (16 * level - lf16) / 4) ∧
    (16 * level ≤ lf16 → filterStep lf16 level = lf16 - (lf16 - 16 * level) / 4) ∧
    reportedLevel lf16 = (lf16 + 8) / 16) ∧
  ∀ (pr : Profile) (x : Nat), pr.curveOk = true →
    (x < (pr.curve.get 0).1 → convert pr.curve x = (pr.curve.get 0).2) ∧
    ((pr.curve.get 8).1 < x → convert pr.curve x = (pr.curve.get 8).2) ∧
    (∀ i : Fin 8, (pr.curve.get i.castSucc).1 ≤ x → x ≤ (pr.curve.get i.succ).1 →
      convert pr.curve x = (pr.curve.get i.castSucc).2
        + (x - (pr.curve.get i.castSucc).1) * ((pr.curve.get i.succ).2 - (pr.curve.get i.castSucc).2)
          / ((pr.curve.get i.succ).1 - (pr.curve.get i.castSucc).1)) ∧
    (pr.curve.get 0).2 ≤ convert pr.curve x ∧ convert pr.curve x ≤ (pr.curve.get 8).2 ∧
    (∀ lf16, 16 * (pr.curve.get 0).2 ≤ lf16 → lf16 ≤ 16 * (pr.curve.get 8).2 →
      16 * (pr.curve.get 0).2 ≤ filterStep lf16 (convert pr.curve x) ∧
      filterStep lf16 (convert pr.curve x) ≤ 16 * (pr.curve.get 8).2 ∧
      (pr.curve.get 0).2 ≤ reportedLevel (filterStep lf16 (convert pr.curve x)) ∧
      reportedLevel (filterStep lf16 (convert pr.curve x)) ≤ (pr.curve.get 8).2)

/-- An opening (R137, R139, R144): the opening time is now, the ajar mark clear and the held state OPEN; the history
word is shifted to the period of the opening with bit 15 set, and a word already at that period or past it is
unchanged; a declared custody is BROKEN with its tag and, while the module runs, CUSTODY-BREAK stands. -/
def Obligations.OpeningMarksAndBreaks : Prop :=
  ∀ (s : State) (p : Post), let d := (s.trailer p).door; let now := s.now / (s.config.hp : Int)
    let u := s.opening p
    (u.trailer p).door.held = some .opened ∧ (u.trailer p).door.openingTime = some s.now ∧
    (u.trailer p).door.ajarReported = false ∧
    (d.pn = none → (u.trailer p).door.history = 0x8000 ∧ (u.trailer p).door.pn = some now) ∧
    (∀ n, d.pn = some n →
      (now ≤ n → (u.trailer p).door.history = d.history ∧ (u.trailer p).door.pn = some n) ∧
      (n < now → (u.trailer p).door.pn = some now ∧ (u.trailer p).door.history.getLsbD 15 = true ∧
        ∀ i < 15, (u.trailer p).door.history.getLsbD i = d.history.getLsbD (i + (now - n).toNat))) ∧
    (∀ tag, (s.trailer p).custody = .closed tag →
      (u.trailer p).custody = .broken tag ∧ (s.phase = .running → (u.trailer p).stands .custodyBreak = true)) ∧
    ((∀ tag, (s.trailer p).custody ≠ .closed tag) → (u.trailer p).custody = (s.trailer p).custody) ∧
    OutsideSame s u ∧ NoRebuild s u ∧ OtherPostsSame p s u

/-- Producing a finding (R147, R149, R150, R157, R158): a class that stands, or a restart that has begun, drops it
whole; else with its mask entry clear it is only noted, with an item FINDING-NOTED of cause 0 (R110, where the worked
case of 8.6 differs: the model's reading, DEDUCED, log entry 44) and no push number drawn; else it is raised,
with a frame on the stack that carries the next push number, which then rises by 1, from 65535 to 1, the class active with
that number, its action in force, and an item FINDING-RAISED last. Where INHIBIT-DEFROST comes into force over a run that
is not ENDING, that run enters ENDING as ABORTED(INHIBIT) and records that the abort came from the action; its DEFROST-ABORTED
is produced before that item, with the first frame as its cause where it is raised, and the run's link is that frame's number,
or that of DEFROST-ABORTED where this is raised (R107, R110). -/
def Obligations.FindingIsDroppedNotedOrRaised : Prop :=
  ∀ (s : State) (p : Post) (c : FindingClass) (detail cause : Nat),
    ((s.phase ≠ .running ∨ (s.trailer p).stands c = true) → s.produce p c detail cause = s) ∧
    (s.phase = .running → (s.trailer p).stands c = false → (s.trailer p).mask.getLsbD c.num = false →
      c ≠ .custodyBreak →
      ((s.produce p c detail cause).trailer p).notedOf c = some { cls := c, detail := detail } ∧
      ((s.produce p c detail cause).trailer p).active = (s.trailer p).active ∧
      (∀ q, q ≠ p → (s.produce p c detail cause).trailer q = s.trailer q) ∧
      s.produce p c detail cause = { s with
        records := (s.produce p c detail cause).records, stations := (s.produce p c detail cause).stations
        notices := (s.produce p c detail cause).notices, noticesLost := (s.produce p c detail cause).noticesLost
        tx := (s.produce p c detail cause).tx } ∧ TxGoesOn s (s.produce p c detail cause) ∧
      SameNotices (s.item p (.findingNoted c (s.tableEntry c).severity detail 0)) (s.produce p c detail cause)) ∧
    (s.phase = .running → (s.trailer p).stands c = false →
      ((s.trailer p).mask.getLsbD c.num = true ∨ c = .custodyBreak) →
      ((s.produce p c detail cause).trailer p).activeOf c
        = some { cls := c, detail := detail, push := some s.nextPush } ∧
      { push := s.nextPush, cls := c, post := p, yardTime := s.yardNow, detail := detail, cause := cause,
        truncated := false } ∈ (s.produce p c detail cause).stack ∧
      ((s.tableEntry c).action ≠ .none →
        (((s.produce p c detail cause).inForce p).of (s.tableEntry c).action).isSome) ∧
      (s.StackLaw → (s.produce p c detail cause).StackLaw ∧
        (s.stack.length = 8 → ∃ f, (s.produce p c detail cause).stack.getLast? = some f ∧ f.truncated = true)) ∧
      (let u := s.produce p c detail cause
       let k := FindingClass.defrostAborted
       let after (n : Nat) : Nat := if n = 65535 then 1 else n + 1
       let raised := ItemBody.findingRaised c (s.tableEntry c).severity detail s.nextPush cause
       let aborts : Prop := (s.tableEntry c).action = .inhibitDefrost ∧ (s.inForce p).inhibit = none ∧
         ∃ x, s.run p = some x ∧ ∀ t o seen, x.state ≠ .ending t o seen
       let drops : Prop := c = k ∨ (s.trailer p).stands k = true
       let ends (link : Nat) : Prop := ∃ y, u.run p = some y ∧ y.state = .ending s.now (.aborted .inhibit) false ∧
         y.byAction = true ∧ y.link = some link
       (¬ (aborts ∧ ¬ drops) → SameNotices (s.item p raised) u ∧ u.nextPush = after s.nextPush) ∧
       (aborts → drops → 0 < s.nextPush → ends s.nextPush) ∧
       (aborts → ¬ drops → 0 < s.nextPush → (s.trailer p).mask.getLsbD k.num = false → ends s.nextPush ∧
         SameNotices ((s.item p (.findingNoted k (s.tableEntry k).severity 5 0)).item p raised) u ∧
           u.nextPush = after s.nextPush) ∧
       (aborts → ¬ drops → 0 < s.nextPush → (s.trailer p).mask.getLsbD k.num = true → ends (after s.nextPush) ∧
         SameNotices
           ((s.item p (.findingRaised k (s.tableEntry k).severity 5 (after s.nextPush) s.nextPush)).item p raised) u ∧
           u.nextPush = after (after s.nextPush))) ∧
      OutsideSame s (s.produce p c detail cause) ∧ NoRebuild s (s.produce p c detail cause) ∧
      OtherPostsSame p s (s.produce p c detail cause))
end

