-- ==== Sys2Proof/Laws/State.lean ====
section
/-! SUPPORT. One lemma for each field and each update of State: an update leaves every other field as it stands. -/

namespace Sys2Proof.Machine

/-! ## putTrailer -/

@[simp] theorem State.putTrailer_runCounter (s : State) (p : Post) (r : TrailerRecord) : (s.putTrailer p r).runCounter = s.runCounter := rfl
@[simp] theorem State.putTrailer_yardOffset (s : State) (p : Post) (r : TrailerRecord) : (s.putTrailer p r).yardOffset = s.yardOffset := rfl
@[simp] theorem State.putTrailer_clockInvalid (s : State) (p : Post) (r : TrailerRecord) : (s.putTrailer p r).clockInvalid = s.clockInvalid := rfl
@[simp] theorem State.putTrailer_keySwitch (s : State) (p : Post) (r : TrailerRecord) : (s.putTrailer p r).keySwitch = s.keySwitch := rfl
@[simp] theorem State.putTrailer_rateSwitch (s : State) (p : Post) (r : TrailerRecord) : (s.putTrailer p r).rateSwitch = s.rateSwitch := rfl
@[simp] theorem State.putTrailer_rate (s : State) (p : Post) (r : TrailerRecord) : (s.putTrailer p r).rate = s.rate := rfl
@[simp] theorem State.putTrailer_mainsPresent (s : State) (p : Post) (r : TrailerRecord) : (s.putTrailer p r).mainsPresent = s.mainsPresent := rfl
@[simp] theorem State.putTrailer_store (s : State) (p : Post) (r : TrailerRecord) : (s.putTrailer p r).store = s.store := rfl
@[simp] theorem State.putTrailer_invalidBlocks (s : State) (p : Post) (r : TrailerRecord) : (s.putTrailer p r).invalidBlocks = s.invalidBlocks := rfl
@[simp] theorem State.putTrailer_asFactory (s : State) (p : Post) (r : TrailerRecord) : (s.putTrailer p r).asFactory = s.asFactory := rfl
@[simp] theorem State.putTrailer_write (s : State) (p : Post) (r : TrailerRecord) : (s.putTrailer p r).write = s.write := rfl
@[simp] theorem State.putTrailer_config (s : State) (p : Post) (r : TrailerRecord) : (s.putTrailer p r).config = s.config := rfl
@[simp] theorem State.putTrailer_phase (s : State) (p : Post) (r : TrailerRecord) : (s.putTrailer p r).phase = s.phase := rfl
@[simp] theorem State.putTrailer_restartRecord (s : State) (p : Post) (r : TrailerRecord) : (s.putTrailer p r).restartRecord = s.restartRecord := rfl
@[simp] theorem State.putTrailer_startPrimary (s : State) (p : Post) (r : TrailerRecord) : (s.putTrailer p r).startPrimary = s.startPrimary := rfl
@[simp] theorem State.putTrailer_startSecondary (s : State) (p : Post) (r : TrailerRecord) : (s.putTrailer p r).startSecondary = s.startSecondary := rfl
@[simp] theorem State.putTrailer_imageNumber (s : State) (p : Post) (r : TrailerRecord) : (s.putTrailer p r).imageNumber = s.imageNumber := rfl
@[simp] theorem State.putTrailer_heldCauses (s : State) (p : Post) (r : TrailerRecord) : (s.putTrailer p r).heldCauses = s.heldCauses := rfl
@[simp] theorem State.putTrailer_lineA (s : State) (p : Post) (r : TrailerRecord) : (s.putTrailer p r).lineA = s.lineA := rfl
@[simp] theorem State.putTrailer_lineB (s : State) (p : Post) (r : TrailerRecord) : (s.putTrailer p r).lineB = s.lineB := rfl
@[simp] theorem State.putTrailer_posts (s : State) (p : Post) (r : TrailerRecord) : (s.putTrailer p r).posts = s.posts := rfl
@[simp] theorem State.putTrailer_outputs (s : State) (p : Post) (r : TrailerRecord) : (s.putTrailer p r).outputs = s.outputs := rfl
@[simp] theorem State.putTrailer_directory (s : State) (p : Post) (r : TrailerRecord) : (s.putTrailer p r).directory = s.directory := rfl
@[simp] theorem State.putTrailer_rebuilds (s : State) (p : Post) (r : TrailerRecord) : (s.putTrailer p r).rebuilds = s.rebuilds := rfl
@[simp] theorem State.putTrailer_weather (s : State) (p : Post) (r : TrailerRecord) : (s.putTrailer p r).weather = s.weather := rfl
@[simp] theorem State.putTrailer_queues (s : State) (p : Post) (r : TrailerRecord) : (s.putTrailer p r).queues = s.queues := rfl
@[simp] theorem State.putTrailer_committed (s : State) (p : Post) (r : TrailerRecord) : (s.putTrailer p r).committed = s.committed := rfl
@[simp] theorem State.putTrailer_actions (s : State) (p : Post) (r : TrailerRecord) : (s.putTrailer p r).actions = s.actions := rfl
@[simp] theorem State.putTrailer_stack (s : State) (p : Post) (r : TrailerRecord) : (s.putTrailer p r).stack = s.stack := rfl
@[simp] theorem State.putTrailer_nextPush (s : State) (p : Post) (r : TrailerRecord) : (s.putTrailer p r).nextPush = s.nextPush := rfl
@[simp] theorem State.putTrailer_rx (s : State) (p : Post) (r : TrailerRecord) : (s.putTrailer p r).rx = s.rx := rfl
@[simp] theorem State.putTrailer_discardedFrames (s : State) (p : Post) (r : TrailerRecord) : (s.putTrailer p r).discardedFrames = s.discardedFrames := rfl
@[simp] theorem State.putTrailer_overruns (s : State) (p : Post) (r : TrailerRecord) : (s.putTrailer p r).overruns = s.overruns := rfl
@[simp] theorem State.putTrailer_held (s : State) (p : Post) (r : TrailerRecord) : (s.putTrailer p r).held = s.held := rfl
@[simp] theorem State.putTrailer_replies (s : State) (p : Post) (r : TrailerRecord) : (s.putTrailer p r).replies = s.replies := rfl
@[simp] theorem State.putTrailer_tx (s : State) (p : Post) (r : TrailerRecord) : (s.putTrailer p r).tx = s.tx := rfl
@[simp] theorem State.putTrailer_stations (s : State) (p : Post) (r : TrailerRecord) : (s.putTrailer p r).stations = s.stations := rfl
@[simp] theorem State.putTrailer_notices (s : State) (p : Post) (r : TrailerRecord) : (s.putTrailer p r).notices = s.notices := rfl
@[simp] theorem State.putTrailer_noticesLost (s : State) (p : Post) (r : TrailerRecord) : (s.putTrailer p r).noticesLost = s.noticesLost := rfl
@[simp] theorem State.putTrailer_freeCount (s : State) (p : Post) (r : TrailerRecord) : (s.putTrailer p r).freeCount = s.freeCount := rfl
@[simp] theorem State.putTrailer_pending (s : State) (p : Post) (r : TrailerRecord) : (s.putTrailer p r).pending = s.pending := rfl

/-! ## putEntry -/

@[simp] theorem State.putEntry_runCounter (s : State) (p : Post) (e : Option PostEntry) : (s.putEntry p e).runCounter = s.runCounter := rfl
@[simp] theorem State.putEntry_yardOffset (s : State) (p : Post) (e : Option PostEntry) : (s.putEntry p e).yardOffset = s.yardOffset := rfl
@[simp] theorem State.putEntry_clockInvalid (s : State) (p : Post) (e : Option PostEntry) : (s.putEntry p e).clockInvalid = s.clockInvalid := rfl
@[simp] theorem State.putEntry_keySwitch (s : State) (p : Post) (e : Option PostEntry) : (s.putEntry p e).keySwitch = s.keySwitch := rfl
@[simp] theorem State.putEntry_rateSwitch (s : State) (p : Post) (e : Option PostEntry) : (s.putEntry p e).rateSwitch = s.rateSwitch := rfl
@[simp] theorem State.putEntry_rate (s : State) (p : Post) (e : Option PostEntry) : (s.putEntry p e).rate = s.rate := rfl
@[simp] theorem State.putEntry_mainsPresent (s : State) (p : Post) (e : Option PostEntry) : (s.putEntry p e).mainsPresent = s.mainsPresent := rfl
@[simp] theorem State.putEntry_store (s : State) (p : Post) (e : Option PostEntry) : (s.putEntry p e).store = s.store := rfl
@[simp] theorem State.putEntry_invalidBlocks (s : State) (p : Post) (e : Option PostEntry) : (s.putEntry p e).invalidBlocks = s.invalidBlocks := rfl
@[simp] theorem State.putEntry_asFactory (s : State) (p : Post) (e : Option PostEntry) : (s.putEntry p e).asFactory = s.asFactory := rfl
@[simp] theorem State.putEntry_write (s : State) (p : Post) (e : Option PostEntry) : (s.putEntry p e).write = s.write := rfl
@[simp] theorem State.putEntry_config (s : State) (p : Post) (e : Option PostEntry) : (s.putEntry p e).config = s.config := rfl
@[simp] theorem State.putEntry_phase (s : State) (p : Post) (e : Option PostEntry) : (s.putEntry p e).phase = s.phase := rfl
@[simp] theorem State.putEntry_restartRecord (s : State) (p : Post) (e : Option PostEntry) : (s.putEntry p e).restartRecord = s.restartRecord := rfl
@[simp] theorem State.putEntry_startPrimary (s : State) (p : Post) (e : Option PostEntry) : (s.putEntry p e).startPrimary = s.startPrimary := rfl
@[simp] theorem State.putEntry_startSecondary (s : State) (p : Post) (e : Option PostEntry) : (s.putEntry p e).startSecondary = s.startSecondary := rfl
@[simp] theorem State.putEntry_imageNumber (s : State) (p : Post) (e : Option PostEntry) : (s.putEntry p e).imageNumber = s.imageNumber := rfl
@[simp] theorem State.putEntry_heldCauses (s : State) (p : Post) (e : Option PostEntry) : (s.putEntry p e).heldCauses = s.heldCauses := rfl
@[simp] theorem State.putEntry_lineA (s : State) (p : Post) (e : Option PostEntry) : (s.putEntry p e).lineA = s.lineA := rfl
@[simp] theorem State.putEntry_lineB (s : State) (p : Post) (e : Option PostEntry) : (s.putEntry p e).lineB = s.lineB := rfl
@[simp] theorem State.putEntry_outputs (s : State) (p : Post) (e : Option PostEntry) : (s.putEntry p e).outputs = s.outputs := rfl
@[simp] theorem State.putEntry_records (s : State) (p : Post) (e : Option PostEntry) : (s.putEntry p e).records = s.records := rfl
@[simp] theorem State.putEntry_directory (s : State) (p : Post) (e : Option PostEntry) : (s.putEntry p e).directory = s.directory := rfl
@[simp] theorem State.putEntry_rebuilds (s : State) (p : Post) (e : Option PostEntry) : (s.putEntry p e).rebuilds = s.rebuilds := rfl
@[simp] theorem State.putEntry_weather (s : State) (p : Post) (e : Option PostEntry) : (s.putEntry p e).weather = s.weather := rfl
@[simp] theorem State.putEntry_queues (s : State) (p : Post) (e : Option PostEntry) : (s.putEntry p e).queues = s.queues := rfl
@[simp] theorem State.putEntry_committed (s : State) (p : Post) (e : Option PostEntry) : (s.putEntry p e).committed = s.committed := rfl
@[simp] theorem State.putEntry_actions (s : State) (p : Post) (e : Option PostEntry) : (s.putEntry p e).actions = s.actions := rfl
@[simp] theorem State.putEntry_stack (s : State) (p : Post) (e : Option PostEntry) : (s.putEntry p e).stack = s.stack := rfl
@[simp] theorem State.putEntry_nextPush (s : State) (p : Post) (e : Option PostEntry) : (s.putEntry p e).nextPush = s.nextPush := rfl
@[simp] theorem State.putEntry_rx (s : State) (p : Post) (e : Option PostEntry) : (s.putEntry p e).rx = s.rx := rfl
@[simp] theorem State.putEntry_discardedFrames (s : State) (p : Post) (e : Option PostEntry) : (s.putEntry p e).discardedFrames = s.discardedFrames := rfl
@[simp] theorem State.putEntry_overruns (s : State) (p : Post) (e : Option PostEntry) : (s.putEntry p e).overruns = s.overruns := rfl
@[simp] theorem State.putEntry_held (s : State) (p : Post) (e : Option PostEntry) : (s.putEntry p e).held = s.held := rfl
@[simp] theorem State.putEntry_replies (s : State) (p : Post) (e : Option PostEntry) : (s.putEntry p e).replies = s.replies := rfl
@[simp] theorem State.putEntry_tx (s : State) (p : Post) (e : Option PostEntry) : (s.putEntry p e).tx = s.tx := rfl
@[simp] theorem State.putEntry_stations (s : State) (p : Post) (e : Option PostEntry) : (s.putEntry p e).stations = s.stations := rfl
@[simp] theorem State.putEntry_notices (s : State) (p : Post) (e : Option PostEntry) : (s.putEntry p e).notices = s.notices := rfl
@[simp] theorem State.putEntry_noticesLost (s : State) (p : Post) (e : Option PostEntry) : (s.putEntry p e).noticesLost = s.noticesLost := rfl
@[simp] theorem State.putEntry_freeCount (s : State) (p : Post) (e : Option PostEntry) : (s.putEntry p e).freeCount = s.freeCount := rfl
@[simp] theorem State.putEntry_pending (s : State) (p : Post) (e : Option PostEntry) : (s.putEntry p e).pending = s.pending := rfl

/-! ## putOutput -/

@[simp] theorem State.putOutput_runCounter (s : State) (p : Post) (o : Option OutputState) : (s.putOutput p o).runCounter = s.runCounter := rfl
@[simp] theorem State.putOutput_yardOffset (s : State) (p : Post) (o : Option OutputState) : (s.putOutput p o).yardOffset = s.yardOffset := rfl
@[simp] theorem State.putOutput_clockInvalid (s : State) (p : Post) (o : Option OutputState) : (s.putOutput p o).clockInvalid = s.clockInvalid := rfl
@[simp] theorem State.putOutput_keySwitch (s : State) (p : Post) (o : Option OutputState) : (s.putOutput p o).keySwitch = s.keySwitch := rfl
@[simp] theorem State.putOutput_rateSwitch (s : State) (p : Post) (o : Option OutputState) : (s.putOutput p o).rateSwitch = s.rateSwitch := rfl
@[simp] theorem State.putOutput_rate (s : State) (p : Post) (o : Option OutputState) : (s.putOutput p o).rate = s.rate := rfl
@[simp] theorem State.putOutput_mainsPresent (s : State) (p : Post) (o : Option OutputState) : (s.putOutput p o).mainsPresent = s.mainsPresent := rfl
@[simp] theorem State.putOutput_store (s : State) (p : Post) (o : Option OutputState) : (s.putOutput p o).store = s.store := rfl
@[simp] theorem State.putOutput_invalidBlocks (s : State) (p : Post) (o : Option OutputState) : (s.putOutput p o).invalidBlocks = s.invalidBlocks := rfl
@[simp] theorem State.putOutput_asFactory (s : State) (p : Post) (o : Option OutputState) : (s.putOutput p o).asFactory = s.asFactory := rfl
@[simp] theorem State.putOutput_write (s : State) (p : Post) (o : Option OutputState) : (s.putOutput p o).write = s.write := rfl
@[simp] theorem State.putOutput_config (s : State) (p : Post) (o : Option OutputState) : (s.putOutput p o).config = s.config := rfl
@[simp] theorem State.putOutput_phase (s : State) (p : Post) (o : Option OutputState) : (s.putOutput p o).phase = s.phase := rfl
@[simp] theorem State.putOutput_restartRecord (s : State) (p : Post) (o : Option OutputState) : (s.putOutput p o).restartRecord = s.restartRecord := rfl
@[simp] theorem State.putOutput_startPrimary (s : State) (p : Post) (o : Option OutputState) : (s.putOutput p o).startPrimary = s.startPrimary := rfl
@[simp] theorem State.putOutput_startSecondary (s : State) (p : Post) (o : Option OutputState) : (s.putOutput p o).startSecondary = s.startSecondary := rfl
@[simp] theorem State.putOutput_imageNumber (s : State) (p : Post) (o : Option OutputState) : (s.putOutput p o).imageNumber = s.imageNumber := rfl
@[simp] theorem State.putOutput_heldCauses (s : State) (p : Post) (o : Option OutputState) : (s.putOutput p o).heldCauses = s.heldCauses := rfl
@[simp] theorem State.putOutput_lineA (s : State) (p : Post) (o : Option OutputState) : (s.putOutput p o).lineA = s.lineA := rfl
@[simp] theorem State.putOutput_lineB (s : State) (p : Post) (o : Option OutputState) : (s.putOutput p o).lineB = s.lineB := rfl
@[simp] theorem State.putOutput_posts (s : State) (p : Post) (o : Option OutputState) : (s.putOutput p o).posts = s.posts := rfl
@[simp] theorem State.putOutput_records (s : State) (p : Post) (o : Option OutputState) : (s.putOutput p o).records = s.records := rfl
@[simp] theorem State.putOutput_directory (s : State) (p : Post) (o : Option OutputState) : (s.putOutput p o).directory = s.directory := rfl
@[simp] theorem State.putOutput_rebuilds (s : State) (p : Post) (o : Option OutputState) : (s.putOutput p o).rebuilds = s.rebuilds := rfl
@[simp] theorem State.putOutput_weather (s : State) (p : Post) (o : Option OutputState) : (s.putOutput p o).weather = s.weather := rfl
@[simp] theorem State.putOutput_queues (s : State) (p : Post) (o : Option OutputState) : (s.putOutput p o).queues = s.queues := rfl
@[simp] theorem State.putOutput_committed (s : State) (p : Post) (o : Option OutputState) : (s.putOutput p o).committed = s.committed := rfl
@[simp] theorem State.putOutput_actions (s : State) (p : Post) (o : Option OutputState) : (s.putOutput p o).actions = s.actions := rfl
@[simp] theorem State.putOutput_stack (s : State) (p : Post) (o : Option OutputState) : (s.putOutput p o).stack = s.stack := rfl
@[simp] theorem State.putOutput_nextPush (s : State) (p : Post) (o : Option OutputState) : (s.putOutput p o).nextPush = s.nextPush := rfl
@[simp] theorem State.putOutput_rx (s : State) (p : Post) (o : Option OutputState) : (s.putOutput p o).rx = s.rx := rfl
@[simp] theorem State.putOutput_discardedFrames (s : State) (p : Post) (o : Option OutputState) : (s.putOutput p o).discardedFrames = s.discardedFrames := rfl
@[simp] theorem State.putOutput_overruns (s : State) (p : Post) (o : Option OutputState) : (s.putOutput p o).overruns = s.overruns := rfl
@[simp] theorem State.putOutput_held (s : State) (p : Post) (o : Option OutputState) : (s.putOutput p o).held = s.held := rfl
@[simp] theorem State.putOutput_replies (s : State) (p : Post) (o : Option OutputState) : (s.putOutput p o).replies = s.replies := rfl
@[simp] theorem State.putOutput_tx (s : State) (p : Post) (o : Option OutputState) : (s.putOutput p o).tx = s.tx := rfl
@[simp] theorem State.putOutput_stations (s : State) (p : Post) (o : Option OutputState) : (s.putOutput p o).stations = s.stations := rfl
@[simp] theorem State.putOutput_notices (s : State) (p : Post) (o : Option OutputState) : (s.putOutput p o).notices = s.notices := rfl
@[simp] theorem State.putOutput_noticesLost (s : State) (p : Post) (o : Option OutputState) : (s.putOutput p o).noticesLost = s.noticesLost := rfl
@[simp] theorem State.putOutput_freeCount (s : State) (p : Post) (o : Option OutputState) : (s.putOutput p o).freeCount = s.freeCount := rfl
@[simp] theorem State.putOutput_pending (s : State) (p : Post) (o : Option OutputState) : (s.putOutput p o).pending = s.pending := rfl

/-! ## putInForce -/

@[simp] theorem State.putInForce_runCounter (s : State) (p : Post) (a : ActionsInForce) : (s.putInForce p a).runCounter = s.runCounter := rfl
@[simp] theorem State.putInForce_yardOffset (s : State) (p : Post) (a : ActionsInForce) : (s.putInForce p a).yardOffset = s.yardOffset := rfl
@[simp] theorem State.putInForce_clockInvalid (s : State) (p : Post) (a : ActionsInForce) : (s.putInForce p a).clockInvalid = s.clockInvalid := rfl
@[simp] theorem State.putInForce_keySwitch (s : State) (p : Post) (a : ActionsInForce) : (s.putInForce p a).keySwitch = s.keySwitch := rfl
@[simp] theorem State.putInForce_rateSwitch (s : State) (p : Post) (a : ActionsInForce) : (s.putInForce p a).rateSwitch = s.rateSwitch := rfl
@[simp] theorem State.putInForce_rate (s : State) (p : Post) (a : ActionsInForce) : (s.putInForce p a).rate = s.rate := rfl
@[simp] theorem State.putInForce_mainsPresent (s : State) (p : Post) (a : ActionsInForce) : (s.putInForce p a).mainsPresent = s.mainsPresent := rfl
@[simp] theorem State.putInForce_store (s : State) (p : Post) (a : ActionsInForce) : (s.putInForce p a).store = s.store := rfl
@[simp] theorem State.putInForce_invalidBlocks (s : State) (p : Post) (a : ActionsInForce) : (s.putInForce p a).invalidBlocks = s.invalidBlocks := rfl
@[simp] theorem State.putInForce_asFactory (s : State) (p : Post) (a : ActionsInForce) : (s.putInForce p a).asFactory = s.asFactory := rfl
@[simp] theorem State.putInForce_write (s : State) (p : Post) (a : ActionsInForce) : (s.putInForce p a).write = s.write := rfl
@[simp] theorem State.putInForce_config (s : State) (p : Post) (a : ActionsInForce) : (s.putInForce p a).config = s.config := rfl
@[simp] theorem State.putInForce_phase (s : State) (p : Post) (a : ActionsInForce) : (s.putInForce p a).phase = s.phase := rfl
@[simp] theorem State.putInForce_restartRecord (s : State) (p : Post) (a : ActionsInForce) : (s.putInForce p a).restartRecord = s.restartRecord := rfl
@[simp] theorem State.putInForce_startPrimary (s : State) (p : Post) (a : ActionsInForce) : (s.putInForce p a).startPrimary = s.startPrimary := rfl
@[simp] theorem State.putInForce_startSecondary (s : State) (p : Post) (a : ActionsInForce) : (s.putInForce p a).startSecondary = s.startSecondary := rfl
@[simp] theorem State.putInForce_imageNumber (s : State) (p : Post) (a : ActionsInForce) : (s.putInForce p a).imageNumber = s.imageNumber := rfl
@[simp] theorem State.putInForce_heldCauses (s : State) (p : Post) (a : ActionsInForce) : (s.putInForce p a).heldCauses = s.heldCauses := rfl
@[simp] theorem State.putInForce_lineA (s : State) (p : Post) (a : ActionsInForce) : (s.putInForce p a).lineA = s.lineA := rfl
@[simp] theorem State.putInForce_lineB (s : State) (p : Post) (a : ActionsInForce) : (s.putInForce p a).lineB = s.lineB := rfl
@[simp] theorem State.putInForce_posts (s : State) (p : Post) (a : ActionsInForce) : (s.putInForce p a).posts = s.posts := rfl
@[simp] theorem State.putInForce_outputs (s : State) (p : Post) (a : ActionsInForce) : (s.putInForce p a).outputs = s.outputs := rfl
@[simp] theorem State.putInForce_records (s : State) (p : Post) (a : ActionsInForce) : (s.putInForce p a).records = s.records := rfl
@[simp] theorem State.putInForce_directory (s : State) (p : Post) (a : ActionsInForce) : (s.putInForce p a).directory = s.directory := rfl
@[simp] theorem State.putInForce_rebuilds (s : State) (p : Post) (a : ActionsInForce) : (s.putInForce p a).rebuilds = s.rebuilds := rfl
@[simp] theorem State.putInForce_weather (s : State) (p : Post) (a : ActionsInForce) : (s.putInForce p a).weather = s.weather := rfl
@[simp] theorem State.putInForce_queues (s : State) (p : Post) (a : ActionsInForce) : (s.putInForce p a).queues = s.queues := rfl
@[simp] theorem State.putInForce_committed (s : State) (p : Post) (a : ActionsInForce) : (s.putInForce p a).committed = s.committed := rfl
@[simp] theorem State.putInForce_stack (s : State) (p : Post) (a : ActionsInForce) : (s.putInForce p a).stack = s.stack := rfl
@[simp] theorem State.putInForce_nextPush (s : State) (p : Post) (a : ActionsInForce) : (s.putInForce p a).nextPush = s.nextPush := rfl
@[simp] theorem State.putInForce_rx (s : State) (p : Post) (a : ActionsInForce) : (s.putInForce p a).rx = s.rx := rfl
@[simp] theorem State.putInForce_discardedFrames (s : State) (p : Post) (a : ActionsInForce) : (s.putInForce p a).discardedFrames = s.discardedFrames := rfl
@[simp] theorem State.putInForce_overruns (s : State) (p : Post) (a : ActionsInForce) : (s.putInForce p a).overruns = s.overruns := rfl
@[simp] theorem State.putInForce_held (s : State) (p : Post) (a : ActionsInForce) : (s.putInForce p a).held = s.held := rfl
@[simp] theorem State.putInForce_replies (s : State) (p : Post) (a : ActionsInForce) : (s.putInForce p a).replies = s.replies := rfl
@[simp] theorem State.putInForce_tx (s : State) (p : Post) (a : ActionsInForce) : (s.putInForce p a).tx = s.tx := rfl
@[simp] theorem State.putInForce_stations (s : State) (p : Post) (a : ActionsInForce) : (s.putInForce p a).stations = s.stations := rfl
@[simp] theorem State.putInForce_notices (s : State) (p : Post) (a : ActionsInForce) : (s.putInForce p a).notices = s.notices := rfl
@[simp] theorem State.putInForce_noticesLost (s : State) (p : Post) (a : ActionsInForce) : (s.putInForce p a).noticesLost = s.noticesLost := rfl
@[simp] theorem State.putInForce_freeCount (s : State) (p : Post) (a : ActionsInForce) : (s.putInForce p a).freeCount = s.freeCount := rfl
@[simp] theorem State.putInForce_pending (s : State) (p : Post) (a : ActionsInForce) : (s.putInForce p a).pending = s.pending := rfl

/-! ## putQueue -/

@[simp] theorem State.putQueue_runCounter (s : State) (q : Queue) (rs : List Request) : (s.putQueue q rs).runCounter = s.runCounter := rfl
@[simp] theorem State.putQueue_yardOffset (s : State) (q : Queue) (rs : List Request) : (s.putQueue q rs).yardOffset = s.yardOffset := rfl
@[simp] theorem State.putQueue_clockInvalid (s : State) (q : Queue) (rs : List Request) : (s.putQueue q rs).clockInvalid = s.clockInvalid := rfl
@[simp] theorem State.putQueue_keySwitch (s : State) (q : Queue) (rs : List Request) : (s.putQueue q rs).keySwitch = s.keySwitch := rfl
@[simp] theorem State.putQueue_rateSwitch (s : State) (q : Queue) (rs : List Request) : (s.putQueue q rs).rateSwitch = s.rateSwitch := rfl
@[simp] theorem State.putQueue_rate (s : State) (q : Queue) (rs : List Request) : (s.putQueue q rs).rate = s.rate := rfl
@[simp] theorem State.putQueue_mainsPresent (s : State) (q : Queue) (rs : List Request) : (s.putQueue q rs).mainsPresent = s.mainsPresent := rfl
@[simp] theorem State.putQueue_store (s : State) (q : Queue) (rs : List Request) : (s.putQueue q rs).store = s.store := rfl
@[simp] theorem State.putQueue_invalidBlocks (s : State) (q : Queue) (rs : List Request) : (s.putQueue q rs).invalidBlocks = s.invalidBlocks := rfl
@[simp] theorem State.putQueue_asFactory (s : State) (q : Queue) (rs : List Request) : (s.putQueue q rs).asFactory = s.asFactory := rfl
@[simp] theorem State.putQueue_write (s : State) (q : Queue) (rs : List Request) : (s.putQueue q rs).write = s.write := rfl
@[simp] theorem State.putQueue_config (s : State) (q : Queue) (rs : List Request) : (s.putQueue q rs).config = s.config := rfl
@[simp] theorem State.putQueue_phase (s : State) (q : Queue) (rs : List Request) : (s.putQueue q rs).phase = s.phase := rfl
@[simp] theorem State.putQueue_restartRecord (s : State) (q : Queue) (rs : List Request) : (s.putQueue q rs).restartRecord = s.restartRecord := rfl
@[simp] theorem State.putQueue_startPrimary (s : State) (q : Queue) (rs : List Request) : (s.putQueue q rs).startPrimary = s.startPrimary := rfl
@[simp] theorem State.putQueue_startSecondary (s : State) (q : Queue) (rs : List Request) : (s.putQueue q rs).startSecondary = s.startSecondary := rfl
@[simp] theorem State.putQueue_imageNumber (s : State) (q : Queue) (rs : List Request) : (s.putQueue q rs).imageNumber = s.imageNumber := rfl
@[simp] theorem State.putQueue_heldCauses (s : State) (q : Queue) (rs : List Request) : (s.putQueue q rs).heldCauses = s.heldCauses := rfl
@[simp] theorem State.putQueue_lineA (s : State) (q : Queue) (rs : List Request) : (s.putQueue q rs).lineA = s.lineA := rfl
@[simp] theorem State.putQueue_lineB (s : State) (q : Queue) (rs : List Request) : (s.putQueue q rs).lineB = s.lineB := rfl
@[simp] theorem State.putQueue_posts (s : State) (q : Queue) (rs : List Request) : (s.putQueue q rs).posts = s.posts := rfl
@[simp] theorem State.putQueue_outputs (s : State) (q : Queue) (rs : List Request) : (s.putQueue q rs).outputs = s.outputs := rfl
@[simp] theorem State.putQueue_records (s : State) (q : Queue) (rs : List Request) : (s.putQueue q rs).records = s.records := rfl
@[simp] theorem State.putQueue_directory (s : State) (q : Queue) (rs : List Request) : (s.putQueue q rs).directory = s.directory := rfl
@[simp] theorem State.putQueue_rebuilds (s : State) (q : Queue) (rs : List Request) : (s.putQueue q rs).rebuilds = s.rebuilds := rfl
@[simp] theorem State.putQueue_weather (s : State) (q : Queue) (rs : List Request) : (s.putQueue q rs).weather = s.weather := rfl
@[simp] theorem State.putQueue_committed (s : State) (q : Queue) (rs : List Request) : (s.putQueue q rs).committed = s.committed := rfl
@[simp] theorem State.putQueue_actions (s : State) (q : Queue) (rs : List Request) : (s.putQueue q rs).actions = s.actions := rfl
@[simp] theorem State.putQueue_stack (s : State) (q : Queue) (rs : List Request) : (s.putQueue q rs).stack = s.stack := rfl
@[simp] theorem State.putQueue_nextPush (s : State) (q : Queue) (rs : List Request) : (s.putQueue q rs).nextPush = s.nextPush := rfl
@[simp] theorem State.putQueue_rx (s : State) (q : Queue) (rs : List Request) : (s.putQueue q rs).rx = s.rx := rfl
@[simp] theorem State.putQueue_discardedFrames (s : State) (q : Queue) (rs : List Request) : (s.putQueue q rs).discardedFrames = s.discardedFrames := rfl
@[simp] theorem State.putQueue_overruns (s : State) (q : Queue) (rs : List Request) : (s.putQueue q rs).overruns = s.overruns := rfl
@[simp] theorem State.putQueue_held (s : State) (q : Queue) (rs : List Request) : (s.putQueue q rs).held = s.held := rfl
@[simp] theorem State.putQueue_replies (s : State) (q : Queue) (rs : List Request) : (s.putQueue q rs).replies = s.replies := rfl
@[simp] theorem State.putQueue_tx (s : State) (q : Queue) (rs : List Request) : (s.putQueue q rs).tx = s.tx := rfl
@[simp] theorem State.putQueue_stations (s : State) (q : Queue) (rs : List Request) : (s.putQueue q rs).stations = s.stations := rfl
@[simp] theorem State.putQueue_notices (s : State) (q : Queue) (rs : List Request) : (s.putQueue q rs).notices = s.notices := rfl
@[simp] theorem State.putQueue_noticesLost (s : State) (q : Queue) (rs : List Request) : (s.putQueue q rs).noticesLost = s.noticesLost := rfl
@[simp] theorem State.putQueue_freeCount (s : State) (q : Queue) (rs : List Request) : (s.putQueue q rs).freeCount = s.freeCount := rfl
@[simp] theorem State.putQueue_pending (s : State) (q : Queue) (rs : List Request) : (s.putQueue q rs).pending = s.pending := rfl

/-! ## putLoad -/

@[simp] theorem State.putLoad_runCounter (s : State) (q : Queue) (n : Nat) : (s.putLoad q n).runCounter = s.runCounter := rfl
@[simp] theorem State.putLoad_yardOffset (s : State) (q : Queue) (n : Nat) : (s.putLoad q n).yardOffset = s.yardOffset := rfl
@[simp] theorem State.putLoad_clockInvalid (s : State) (q : Queue) (n : Nat) : (s.putLoad q n).clockInvalid = s.clockInvalid := rfl
@[simp] theorem State.putLoad_keySwitch (s : State) (q : Queue) (n : Nat) : (s.putLoad q n).keySwitch = s.keySwitch := rfl
@[simp] theorem State.putLoad_rateSwitch (s : State) (q : Queue) (n : Nat) : (s.putLoad q n).rateSwitch = s.rateSwitch := rfl
@[simp] theorem State.putLoad_rate (s : State) (q : Queue) (n : Nat) : (s.putLoad q n).rate = s.rate := rfl
@[simp] theorem State.putLoad_mainsPresent (s : State) (q : Queue) (n : Nat) : (s.putLoad q n).mainsPresent = s.mainsPresent := rfl
@[simp] theorem State.putLoad_store (s : State) (q : Queue) (n : Nat) : (s.putLoad q n).store = s.store := rfl
@[simp] theorem State.putLoad_invalidBlocks (s : State) (q : Queue) (n : Nat) : (s.putLoad q n).invalidBlocks = s.invalidBlocks := rfl
@[simp] theorem State.putLoad_asFactory (s : State) (q : Queue) (n : Nat) : (s.putLoad q n).asFactory = s.asFactory := rfl
@[simp] theorem State.putLoad_write (s : State) (q : Queue) (n : Nat) : (s.putLoad q n).write = s.write := rfl
@[simp] theorem State.putLoad_config (s : State) (q : Queue) (n : Nat) : (s.putLoad q n).config = s.config := rfl
@[simp] theorem State.putLoad_phase (s : State) (q : Queue) (n : Nat) : (s.putLoad q n).phase = s.phase := rfl
@[simp] theorem State.putLoad_restartRecord (s : State) (q : Queue) (n : Nat) : (s.putLoad q n).restartRecord = s.restartRecord := rfl
@[simp] theorem State.putLoad_startPrimary (s : State) (q : Queue) (n : Nat) : (s.putLoad q n).startPrimary = s.startPrimary := rfl
@[simp] theorem State.putLoad_startSecondary (s : State) (q : Queue) (n : Nat) : (s.putLoad q n).startSecondary = s.startSecondary := rfl
@[simp] theorem State.putLoad_imageNumber (s : State) (q : Queue) (n : Nat) : (s.putLoad q n).imageNumber = s.imageNumber := rfl
@[simp] theorem State.putLoad_heldCauses (s : State) (q : Queue) (n : Nat) : (s.putLoad q n).heldCauses = s.heldCauses := rfl
@[simp] theorem State.putLoad_lineA (s : State) (q : Queue) (n : Nat) : (s.putLoad q n).lineA = s.lineA := rfl
@[simp] theorem State.putLoad_lineB (s : State) (q : Queue) (n : Nat) : (s.putLoad q n).lineB = s.lineB := rfl
@[simp] theorem State.putLoad_posts (s : State) (q : Queue) (n : Nat) : (s.putLoad q n).posts = s.posts := rfl
@[simp] theorem State.putLoad_outputs (s : State) (q : Queue) (n : Nat) : (s.putLoad q n).outputs = s.outputs := rfl
@[simp] theorem State.putLoad_records (s : State) (q : Queue) (n : Nat) : (s.putLoad q n).records = s.records := rfl
@[simp] theorem State.putLoad_directory (s : State) (q : Queue) (n : Nat) : (s.putLoad q n).directory = s.directory := rfl
@[simp] theorem State.putLoad_rebuilds (s : State) (q : Queue) (n : Nat) : (s.putLoad q n).rebuilds = s.rebuilds := rfl
@[simp] theorem State.putLoad_weather (s : State) (q : Queue) (n : Nat) : (s.putLoad q n).weather = s.weather := rfl
@[simp] theorem State.putLoad_queues (s : State) (q : Queue) (n : Nat) : (s.putLoad q n).queues = s.queues := rfl
@[simp] theorem State.putLoad_actions (s : State) (q : Queue) (n : Nat) : (s.putLoad q n).actions = s.actions := rfl
@[simp] theorem State.putLoad_stack (s : State) (q : Queue) (n : Nat) : (s.putLoad q n).stack = s.stack := rfl
@[simp] theorem State.putLoad_nextPush (s : State) (q : Queue) (n : Nat) : (s.putLoad q n).nextPush = s.nextPush := rfl
@[simp] theorem State.putLoad_rx (s : State) (q : Queue) (n : Nat) : (s.putLoad q n).rx = s.rx := rfl
@[simp] theorem State.putLoad_discardedFrames (s : State) (q : Queue) (n : Nat) : (s.putLoad q n).discardedFrames = s.discardedFrames := rfl
@[simp] theorem State.putLoad_overruns (s : State) (q : Queue) (n : Nat) : (s.putLoad q n).overruns = s.overruns := rfl
@[simp] theorem State.putLoad_held (s : State) (q : Queue) (n : Nat) : (s.putLoad q n).held = s.held := rfl
@[simp] theorem State.putLoad_replies (s : State) (q : Queue) (n : Nat) : (s.putLoad q n).replies = s.replies := rfl
@[simp] theorem State.putLoad_tx (s : State) (q : Queue) (n : Nat) : (s.putLoad q n).tx = s.tx := rfl
@[simp] theorem State.putLoad_stations (s : State) (q : Queue) (n : Nat) : (s.putLoad q n).stations = s.stations := rfl
@[simp] theorem State.putLoad_notices (s : State) (q : Queue) (n : Nat) : (s.putLoad q n).notices = s.notices := rfl
@[simp] theorem State.putLoad_noticesLost (s : State) (q : Queue) (n : Nat) : (s.putLoad q n).noticesLost = s.noticesLost := rfl
@[simp] theorem State.putLoad_freeCount (s : State) (q : Queue) (n : Nat) : (s.putLoad q n).freeCount = s.freeCount := rfl
@[simp] theorem State.putLoad_pending (s : State) (q : Queue) (n : Nat) : (s.putLoad q n).pending = s.pending := rfl

/-! ## putBlock -/

@[simp] theorem State.putBlock_runCounter (s : State) (b : Fin 102) (k : StoreBlock) : (s.putBlock b k).runCounter = s.runCounter := rfl
@[simp] theorem State.putBlock_yardOffset (s : State) (b : Fin 102) (k : StoreBlock) : (s.putBlock b k).yardOffset = s.yardOffset := rfl
@[simp] theorem State.putBlock_clockInvalid (s : State) (b : Fin 102) (k : StoreBlock) : (s.putBlock b k).clockInvalid = s.clockInvalid := rfl
@[simp] theorem State.putBlock_keySwitch (s : State) (b : Fin 102) (k : StoreBlock) : (s.putBlock b k).keySwitch = s.keySwitch := rfl
@[simp] theorem State.putBlock_rateSwitch (s : State) (b : Fin 102) (k : StoreBlock) : (s.putBlock b k).rateSwitch = s.rateSwitch := rfl
@[simp] theorem State.putBlock_rate (s : State) (b : Fin 102) (k : StoreBlock) : (s.putBlock b k).rate = s.rate := rfl
@[simp] theorem State.putBlock_mainsPresent (s : State) (b : Fin 102) (k : StoreBlock) : (s.putBlock b k).mainsPresent = s.mainsPresent := rfl
@[simp] theorem State.putBlock_invalidBlocks (s : State) (b : Fin 102) (k : StoreBlock) : (s.putBlock b k).invalidBlocks = s.invalidBlocks := rfl
@[simp] theorem State.putBlock_asFactory (s : State) (b : Fin 102) (k : StoreBlock) : (s.putBlock b k).asFactory = s.asFactory := rfl
@[simp] theorem State.putBlock_write (s : State) (b : Fin 102) (k : StoreBlock) : (s.putBlock b k).write = s.write := rfl
@[simp] theorem State.putBlock_config (s : State) (b : Fin 102) (k : StoreBlock) : (s.putBlock b k).config = s.config := rfl
@[simp] theorem State.putBlock_phase (s : State) (b : Fin 102) (k : StoreBlock) : (s.putBlock b k).phase = s.phase := rfl
@[simp] theorem State.putBlock_restartRecord (s : State) (b : Fin 102) (k : StoreBlock) : (s.putBlock b k).restartRecord = s.restartRecord := rfl
@[simp] theorem State.putBlock_startPrimary (s : State) (b : Fin 102) (k : StoreBlock) : (s.putBlock b k).startPrimary = s.startPrimary := rfl
@[simp] theorem State.putBlock_startSecondary (s : State) (b : Fin 102) (k : StoreBlock) : (s.putBlock b k).startSecondary = s.startSecondary := rfl
@[simp] theorem State.putBlock_imageNumber (s : State) (b : Fin 102) (k : StoreBlock) : (s.putBlock b k).imageNumber = s.imageNumber := rfl
@[simp] theorem State.putBlock_heldCauses (s : State) (b : Fin 102) (k : StoreBlock) : (s.putBlock b k).heldCauses = s.heldCauses := rfl
@[simp] theorem State.putBlock_lineA (s : State) (b : Fin 102) (k : StoreBlock) : (s.putBlock b k).lineA = s.lineA := rfl
@[simp] theorem State.putBlock_lineB (s : State) (b : Fin 102) (k : StoreBlock) : (s.putBlock b k).lineB = s.lineB := rfl
@[simp] theorem State.putBlock_posts (s : State) (b : Fin 102) (k : StoreBlock) : (s.putBlock b k).posts = s.posts := rfl
@[simp] theorem State.putBlock_outputs (s : State) (b : Fin 102) (k : StoreBlock) : (s.putBlock b k).outputs = s.outputs := rfl
@[simp] theorem State.putBlock_records (s : State) (b : Fin 102) (k : StoreBlock) : (s.putBlock b k).records = s.records := rfl
@[simp] theorem State.putBlock_directory (s : State) (b : Fin 102) (k : StoreBlock) : (s.putBlock b k).directory = s.directory := rfl
@[simp] theorem State.putBlock_rebuilds (s : State) (b : Fin 102) (k : StoreBlock) : (s.putBlock b k).rebuilds = s.rebuilds := rfl
@[simp] theorem State.putBlock_weather (s : State) (b : Fin 102) (k : StoreBlock) : (s.putBlock b k).weather = s.weather := rfl
@[simp] theorem State.putBlock_queues (s : State) (b : Fin 102) (k : StoreBlock) : (s.putBlock b k).queues = s.queues := rfl
@[simp] theorem State.putBlock_committed (s : State) (b : Fin 102) (k : StoreBlock) : (s.putBlock b k).committed = s.committed := rfl
@[simp] theorem State.putBlock_actions (s : State) (b : Fin 102) (k : StoreBlock) : (s.putBlock b k).actions = s.actions := rfl
@[simp] theorem State.putBlock_stack (s : State) (b : Fin 102) (k : StoreBlock) : (s.putBlock b k).stack = s.stack := rfl
@[simp] theorem State.putBlock_nextPush (s : State) (b : Fin 102) (k : StoreBlock) : (s.putBlock b k).nextPush = s.nextPush := rfl
@[simp] theorem State.putBlock_rx (s : State) (b : Fin 102) (k : StoreBlock) : (s.putBlock b k).rx = s.rx := rfl
@[simp] theorem State.putBlock_discardedFrames (s : State) (b : Fin 102) (k : StoreBlock) : (s.putBlock b k).discardedFrames = s.discardedFrames := rfl
@[simp] theorem State.putBlock_overruns (s : State) (b : Fin 102) (k : StoreBlock) : (s.putBlock b k).overruns = s.overruns := rfl
@[simp] theorem State.putBlock_held (s : State) (b : Fin 102) (k : StoreBlock) : (s.putBlock b k).held = s.held := rfl
@[simp] theorem State.putBlock_replies (s : State) (b : Fin 102) (k : StoreBlock) : (s.putBlock b k).replies = s.replies := rfl
@[simp] theorem State.putBlock_tx (s : State) (b : Fin 102) (k : StoreBlock) : (s.putBlock b k).tx = s.tx := rfl
@[simp] theorem State.putBlock_stations (s : State) (b : Fin 102) (k : StoreBlock) : (s.putBlock b k).stations = s.stations := rfl
@[simp] theorem State.putBlock_notices (s : State) (b : Fin 102) (k : StoreBlock) : (s.putBlock b k).notices = s.notices := rfl
@[simp] theorem State.putBlock_noticesLost (s : State) (b : Fin 102) (k : StoreBlock) : (s.putBlock b k).noticesLost = s.noticesLost := rfl
@[simp] theorem State.putBlock_freeCount (s : State) (b : Fin 102) (k : StoreBlock) : (s.putBlock b k).freeCount = s.freeCount := rfl
@[simp] theorem State.putBlock_pending (s : State) (b : Fin 102) (k : StoreBlock) : (s.putBlock b k).pending = s.pending := rfl

/-! ## formReply -/

@[simp] theorem State.formReply_runCounter (s : State) (r : Reply) : (s.formReply r).runCounter = s.runCounter := rfl
@[simp] theorem State.formReply_yardOffset (s : State) (r : Reply) : (s.formReply r).yardOffset = s.yardOffset := rfl
@[simp] theorem State.formReply_clockInvalid (s : State) (r : Reply) : (s.formReply r).clockInvalid = s.clockInvalid := rfl
@[simp] theorem State.formReply_keySwitch (s : State) (r : Reply) : (s.formReply r).keySwitch = s.keySwitch := rfl
@[simp] theorem State.formReply_rateSwitch (s : State) (r : Reply) : (s.formReply r).rateSwitch = s.rateSwitch := rfl
@[simp] theorem State.formReply_rate (s : State) (r : Reply) : (s.formReply r).rate = s.rate := rfl
@[simp] theorem State.formReply_mainsPresent (s : State) (r : Reply) : (s.formReply r).mainsPresent = s.mainsPresent := rfl
@[simp] theorem State.formReply_store (s : State) (r : Reply) : (s.formReply r).store = s.store := rfl
@[simp] theorem State.formReply_invalidBlocks (s : State) (r : Reply) : (s.formReply r).invalidBlocks = s.invalidBlocks := rfl
@[simp] theorem State.formReply_asFactory (s : State) (r : Reply) : (s.formReply r).asFactory = s.asFactory := rfl
@[simp] theorem State.formReply_write (s : State) (r : Reply) : (s.formReply r).write = s.write := rfl
@[simp] theorem State.formReply_config (s : State) (r : Reply) : (s.formReply r).config = s.config := rfl
@[simp] theorem State.formReply_phase (s : State) (r : Reply) : (s.formReply r).phase = s.phase := rfl
@[simp] theorem State.formReply_restartRecord (s : State) (r : Reply) : (s.formReply r).restartRecord = s.restartRecord := rfl
@[simp] theorem State.formReply_startPrimary (s : State) (r : Reply) : (s.formReply r).startPrimary = s.startPrimary := rfl
@[simp] theorem State.formReply_startSecondary (s : State) (r : Reply) : (s.formReply r).startSecondary = s.startSecondary := rfl
@[simp] theorem State.formReply_imageNumber (s : State) (r : Reply) : (s.formReply r).imageNumber = s.imageNumber := rfl
@[simp] theorem State.formReply_heldCauses (s : State) (r : Reply) : (s.formReply r).heldCauses = s.heldCauses := rfl
@[simp] theorem State.formReply_lineA (s : State) (r : Reply) : (s.formReply r).lineA = s.lineA := rfl
@[simp] theorem State.formReply_lineB (s : State) (r : Reply) : (s.formReply r).lineB = s.lineB := rfl
@[simp] theorem State.formReply_posts (s : State) (r : Reply) : (s.formReply r).posts = s.posts := rfl
@[simp] theorem State.formReply_outputs (s : State) (r : Reply) : (s.formReply r).outputs = s.outputs := rfl
@[simp] theorem State.formReply_records (s : State) (r : Reply) : (s.formReply r).records = s.records := rfl
@[simp] theorem State.formReply_directory (s : State) (r : Reply) : (s.formReply r).directory = s.directory := rfl
@[simp] theorem State.formReply_rebuilds (s : State) (r : Reply) : (s.formReply r).rebuilds = s.rebuilds := rfl
@[simp] theorem State.formReply_weather (s : State) (r : Reply) : (s.formReply r).weather = s.weather := rfl
@[simp] theorem State.formReply_queues (s : State) (r : Reply) : (s.formReply r).queues = s.queues := rfl
@[simp] theorem State.formReply_committed (s : State) (r : Reply) : (s.formReply r).committed = s.committed := rfl
@[simp] theorem State.formReply_actions (s : State) (r : Reply) : (s.formReply r).actions = s.actions := rfl
@[simp] theorem State.formReply_stack (s : State) (r : Reply) : (s.formReply r).stack = s.stack := rfl
@[simp] theorem State.formReply_nextPush (s : State) (r : Reply) : (s.formReply r).nextPush = s.nextPush := rfl
@[simp] theorem State.formReply_rx (s : State) (r : Reply) : (s.formReply r).rx = s.rx := rfl
@[simp] theorem State.formReply_discardedFrames (s : State) (r : Reply) : (s.formReply r).discardedFrames = s.discardedFrames := rfl
@[simp] theorem State.formReply_overruns (s : State) (r : Reply) : (s.formReply r).overruns = s.overruns := rfl
@[simp] theorem State.formReply_held (s : State) (r : Reply) : (s.formReply r).held = s.held := rfl
@[simp] theorem State.formReply_tx (s : State) (r : Reply) : (s.formReply r).tx = s.tx := rfl
@[simp] theorem State.formReply_stations (s : State) (r : Reply) : (s.formReply r).stations = s.stations := rfl
@[simp] theorem State.formReply_notices (s : State) (r : Reply) : (s.formReply r).notices = s.notices := rfl
@[simp] theorem State.formReply_noticesLost (s : State) (r : Reply) : (s.formReply r).noticesLost = s.noticesLost := rfl
@[simp] theorem State.formReply_freeCount (s : State) (r : Reply) : (s.formReply r).freeCount = s.freeCount := rfl
@[simp] theorem State.formReply_pending (s : State) (r : Reply) : (s.formReply r).pending = s.pending := rfl

/-! ## handCause -/

@[simp] theorem State.handCause_runCounter (s : State) (r : Reason) : (s.handCause r).runCounter = s.runCounter := rfl
@[simp] theorem State.handCause_yardOffset (s : State) (r : Reason) : (s.handCause r).yardOffset = s.yardOffset := rfl
@[simp] theorem State.handCause_clockInvalid (s : State) (r : Reason) : (s.handCause r).clockInvalid = s.clockInvalid := rfl
@[simp] theorem State.handCause_keySwitch (s : State) (r : Reason) : (s.handCause r).keySwitch = s.keySwitch := rfl
@[simp] theorem State.handCause_rateSwitch (s : State) (r : Reason) : (s.handCause r).rateSwitch = s.rateSwitch := rfl
@[simp] theorem State.handCause_rate (s : State) (r : Reason) : (s.handCause r).rate = s.rate := rfl
@[simp] theorem State.handCause_mainsPresent (s : State) (r : Reason) : (s.handCause r).mainsPresent = s.mainsPresent := rfl
@[simp] theorem State.handCause_store (s : State) (r : Reason) : (s.handCause r).store = s.store := rfl
@[simp] theorem State.handCause_invalidBlocks (s : State) (r : Reason) : (s.handCause r).invalidBlocks = s.invalidBlocks := rfl
@[simp] theorem State.handCause_asFactory (s : State) (r : Reason) : (s.handCause r).asFactory = s.asFactory := rfl
@[simp] theorem State.handCause_write (s : State) (r : Reason) : (s.handCause r).write = s.write := rfl
@[simp] theorem State.handCause_config (s : State) (r : Reason) : (s.handCause r).config = s.config := rfl
@[simp] theorem State.handCause_phase (s : State) (r : Reason) : (s.handCause r).phase = s.phase := rfl
@[simp] theorem State.handCause_restartRecord (s : State) (r : Reason) : (s.handCause r).restartRecord = s.restartRecord := rfl
@[simp] theorem State.handCause_startPrimary (s : State) (r : Reason) : (s.handCause r).startPrimary = s.startPrimary := rfl
@[simp] theorem State.handCause_startSecondary (s : State) (r : Reason) : (s.handCause r).startSecondary = s.startSecondary := rfl
@[simp] theorem State.handCause_imageNumber (s : State) (r : Reason) : (s.handCause r).imageNumber = s.imageNumber := rfl
@[simp] theorem State.handCause_lineA (s : State) (r : Reason) : (s.handCause r).lineA = s.lineA := rfl
@[simp] theorem State.handCause_lineB (s : State) (r : Reason) : (s.handCause r).lineB = s.lineB := rfl
@[simp] theorem State.handCause_posts (s : State) (r : Reason) : (s.handCause r).posts = s.posts := rfl
@[simp] theorem State.handCause_outputs (s : State) (r : Reason) : (s.handCause r).outputs = s.outputs := rfl
@[simp] theorem State.handCause_records (s : State) (r : Reason) : (s.handCause r).records = s.records := rfl
@[simp] theorem State.handCause_directory (s : State) (r : Reason) : (s.handCause r).directory = s.directory := rfl
@[simp] theorem State.handCause_rebuilds (s : State) (r : Reason) : (s.handCause r).rebuilds = s.rebuilds := rfl
@[simp] theorem State.handCause_weather (s : State) (r : Reason) : (s.handCause r).weather = s.weather := rfl
@[simp] theorem State.handCause_queues (s : State) (r : Reason) : (s.handCause r).queues = s.queues := rfl
@[simp] theorem State.handCause_committed (s : State) (r : Reason) : (s.handCause r).committed = s.committed := rfl
@[simp] theorem State.handCause_actions (s : State) (r : Reason) : (s.handCause r).actions = s.actions := rfl
@[simp] theorem State.handCause_stack (s : State) (r : Reason) : (s.handCause r).stack = s.stack := rfl
@[simp] theorem State.handCause_nextPush (s : State) (r : Reason) : (s.handCause r).nextPush = s.nextPush := rfl
@[simp] theorem State.handCause_rx (s : State) (r : Reason) : (s.handCause r).rx = s.rx := rfl
@[simp] theorem State.handCause_discardedFrames (s : State) (r : Reason) : (s.handCause r).discardedFrames = s.discardedFrames := rfl
@[simp] theorem State.handCause_overruns (s : State) (r : Reason) : (s.handCause r).overruns = s.overruns := rfl
@[simp] theorem State.handCause_held (s : State) (r : Reason) : (s.handCause r).held = s.held := rfl
@[simp] theorem State.handCause_replies (s : State) (r : Reason) : (s.handCause r).replies = s.replies := rfl
@[simp] theorem State.handCause_tx (s : State) (r : Reason) : (s.handCause r).tx = s.tx := rfl
@[simp] theorem State.handCause_stations (s : State) (r : Reason) : (s.handCause r).stations = s.stations := rfl
@[simp] theorem State.handCause_notices (s : State) (r : Reason) : (s.handCause r).notices = s.notices := rfl
@[simp] theorem State.handCause_noticesLost (s : State) (r : Reason) : (s.handCause r).noticesLost = s.noticesLost := rfl
@[simp] theorem State.handCause_freeCount (s : State) (r : Reason) : (s.handCause r).freeCount = s.freeCount := rfl
@[simp] theorem State.handCause_pending (s : State) (r : Reason) : (s.handCause r).pending = s.pending := rfl

/-! ## putLine -/

@[simp] theorem State.putLine_runCounter (s : State) (l : Line) (c : LineController) : (s.putLine l c).runCounter = s.runCounter := by
  cases l <;> rfl
@[simp] theorem State.putLine_yardOffset (s : State) (l : Line) (c : LineController) : (s.putLine l c).yardOffset = s.yardOffset := by
  cases l <;> rfl
@[simp] theorem State.putLine_clockInvalid (s : State) (l : Line) (c : LineController) : (s.putLine l c).clockInvalid = s.clockInvalid := by
  cases l <;> rfl
@[simp] theorem State.putLine_keySwitch (s : State) (l : Line) (c : LineController) : (s.putLine l c).keySwitch = s.keySwitch := by
  cases l <;> rfl
@[simp] theorem State.putLine_rateSwitch (s : State) (l : Line) (c : LineController) : (s.putLine l c).rateSwitch = s.rateSwitch := by
  cases l <;> rfl
@[simp] theorem State.putLine_rate (s : State) (l : Line) (c : LineController) : (s.putLine l c).rate = s.rate := by
  cases l <;> rfl
@[simp] theorem State.putLine_mainsPresent (s : State) (l : Line) (c : LineController) : (s.putLine l c).mainsPresent = s.mainsPresent := by
  cases l <;> rfl
@[simp] theorem State.putLine_store (s : State) (l : Line) (c : LineController) : (s.putLine l c).store = s.store := by
  cases l <;> rfl
@[simp] theorem State.putLine_invalidBlocks (s : State) (l : Line) (c : LineController) : (s.putLine l c).invalidBlocks = s.invalidBlocks := by
  cases l <;> rfl
@[simp] theorem State.putLine_asFactory (s : State) (l : Line) (c : LineController) : (s.putLine l c).asFactory = s.asFactory := by
  cases l <;> rfl
@[simp] theorem State.putLine_write (s : State) (l : Line) (c : LineController) : (s.putLine l c).write = s.write := by
  cases l <;> rfl
@[simp] theorem State.putLine_config (s : State) (l : Line) (c : LineController) : (s.putLine l c).config = s.config := by
  cases l <;> rfl
@[simp] theorem State.putLine_phase (s : State) (l : Line) (c : LineController) : (s.putLine l c).phase = s.phase := by
  cases l <;> rfl
@[simp] theorem State.putLine_restartRecord (s : State) (l : Line) (c : LineController) : (s.putLine l c).restartRecord = s.restartRecord := by
  cases l <;> rfl
@[simp] theorem State.putLine_startPrimary (s : State) (l : Line) (c : LineController) : (s.putLine l c).startPrimary = s.startPrimary := by
  cases l <;> rfl
@[simp] theorem State.putLine_startSecondary (s : State) (l : Line) (c : LineController) : (s.putLine l c).startSecondary = s.startSecondary := by
  cases l <;> rfl
@[simp] theorem State.putLine_imageNumber (s : State) (l : Line) (c : LineController) : (s.putLine l c).imageNumber = s.imageNumber := by
  cases l <;> rfl
@[simp] theorem State.putLine_heldCauses (s : State) (l : Line) (c : LineController) : (s.putLine l c).heldCauses = s.heldCauses := by
  cases l <;> rfl
@[simp] theorem State.putLine_posts (s : State) (l : Line) (c : LineController) : (s.putLine l c).posts = s.posts := by
  cases l <;> rfl
@[simp] theorem State.putLine_outputs (s : State) (l : Line) (c : LineController) : (s.putLine l c).outputs = s.outputs := by
  cases l <;> rfl
@[simp] theorem State.putLine_records (s : State) (l : Line) (c : LineController) : (s.putLine l c).records = s.records := by
  cases l <;> rfl
@[simp] theorem State.putLine_directory (s : State) (l : Line) (c : LineController) : (s.putLine l c).directory = s.directory := by
  cases l <;> rfl
@[simp] theorem State.putLine_rebuilds (s : State) (l : Line) (c : LineController) : (s.putLine l c).rebuilds = s.rebuilds := by
  cases l <;> rfl
@[simp] theorem State.putLine_weather (s : State) (l : Line) (c : LineController) : (s.putLine l c).weather = s.weather := by
  cases l <;> rfl
@[simp] theorem State.putLine_queues (s : State) (l : Line) (c : LineController) : (s.putLine l c).queues = s.queues := by
  cases l <;> rfl
@[simp] theorem State.putLine_committed (s : State) (l : Line) (c : LineController) : (s.putLine l c).committed = s.committed := by
  cases l <;> rfl
@[simp] theorem State.putLine_actions (s : State) (l : Line) (c : LineController) : (s.putLine l c).actions = s.actions := by
  cases l <;> rfl
@[simp] theorem State.putLine_stack (s : State) (l : Line) (c : LineController) : (s.putLine l c).stack = s.stack := by
  cases l <;> rfl
@[simp] theorem State.putLine_nextPush (s : State) (l : Line) (c : LineController) : (s.putLine l c).nextPush = s.nextPush := by
  cases l <;> rfl
@[simp] theorem State.putLine_rx (s : State) (l : Line) (c : LineController) : (s.putLine l c).rx = s.rx := by
  cases l <;> rfl
@[simp] theorem State.putLine_discardedFrames (s : State) (l : Line) (c : LineController) : (s.putLine l c).discardedFrames = s.discardedFrames := by
  cases l <;> rfl
@[simp] theorem State.putLine_overruns (s : State) (l : Line) (c : LineController) : (s.putLine l c).overruns = s.overruns := by
  cases l <;> rfl
@[simp] theorem State.putLine_held (s : State) (l : Line) (c : LineController) : (s.putLine l c).held = s.held := by
  cases l <;> rfl
@[simp] theorem State.putLine_replies (s : State) (l : Line) (c : LineController) : (s.putLine l c).replies = s.replies := by
  cases l <;> rfl
@[simp] theorem State.putLine_tx (s : State) (l : Line) (c : LineController) : (s.putLine l c).tx = s.tx := by
  cases l <;> rfl
@[simp] theorem State.putLine_stations (s : State) (l : Line) (c : LineController) : (s.putLine l c).stations = s.stations := by
  cases l <;> rfl
@[simp] theorem State.putLine_notices (s : State) (l : Line) (c : LineController) : (s.putLine l c).notices = s.notices := by
  cases l <;> rfl
@[simp] theorem State.putLine_noticesLost (s : State) (l : Line) (c : LineController) : (s.putLine l c).noticesLost = s.noticesLost := by
  cases l <;> rfl
@[simp] theorem State.putLine_freeCount (s : State) (l : Line) (c : LineController) : (s.putLine l c).freeCount = s.freeCount := by
  cases l <;> rfl
@[simp] theorem State.putLine_pending (s : State) (l : Line) (c : LineController) : (s.putLine l c).pending = s.pending := by
  cases l <;> rfl

@[simp] theorem State.putLine_line_self (s : State) (l : Line) (c : LineController) : (s.putLine l c).line l = c := by
  cases l <;> rfl

theorem State.putLine_line_other (s : State) (l m : Line) (c : LineController) (h : m ≠ l) :
    (s.putLine l c).line m = s.line m := by
  cases l <;> cases m <;> first | rfl | exact absurd rfl h

end Sys2Proof.Machine
end

