-- ==== Sys2Proof/Laws/Access.lean ====
section
/-! SUPPORT. Reading back what was written: records, entries, outputs, actions, queues, loads and blocks; what a notice item
can change; the transmitter's look for a frame. -/

namespace Sys2Proof.Machine

section
variable {α : Type} {n : Nat}

theorem get_set_self (v : Vector α n) (i : Fin n) (x : α) : (v.set i.val x i.isLt).get i = x := by
  simp [Vector.get_eq_getElem]

theorem get_set_other (v : Vector α n) (i j : Fin n) (x : α) (h : j ≠ i) : (v.set i.val x i.isLt).get j = v.get j := by
  have h' : i.val ≠ j.val := fun e => h (Fin.ext e.symm)
  simp [Vector.get_eq_getElem, h']

end

/-! ## Records -/

@[simp] theorem State.trailer_putTrailer_self (s : State) (p : Post) (r : TrailerRecord) :
    (s.putTrailer p r).trailer p = r.sealed := get_set_self _ _ _

theorem State.trailer_putTrailer_other (s : State) (p q : Post) (r : TrailerRecord) (h : q ≠ p) :
    (s.putTrailer p r).trailer q = s.trailer q := get_set_other _ _ _ _ h

/-- A record that does not differ from another has the same sealed form. -/
theorem TrailerRecord.sealed_of_not_differs {r old : TrailerRecord} (h : r.differs old = false) :
    r.sealed = old.sealed := by
  simpa [TrailerRecord.differs] using h

/-- What changing fields of a record gives (R27): the record with its code computed, or the record as it stood where the
change leaves a record that does not verify as it stands. -/
theorem State.editTrailer_cases (s : State) (p : Post) (f : TrailerRecord → TrailerRecord) :
    s.editTrailer p f = s.putTrailer p (f (s.trailer p)) ∨
    (s.editTrailer p f = s ∧ (s.trailer p).verifies = false ∧ (f (s.trailer p)).sealed = (s.trailer p).sealed) := by
  unfold State.editTrailer
  split
  · exact .inl rfl
  · rename_i h
    rw [Bool.or_eq_true, not_or, Bool.not_eq_true, Bool.not_eq_true] at h
    exact .inr ⟨rfl, h.1, TrailerRecord.sealed_of_not_differs h.2⟩

/-- Changing fields of a record leaves it with those fields, whatever its check code. -/
@[simp] theorem State.sealed_editTrailer_self (s : State) (p : Post) (f : TrailerRecord → TrailerRecord) :
    ((s.editTrailer p f).trailer p).sealed = (f (s.trailer p)).sealed := by
  obtain e | ⟨e, -, same⟩ := State.editTrailer_cases s p f
  · rw [e, State.trailer_putTrailer_self]
    rfl
  · rw [e, same]

/-- Of a record that verifies, the change is exact. -/
theorem State.trailer_editTrailer_self (s : State) (p : Post) (f : TrailerRecord → TrailerRecord)
    (h : (s.trailer p).verifies = true) : (s.editTrailer p f).trailer p = (f (s.trailer p)).sealed := by
  obtain e | ⟨-, no, -⟩ := State.editTrailer_cases s p f
  · rw [e, State.trailer_putTrailer_self]
  · rw [h] at no
    cases no

theorem State.trailer_editTrailer_other (s : State) (p q : Post) (f : TrailerRecord → TrailerRecord) (h : q ≠ p) :
    (s.editTrailer p f).trailer q = s.trailer q := by
  obtain e | ⟨e, -⟩ := State.editTrailer_cases s p f
  · rw [e, State.trailer_putTrailer_other _ _ _ _ h]
  · rw [e]

@[simp] theorem State.run_putRun_self (s : State) (p : Post) (r : Option RunRecord) : (s.putRun p r).run p = r :=
  congrArg TrailerRecord.run (State.sealed_editTrailer_self s p fun t => { t with run := r })

/-- Every record given whole verifies (R27). -/
theorem State.putTrailer_verifies (s : State) (p : Post) (r : TrailerRecord) :
    ((s.putTrailer p r).trailer p).verifies = true := by
  rw [State.trailer_putTrailer_self]
  rfl

/-! ## Entries, outputs, actions, queues, loads and blocks -/

@[simp] theorem State.entry_putEntry_self (s : State) (p : Post) (e : Option PostEntry) : (s.putEntry p e).entry p = e :=
  get_set_self _ _ _

theorem State.entry_putEntry_other (s : State) (p q : Post) (e : Option PostEntry) (h : q ≠ p) :
    (s.putEntry p e).entry q = s.entry q := get_set_other _ _ _ _ h

@[simp] theorem State.output_putOutput_self (s : State) (p : Post) (o : Option OutputState) :
    (s.putOutput p o).output p = o := get_set_self _ _ _

theorem State.output_putOutput_other (s : State) (p q : Post) (o : Option OutputState) (h : q ≠ p) :
    (s.putOutput p o).output q = s.output q := get_set_other _ _ _ _ h

@[simp] theorem State.inForce_putInForce_self (s : State) (p : Post) (a : ActionsInForce) :
    (s.putInForce p a).inForce p = a := get_set_self _ _ _

theorem State.inForce_putInForce_other (s : State) (p q : Post) (a : ActionsInForce) (h : q ≠ p) :
    (s.putInForce p a).inForce q = s.inForce q := get_set_other _ _ _ _ h

@[simp] theorem State.queue_putQueue_self (s : State) (q : Queue) (l : List Request) : (s.putQueue q l).queue q = l :=
  get_set_self _ _ _

theorem State.queue_putQueue_other (s : State) (q q' : Queue) (l : List Request) (h : q' ≠ q) :
    (s.putQueue q l).queue q' = s.queue q' := get_set_other _ _ _ _ h

@[simp] theorem State.load_putLoad_self (s : State) (q : Queue) (n : Nat) : (s.putLoad q n).load q = n :=
  get_set_self _ _ _

theorem State.load_putLoad_other (s : State) (q q' : Queue) (n : Nat) (h : q' ≠ q) :
    (s.putLoad q n).load q' = s.load q' := get_set_other _ _ _ _ h

@[simp] theorem State.block_putBlock_self (s : State) (b : Fin 102) (k : StoreBlock) : (s.putBlock b k).block b = k :=
  get_set_self _ _ _

theorem State.block_putBlock_other (s : State) (b c : Fin 102) (k : StoreBlock) (h : c ≠ b) :
    (s.putBlock b k).block c = s.block c := get_set_other _ _ _ _ h

/-! ## The transmitter's part of a frame (R184) -/

theorem TxGoesOn.refl (s : State) : TxGoesOn s s := .inl rfl

theorem TxGoesOn.trans {a b c : State} (x : TxGoesOn a b) (y : TxGoesOn b c) : TxGoesOn a c := by
  obtain e | ⟨idle, n, hn⟩ := x
  · rw [TxGoesOn, ← e]
    exact y
  · obtain e | ⟨no, -⟩ := y
    · exact .inr ⟨idle, n, e.trans hn⟩
    · rw [hn] at no
      cases no

/-! ## Notice items (10.4): everything an item can change -/

/-- The stations, the notice transmit queue, the notices-lost flag and the transmitter of one state put into another. -/
def State.noticed (s t : State) : State :=
  { s with stations := t.stations, notices := t.notices, noticesLost := t.noticesLost, tx := t.tx }

theorem State.offerNotice_changes (s : State) (n : Notice) : s.offerNotice n = s.noticed (s.offerNotice n) := by
  unfold State.offerNotice
  split
  · rfl
  · split <;> rfl

/-- What offering a notice does (R184, R188): an idle transmitter with nothing waiting begins it; else it waits in the
queue, or it is lost where the queue is full. -/
theorem State.offerNotice_cases (s : State) (n : Notice) :
    (s.txFree = true ∧ s.offerNotice n = { s with tx := some (.notice n) }) ∨
    (s.txFree = false ∧ s.notices.length < 24 ∧ s.offerNotice n = { s with notices := s.notices ++ [n] }) ∨
    (s.txFree = false ∧ 24 ≤ s.notices.length ∧ s.offerNotice n = { s with noticesLost := true }) := by
  unfold State.offerNotice
  split
  · exact .inl ⟨‹_›, rfl⟩
  · rename_i h
    have h := Bool.not_eq_true _ ▸ h
    split
    · exact .inr (.inl ⟨h, ‹_›, rfl⟩)
    · exact .inr (.inr ⟨h, Nat.le_of_not_lt ‹_›, rfl⟩)

theorem State.flushStation_changes (s : State) (p : Post) : s.flushStation p = s.noticed (s.flushStation p) := by
  unfold State.flushStation
  split
  · rfl
  · exact (State.offerNotice_changes _ _).trans rfl

theorem State.placeItem_changes (s : State) (p : Post) (i : NoticeItem) :
    s.placeItem p i = s.noticed (s.placeItem p i) := by
  unfold State.placeItem
  split
  · rfl
  · dsimp only
    split
    · rfl
    · split
      · rw [State.flushStation_changes]
        rfl
      · rfl

/-- An item changes the gather stations, the notice transmit queue, the notices-lost flag and the transmitter, and nothing
else. -/
theorem State.item_changes (s : State) (p : Post) (b : ItemBody) : s.item p b = s.noticed (s.item p b) := by
  unfold State.item
  dsimp only
  split
  · exact State.placeItem_changes s p _
  · split
    · rw [State.flushStation_changes, State.placeItem_changes]
      rfl
    · exact State.placeItem_changes s p _

theorem State.flushAll_changes (n : Nat) (s : State) : State.flushAll n s = s.noticed (State.flushAll n s) := by
  induction n generalizing s with
  | zero => rfl
  | succ n ih =>
    unfold State.flushAll
    split
    · rfl
    · rw [ih, State.flushStation_changes]
      rfl

@[simp] theorem State.item_records (s : State) (p : Post) (b : ItemBody) : (s.item p b).records = s.records := by
  rw [State.item_changes]; rfl

@[simp] theorem State.item_trailer (s : State) (p q : Post) (b : ItemBody) : (s.item p b).trailer q = s.trailer q := by
  unfold State.trailer; rw [State.item_records]

@[simp] theorem State.item_run (s : State) (p q : Post) (b : ItemBody) : (s.item p b).run q = s.run q := by
  unfold State.run; rw [State.item_trailer]

@[simp] theorem State.item_stack (s : State) (p : Post) (b : ItemBody) : (s.item p b).stack = s.stack := by
  rw [State.item_changes]; rfl

@[simp] theorem State.item_nextPush (s : State) (p : Post) (b : ItemBody) : (s.item p b).nextPush = s.nextPush := by
  rw [State.item_changes]; rfl

@[simp] theorem State.item_actions (s : State) (p : Post) (b : ItemBody) : (s.item p b).actions = s.actions := by
  rw [State.item_changes]; rfl

@[simp] theorem State.item_outputs (s : State) (p : Post) (b : ItemBody) : (s.item p b).outputs = s.outputs := by
  rw [State.item_changes]; rfl

@[simp] theorem State.item_queues (s : State) (p : Post) (b : ItemBody) : (s.item p b).queues = s.queues := by
  rw [State.item_changes]; rfl

@[simp] theorem State.item_committed (s : State) (p : Post) (b : ItemBody) : (s.item p b).committed = s.committed := by
  rw [State.item_changes]; rfl

@[simp] theorem State.item_directory (s : State) (p : Post) (b : ItemBody) : (s.item p b).directory = s.directory := by
  rw [State.item_changes]; rfl

/-! ## The transmitter (R184) -/

/-- The transmitter's look for a frame changes the transmitter, the reply queue and the notice transmit queue, and
nothing else. -/
theorem State.pumpTx_changes (s : State) :
    s.pumpTx = { s with tx := s.pumpTx.tx, replies := s.pumpTx.replies, notices := s.pumpTx.notices } := by
  unfold State.pumpTx
  split
  · rfl
  · split
    · rfl
    · split <;> rfl

/-- A second look finds nothing more to do. -/
@[simp] theorem State.pumpTx_pumpTx (s : State) : s.pumpTx.pumpTx = s.pumpTx := by
  cases h : s.tx with
  | some x =>
    have e : s.pumpTx = s := by unfold State.pumpTx; rw [h]
    rw [e, e]
  | none =>
    cases hr : s.replies with
    | cons r rest => simp [State.pumpTx, h, hr]
    | nil =>
      cases hn : s.notices with
      | cons n rest => simp [State.pumpTx, h, hr, hn]
      | nil =>
        have e : s.pumpTx = s := by unfold State.pumpTx; rw [h, hr, hn]
        rw [e, e]

end Sys2Proof.Machine
end

