-- ==== Sys2Proof/Laws/Frame.lean ====
section
/-! SUPPORT. What the trailer side of the module leaves alone. A frame is a preorder of states that holds across each of the
primitive updates of the trailer side; then it holds across every operation built from them, as the lemmas here say one by
one. `OutsideSame.of_framed` turns them into the frame of Safety.lean. -/

namespace Sys2Proof.Machine

/-- A preorder between a state and an earlier one that the trailer side's primitive updates keep. -/
structure Framed where
  rel : State → State → Prop
  refl : ∀ s, rel s s
  after : ∀ {a b c}, rel a b → rel b c → rel a c
  trailer : ∀ s p r, rel (State.putTrailer s p r) s
  output : ∀ s p o, rel (State.putOutput s p o) s
  inForce : ∀ s p a, rel (State.putInForce s p a) s
  queue : ∀ s q l, rel (State.putQueue s q l) s
  load : ∀ s q n, rel (State.putLoad s q n) s
  stations : ∀ (s : State) l, rel { s with stations := l } s
  notices : ∀ (s : State) l, rel { s with notices := l } s
  noticesLost : ∀ (s : State) b, rel { s with noticesLost := b } s
  sent : ∀ (s : State) n, s.tx = none → rel { s with tx := some (.notice n) } s
  stack : ∀ (s : State) k n, rel { s with stack := k, nextPush := n } s
  directory : ∀ (s : State) d, rel { s with directory := d } s

theorem Framed.rel.trans {h : Framed} {a b c : State} (x : h.rel a b) (y : h.rel b c) : h.rel a c := h.after x y

theorem Framed.forEach (h : Framed) {β : Type} (l : List β) (f : State → β → State) (hf : ∀ s b, h.rel (f s b) s)
    (s : State) : h.rel (s.forEach l f) s := by
  induction l generalizing s with
  | nil => exact h.refl s
  | cons b l ih => exact (ih (f s b)).trans (hf s b)

/-! ## Ops -/

theorem Framed.editTrailer (h : Framed) (s : State) (p : Post) (f : TrailerRecord → TrailerRecord) : h.rel (s.editTrailer p f) s := by
  unfold State.editTrailer; split; exacts [h.trailer s p _, h.refl s]

theorem Framed.putRun (h : Framed) (s : State) (p : Post) (r : Option RunRecord) : h.rel (s.putRun p r) s := by
  exact h.editTrailer s p _

theorem Framed.offerNotice (h : Framed) (s : State) (n : Notice) : h.rel (s.offerNotice n) s := by
  unfold State.offerNotice
  split
  · exact h.sent s n (by simp_all [State.txFree])
  · split
    · exact h.notices s _
    · exact h.noticesLost s _

theorem Framed.flushStation (h : Framed) (s : State) (p : Post) : h.rel (s.flushStation p) s := by
  unfold State.flushStation; split; exacts [h.refl _, (h.offerNotice _ _).trans (h.stations s _)]

theorem Framed.placeItem (h : Framed) (s : State) (p : Post) (i : NoticeItem) : h.rel (s.placeItem p i) s := by
  unfold State.placeItem
  split
  · exact h.stations s _
  · refine (h.stations _ _).trans ?_
    split
    · exact h.refl _
    · split
      · exact h.flushStation s _
      · exact h.refl _

theorem Framed.item (h : Framed) (s : State) (p : Post) (b : ItemBody) : h.rel (s.item p b) s := by
  unfold State.item
  dsimp only
  split
  · exact h.placeItem s p _
  · split
    · exact (h.flushStation _ _).trans (h.placeItem s p _)
    · exact h.placeItem s p _

theorem Framed.flushAll (h : Framed) (n : Nat) (s : State) : h.rel (State.flushAll n s) s := by
  induction n generalizing s with
  | zero => exact h.refl s
  | succ n ih =>
    unfold State.flushAll
    split
    · exact h.refl _
    · exact (ih _).trans (h.flushStation s _)

/-! ## Findings -/

theorem Framed.noteFinding (h : Framed) (s : State) (p : Post) (c : FindingClass) (d : Nat) : h.rel (s.noteFinding p c d) s := by
  exact (h.item _ _ _).trans (h.editTrailer s p _)

theorem Framed.pushFrame (h : Framed) (s : State) (p : Post) (c : FindingClass) (d k : Nat) : h.rel (s.pushFrame p c d k) s := by
  exact h.stack s _ _

theorem Framed.lightBeacon (h : Framed) (s : State) (p : Post) : h.rel (s.lightBeacon p) s := by
  unfold State.lightBeacon; split; exacts [h.refl _, h.output s _ _]

theorem Framed.activate (h : Framed) (s : State) (p : Post) (a : Action) (k : Nat) : h.rel (s.activate p a k) s := by
  unfold State.activate
  split
  · exact h.refl _
  · dsimp only
    split
    · exact (h.lightBeacon _ _).trans (h.inForce s _ _)
    · exact h.inForce s _ _

theorem Framed.raiseFinding (h : Framed) (apply : State → Post → Action → Nat → State)
    (ha : ∀ s p a k, h.rel (apply s p a k) s) (s : State) (p : Post) (c : FindingClass) (d k : Nat) :
    h.rel (s.raiseFinding apply p c d k) s :=
  ((h.item _ _ _).trans (ha _ _ _ _)).trans ((h.editTrailer _ _ _).trans (h.pushFrame s p c d k))

theorem Framed.produceWith (h : Framed) (apply : State → Post → Action → Nat → State)
    (ha : ∀ s p a k, h.rel (apply s p a k) s) (s : State) (p : Post) (c : FindingClass) (d k : Nat) :
    h.rel (s.produceWith apply p c d k).1 s := by
  unfold State.produceWith
  split
  · exact h.refl _
  · split
    · exact h.raiseFinding apply ha s p c d k
    · exact h.noteFinding s p c d

theorem Framed.produceEnding (h : Framed) (s : State) (p : Post) (c : FindingClass) (d k : Nat) : h.rel ((s.produceEnding p c d k).1) s := by
  exact h.produceWith _ (fun s p a k => h.activate s p a k) s p c d k

/-! ## Runs -/

theorem Framed.causeJoins (h : Framed) (s : State) (p : Post) (c : SuspCause) (n : Nat) : h.rel (s.causeJoins p c n) s := by
  unfold State.causeJoins; split; exacts [h.refl _, h.putRun s _ _]

theorem Framed.causeLeaves (h : Framed) (s : State) (p : Post) (c : SuspCause) : h.rel (s.causeLeaves p c) s := by
  unfold State.causeLeaves; split; exacts [h.refl _, h.putRun s _ _]

theorem Framed.relink (h : Framed) (s : State) (p : Post) (n : Option Nat) : h.rel (s.relink p n) s := by
  unfold State.relink; split; exacts [h.putRun s _ _, h.refl _]

theorem Framed.enterEnding (h : Framed) (s : State) (p : Post) (o : RunOutcome) (b : Bool) (n : Nat) :
    h.rel (s.enterEnding p o b n) s := by
  unfold State.enterEnding
  split
  · exact h.refl _
  · dsimp only
    split
    · exact h.editTrailer s p _
    · exact (h.relink _ _ _).trans ((h.produceEnding _ _ _ _ _).trans (h.editTrailer s p _))

theorem Framed.abortRun (h : Framed) (s : State) (p : Post) (c : AbortCause) (b : Bool) (n : Nat) :
    h.rel (s.abortRun p c b n).1 s := by
  unfold State.abortRun
  split
  · exact h.refl _
  · split
    · exact h.refl _
    · exact h.enterEnding s p _ _ _

theorem Framed.abortSuspension (h : Framed) (s : State) (p : Post) (r : RunRecord) : h.rel (s.abortSuspension p r) s := by
  unfold State.abortSuspension; split; exacts [h.refl _, h.enterEnding s p _ _ _]

theorem Framed.createRun (h : Framed) (s : State) (q : Queue) (r : Request) : h.rel (s.createRun q r) s := by
  have start : h.rel ((s.putRun r.post (some (s.newRun q r))).item r.post
      (.defrostStarted r.cls q r.load r.cls.firstState)) s := (h.item _ _ _).trans (h.putRun s _ _)
  have doored : ∀ (b : Prop) [Decidable b] (u : State), h.rel u s →
      h.rel (if b then u.causeJoins r.post .door 0 else u) s := fun b _ u hu => by
    split
    · exact (h.causeJoins u _ _ _).trans hu
    · exact hu
  unfold State.createRun
  dsimp only
  split
  · exact (h.causeJoins _ _ _ _).trans (doored _ _ start)
  · exact doored _ _ start

/-! ## The arbiter -/

theorem Framed.removeRequest (h : Framed) (s : State) (p : Post) : h.rel (s.removeRequest p) s := by
  unfold State.removeRequest; split; exacts [h.refl _, h.queue s _ _]

theorem Framed.joinQueue (h : Framed) (s : State) (q : Queue) (r : Request) : h.rel (s.joinQueue q r) s := by
  exact h.queue s _ _

theorem Framed.upgradeRequest (h : Framed) (s : State) (p : Post) (c : RequestClass) : h.rel (s.upgradeRequest p c) s := by
  unfold State.upgradeRequest; split; exacts [h.refl _, (h.joinQueue _ _ _).trans (h.removeRequest s p)]

theorem Framed.grant (h : Framed) (s : State) (q : Queue) (r : Request) : h.rel (s.grant q r) s := by
  exact (h.createRun _ _ _).trans (h.load s _ _)

theorem Framed.walk (h : Framed) (s : State) (q : Queue) : h.rel (s.walk q) s := by
  unfold State.walk
  split
  · exact (h.forEach _ _ (fun s r => h.grant s q r) _).trans (h.queue s _ _)
  · exact h.refl _

theorem Framed.fileRequest (h : Framed) (s : State) (p : Post) (c : RequestClass) (n : Nat) : h.rel (s.fileRequest p c n) s := by
  exact (h.walk _ _).trans (h.joinQueue s _ _)

theorem Framed.walkForLine (h : Framed) (s : State) (l : Line) : h.rel (s.walkForLine l) s := by
  exact h.forEach _ _ (fun s q => by split; exacts [h.walk s q, h.refl _]) s

theorem Framed.endRun (h : Framed) (s : State) (p : Post) (o : RunOutcome) (b : Bool) : h.rel (s.endRun p o b) s := by
  unfold State.endRun
  split
  · exact h.refl _
  · exact (h.walk _ _).trans ((h.putRun _ _ _).trans ((h.item _ _ _).trans ((h.load _ _ _).trans
      (h.editTrailer s p _))))

/-! ## Actions and findings -/

theorem Framed.inhibitDefrost (h : Framed) (s : State) (p : Post) (k : Nat) : h.rel (s.inhibitDefrost p k) s := by
  exact (h.abortRun _ _ _ _ _).trans (h.removeRequest s p)

theorem Framed.applyAction (h : Framed) (s : State) (p : Post) (a : Action) (k : Nat) :
    h.rel (s.applyAction p a k) s := by
  unfold State.applyAction
  split
  · exact h.refl _
  · dsimp only
    split
    · exact h.activate s _ _ _
    · exact h.activate s _ _ _
    · exact (h.inhibitDefrost _ _ _).trans (h.activate s _ _ _)
    · exact (h.causeJoins _ _ _ _).trans (h.activate s _ _ _)

theorem Framed.withdrawAction (h : Framed) (s : State) (p : Post) (a : Action) : h.rel (s.withdrawAction p a) s := by
  unfold State.withdrawAction
  split
  · dsimp only
    split
    · exact h.inForce s _ _
    · exact h.inForce s _ _
    · exact h.inForce s _ _
    · exact (h.causeLeaves _ _ _).trans (h.inForce s _ _)
  · exact h.refl _

theorem Framed.produce (h : Framed) (s : State) (p : Post) (c : FindingClass) (d k : Nat) : h.rel (s.produce p c d k) s := by
  exact h.produceWith _ (fun s p a k => h.applyAction s p a k) s p c d k

theorem Framed.settleWithdrawal (h : Framed) (s : State) (p : Post) (a : Action) : h.rel (s.settleWithdrawal p a) s := by
  unfold State.settleWithdrawal; split; exacts [h.withdrawAction s p a, h.refl _]

theorem Framed.settleAction (h : Framed) (s : State) (p : Post) (a : Action) : h.rel (s.settleAction p a) s := by
  unfold State.settleAction; split; exacts [h.applyAction s p a _, h.withdrawAction s p a]

theorem Framed.settleActions (h : Framed) (s : State) (p : Post) : h.rel (s.settleActions p) s := by
  exact h.forEach _ _ (fun s a => h.settleAction s p a) s

theorem Framed.withdrawActions (h : Framed) (s : State) (p : Post) : h.rel (s.withdrawActions p) s := by
  exact h.forEach _ _ (fun s a => h.withdrawAction s p a) s

theorem Framed.clearFinding (h : Framed) (s : State) (p : Post) (c : FindingClass) (b : Bool) :
    h.rel (s.clearFinding p c b) s := by
  unfold State.clearFinding
  split
  · exact (h.settleWithdrawal _ _ _).trans ((h.item _ _ _).trans (h.editTrailer s p _))
  · exact (h.item _ _ _).trans (h.editTrailer s p _)
  · exact h.refl _

theorem Framed.clearLinkLost (h : Framed) (s : State) (p : Post) (d : Nat) : h.rel (s.clearLinkLost p d) s := by
  unfold State.clearLinkLost
  split
  · split
    · exact h.clearFinding s p _ _
    · exact h.refl _
  · exact h.refl _

theorem Framed.emptySets (h : Framed) (s : State) (p : Post) : h.rel (s.emptySets p) s := by
  exact (h.withdrawActions _ _).trans (h.editTrailer s p _)

/-! ## Outputs -/

theorem Framed.levelsFor (h : Framed) (s : State) (p : Post) (b : Bool) : h.rel ((s.levelsFor p b).2) s := by
  unfold State.levelsFor; split; exacts [h.refl _, h.output s p _]

theorem Framed.outputAtGood (h : Framed) (s : State) (p : Post) (c a : Levels) : h.rel (s.outputAtGood p c a) s := by
  unfold State.outputAtGood
  split
  · exact h.refl _
  · dsimp only
    split
    · exact (h.clearFinding _ _ _ _).trans (h.output s p _)
    · split
      · exact (h.produce _ _ _ _ _).trans (h.output s p _)
      · exact h.output s p _

/-! ## The evaluation -/

theorem Framed.frostSensors (h : Framed) (s : State) (p : Post) (rep : StatusReport) :
    h.rel (s.frostSensors p rep) s := by
  unfold State.frostSensors
  dsimp only
  split
  · exact (h.produce _ _ _ _ _).trans (h.editTrailer s p _)
  · split
    · exact (h.clearFinding _ _ _ _).trans (h.editTrailer s p _)
    · exact h.editTrailer s p _

theorem Framed.frostEvaluation (h : Framed) (s : State) (p : Post) (rep : StatusReport) (a : AtArrival) : h.rel (s.frostEvaluation p rep a) s := by
  unfold State.frostEvaluation State.frostStep
  refine (h.editTrailer _ _ _).trans ?_
  exact h.frostSensors s p rep

theorem Framed.putFuel (h : Framed) (s : State) (p : Post) (a : FuelAccount) : h.rel (s.putFuel p a) s := by
  exact h.editTrailer s p _

theorem Framed.fuelInvalid (h : Framed) (s : State) (p : Post) (n : Nat) : h.rel (s.fuelInvalid p n) s := by
  unfold State.fuelInvalid
  dsimp only
  split
  · exact (h.produce _ _ _ _ _).trans (h.putFuel s p _)
  · exact h.putFuel s p _

theorem Framed.fuelValid (h : Framed) (s : State) (p : Post) (pr : Profile) (n : Nat) :
    h.rel (s.fuelValid p pr n) s := by
  unfold State.fuelValid
  dsimp only
  split
  · exact (h.putFuel _ _ _).trans ((h.item _ _ _).trans (h.clearFinding s p _ _))
  · split
    · exact (h.produce _ _ _ _ _).trans ((h.putFuel _ _ _).trans (h.clearFinding s p _ _))
    · exact (h.putFuel _ _ _).trans (h.clearFinding s p _ _)

theorem Framed.settleLowFuel (h : Framed) (s : State) (p : Post) (pr : Profile) (w : PowerSource) :
    h.rel (s.settleLowFuel p pr w) s := by
  unfold State.settleLowFuel
  dsimp only
  split <;> split <;> first | exact h.clearFinding s p _ _ | exact h.produce s p _ _ _ | exact h.refl _

theorem Framed.fuelEvaluation (h : Framed) (s : State) (p : Post) (rep : StatusReport) (a : AtArrival) :
    h.rel (s.fuelEvaluation p rep a) s := by
  unfold State.fuelEvaluation
  split
  · exact h.refl _
  · split
    · exact h.refl _
    · refine (h.settleLowFuel _ _ _ _).trans ((h.putFuel _ _ _).trans ?_)
      split
      · exact (h.fuelValid _ _ _ _).trans (h.putFuel s p _)
      · exact (h.fuelInvalid _ _ _).trans (h.putFuel s p _)

theorem Framed.walkForHours (h : Framed) (s : State) (p : Post) : h.rel (s.walkForHours p) s := by
  unfold State.walkForHours; split; exacts [h.walk s _, h.refl _]

theorem Framed.editDoor (h : Framed) (s : State) (p : Post) (f : DoorGroup → DoorGroup) : h.rel (s.editDoor p f) s := by
  exact h.editTrailer s p _

theorem Framed.breakCustody (h : Framed) (s : State) (p : Post) : h.rel (s.breakCustody p) s := by
  unfold State.breakCustody; split; exacts [(h.produce _ _ _ _ _).trans ((h.item _ _ _).trans (h.editTrailer s p _)), h.refl _, h.refl _, h.refl _]

theorem Framed.opening (h : Framed) (s : State) (p : Post) : h.rel (s.opening p) s := by
  unfold State.opening
  dsimp only
  refine (h.editDoor _ _ _).trans ((h.breakCustody _ _).trans ?_)
  exact h.editDoor s p _

theorem Framed.closing (h : Framed) (s : State) (p : Post) : h.rel (s.closing p) s := by
  exact (h.clearFinding _ _ _ _).trans (h.editDoor s p _)

theorem Framed.knownDoor (h : Framed) (s : State) (p : Post) : h.rel (s.knownDoor p) s := by
  exact (h.clearFinding _ _ _ _).trans (h.editDoor s p _)

theorem Framed.doorReport (h : Framed) (s : State) (p : Post) (rep : DoorReport) : h.rel (s.doorReport p rep).1 s := by
  unfold State.doorReport
  split
  · dsimp only
    split
    · exact (h.produce _ _ _ _ _).trans (h.editDoor s p _)
    · exact h.editDoor s p _
  · dsimp only
    split
    · exact h.knownDoor s p
    · dsimp only
      exact (h.opening _ _).trans (h.knownDoor s p)
  · dsimp only
    split
    · exact h.knownDoor s p
    · dsimp only
      exact (h.closing _ _).trans (h.knownDoor s p)
    · dsimp only
      exact (h.editDoor _ _ _).trans (h.knownDoor s p)

theorem Framed.ajarTest (h : Framed) (s : State) (p : Post) : h.rel (s.ajarTest p) s := by
  unfold State.ajarTest
  dsimp only
  split
  · split
    · exact (h.editDoor _ _ _).trans (h.produce s p _ _ _)
    · exact h.refl _
  · exact h.refl _

theorem Framed.doorEvaluation (h : Framed) (s : State) (p : Post) (rep : StatusReport) : h.rel ((s.doorEvaluation p rep).1) s := by
  exact (h.ajarTest _ _).trans (h.doorReport s p _)

theorem Framed.refreshLimits (h : Framed) (s : State) (p : Post) : h.rel (s.refreshLimits p) s := by
  unfold State.refreshLimits
  split
  · dsimp only
    split
    · exact (h.enterEnding _ _ _ _ _).trans (h.putRun s p _)
    · split
      · exact (h.abortSuspension _ _ _).trans (h.putRun s p _)
      · exact h.putRun s p _
  · exact h.refl _

theorem Framed.doorStep (h : Framed) (s : State) (p : Post) (c : Option DoorChange) : h.rel (s.doorStep p c) s := by
  unfold State.doorStep; split; exacts [h.refl _, h.causeJoins s p _ _, h.causeLeaves s p _]

theorem Framed.heaterTest (h : Framed) (s : State) (p : Post) (r : RunRecord) (n : Nat) :
    h.rel (s.heaterTest p r n) s := by
  unfold State.heaterTest
  split
  · exact (h.produce _ _ _ _ _).trans (h.putRun s p _)
  · exact h.refl _

theorem Framed.heatingTest (h : Framed) (s : State) (p : Post) (r : RunRecord) (rep : StatusReport) :
    h.rel (s.heatingTest p r rep) s := by
  unfold State.heatingTest
  dsimp only
  split
  · exact (h.enterEnding _ _ _ _ _).trans (h.putRun s p _)
  · exact (h.heaterTest _ _ _ _).trans (h.putRun s p _)

theorem Framed.suspendedTest (h : Framed) (s : State) (p : Post) (r : RunRecord) (t : Time) (o : PriorState)
    (cs : List CauseEntry) (rep : StatusReport) : h.rel (s.suspendedTest p r t o cs rep) s := by
  unfold State.suspendedTest
  dsimp only
  split
  · split
    · exact (h.enterEnding _ _ _ _ _).trans (h.putRun s p _)
    · exact h.putRun s p _
  · exact h.putRun s p _

theorem Framed.statusTests (h : Framed) (s : State) (p : Post) (rep : StatusReport) (b : Bool) :
    h.rel (s.statusTests p rep b).1 s := by
  unfold State.statusTests
  split
  · exact h.refl _
  · split
    · split
      · exact h.putRun s p _
      · exact h.refl _
    · dsimp only
      split
      · exact h.heatingTest s p _ _
      · exact h.refl _
    · exact h.suspendedTest s p _ _ _ _ _
    · split
      · exact h.putRun s p _
      · exact h.endRun s p _ _

theorem Framed.runEvaluation (h : Framed) (s : State) (p : Post) (rep : StatusReport) (c : Option DoorChange) (b : Bool) : h.rel ((s.runEvaluation p rep c b).1) s := by
  exact (h.statusTests _ _ _ _).trans ((h.doorStep _ _ _).trans (h.refreshLimits s p))

theorem Framed.removeUnitRequest (h : Framed) (s : State) (p : Post) (m : Mode) :
    h.rel (s.removeUnitRequest p m) s := by
  unfold State.removeUnitRequest
  split
  · split
    · exact h.removeRequest s p
    · exact h.refl _
  · exact h.refl _

theorem Framed.upgradeForced (h : Framed) (s : State) (p : Post) (pr : Profile) : h.rel (s.upgradeForced p pr) s := by
  unfold State.upgradeForced
  split
  · split
    · exact h.upgradeRequest s p _
    · exact h.refl _
  · exact h.refl _

theorem Framed.filingTest (h : Framed) (s : State) (p : Post) (pr : Profile) (m : Mode) (b : Bool) :
    h.rel (s.filingTest p pr m b) s := by
  unfold State.filingTest
  dsimp only
  split
  · exact h.refl _
  · split
    · exact h.fileRequest _ _ _ _
    · exact h.refl _

theorem Framed.filing (h : Framed) (s : State) (p : Post) (rep : StatusReport) (b : Bool) :
    h.rel (s.filing p rep b) s := by
  unfold State.filing
  dsimp only
  split
  · exact h.removeUnitRequest s p _
  · exact (h.filingTest _ _ _ _ _).trans ((h.upgradeForced _ _ _).trans (h.removeUnitRequest s p _))

theorem Framed.startTimer (h : Framed) (s : State) (p : Post) : h.rel (s.startTimer p) s := by
  unfold State.startTimer
  split
  · exact h.refl _
  · split
    · exact h.enterEnding s p _ _ _
    · exact h.refl _

theorem Framed.durationTimer (h : Framed) (s : State) (p : Post) : h.rel (s.durationTimer p) s := by
  unfold State.durationTimer
  split
  · exact h.refl _
  · split
    · exact h.enterEnding s p _ _ _
    · exact h.refl _

theorem Framed.suspensionTimer (h : Framed) (s : State) (p : Post) : h.rel (s.suspensionTimer p) s := by
  unfold State.suspensionTimer
  split
  · exact h.refl _
  · split
    · exact h.abortSuspension s p _
    · exact h.refl _

theorem Framed.stuckTimer (h : Framed) (s : State) (p : Post) : h.rel (s.stuckTimer p) s := by
  unfold State.stuckTimer
  split
  · exact h.refl _
  · split
    · split
      · exact (h.endRun _ _ _ _).trans (h.produce s p _ _ _)
      · exact h.refl _
    all_goals exact h.refl _

/-! ## The Trailer Table -/

theorem Framed.dirInsert (h : Framed) (s : State) (u : Word32) (p : Post) : h.rel (s.dirInsert u p) s := by
  exact h.directory s _

theorem Framed.dirRemove (h : Framed) (s : State) (p : Post) : h.rel (s.dirRemove p) s := by
  exact h.directory s _

theorem Framed.dirRepoint (h : Framed) (s : State) (u : Word32) (p : Post) : h.rel (s.dirRepoint u p) s := by
  exact h.directory s _

theorem Framed.cutShort (h : Framed) (s : State) (p : Post) (c : AbortCause) : h.rel (s.cutShort p c) s := by
  exact (h.removeRequest _ _).trans (h.endRun s p _ _)

theorem Framed.depart (h : Framed) (s : State) (p : Post) : h.rel (s.depart p) s := by
  exact (h.trailer _ _ _).trans ((h.dirRemove _ _).trans ((h.item _ _ _).trans ((h.emptySets _ _).trans
    (h.cutShort s p _))))

theorem Framed.departIfPresent (h : Framed) (s : State) (p : Post) : h.rel (s.departIfPresent p) s := by
  unfold State.departIfPresent; split; exacts [h.refl _, h.depart s p]

theorem Framed.announceEnrolment (h : Framed) (s : State) (p : Post) (i : ProfileId) : h.rel (s.announceEnrolment p i) s := by
  exact (h.clearFinding _ _ _ _).trans (h.item s p _)

theorem Framed.enrol (h : Framed) (s : State) (p : Post) (i : ProfileId) (pr : Profile) : h.rel (s.enrol p i pr) s := by
  exact (h.announceEnrolment _ _ _).trans (h.editTrailer s p _)

theorem Framed.bindKeeping (h : Framed) (s : State) (p : Post) (i : ProfileId) : h.rel (s.bindKeeping p i) s := by
  exact (h.announceEnrolment _ _ _).trans (h.editTrailer s p _)

theorem Framed.tryMatch (h : Framed) (s : State) (p : Post) (b : Bool) : h.rel (s.tryMatch p b) s := by
  unfold State.tryMatch
  split
  · split
    · exact h.bindKeeping s p _
    · exact h.enrol s p _ _
  · exact h.produce s p _ _ _

theorem Framed.settleBinding (h : Framed) (s : State) (p : Post) : h.rel ((s.settleBinding p).1) s := by
  unfold State.settleBinding
  split
  · dsimp only
    exact h.editTrailer s p _
  · dsimp only
    exact h.editTrailer s p _

theorem Framed.arriveRebuilt (h : Framed) (s : State) (p : Post) (rep : StatusReport) :
    h.rel (s.arriveRebuilt p rep) s := by
  unfold State.arriveRebuilt
  dsimp only
  split
  · exact (h.produce _ _ _ _ _).trans ((h.dirInsert _ _ _).trans (h.trailer s p _))
  · exact (h.dirInsert _ _ _).trans (h.trailer s p _)

theorem Framed.arriveUnknown (h : Framed) (s : State) (p : Post) (rep : StatusReport) : h.rel (s.arriveUnknown p rep) s := by
  exact (h.tryMatch _ _ _).trans ((h.item _ _ _).trans ((h.dirInsert _ _ _).trans (h.trailer s p _)))

theorem Framed.hold (h : Framed) (s : State) (o p : Post) (rep : StatusReport) : h.rel (s.hold o p rep) s := by
  exact (h.produce _ _ _ _ _).trans (h.trailer s p _)

theorem Framed.carry (h : Framed) (s : State) (o p : Post) (rep : StatusReport) : h.rel (s.carry o p rep) s := by
  unfold State.carry
  dsimp only
  refine (h.item _ _ _).trans ?_
  have placed := (h.trailer _ p (((s.cutShort o .move).trailer o).carried rep.model s.now)).trans
    ((h.withdrawActions _ p).trans (h.cutShort s o .move))
  have left := (h.dirRepoint _ rep.serial p).trans ((h.withdrawActions _ o).trans ((h.trailer _ o .vacant).trans
    ((h.clearFinding _ p .linkLost false).trans ((h.settleActions _ p).trans placed))))
  split
  · exact (h.settleBinding _ _).trans left
  · exact (h.tryMatch _ _ _).trans ((h.settleBinding _ _).trans left)

theorem Framed.countAbsent (h : Framed) (s : State) (p : Post) : h.rel (s.countAbsent p) s := by
  unfold State.countAbsent; dsimp only; split; exacts [(h.produce _ _ _ _ _).trans (h.editTrailer s p _), h.editTrailer s p _]

theorem Framed.stampStatus (h : Framed) (s : State) (p : Post) : h.rel (s.stampStatus p) s := by
  unfold State.stampStatus; split; exacts [h.refl _, h.editTrailer s p _]

theorem Framed.evaluate (h : Framed) (a : Arrival) (p : Post) (rep : StatusReport) (b : Bool) :
    h.rel (a.evaluate p rep b) a.s := by
  have filed : ∀ u e, h.rel u a.s → h.rel (u.filing p rep e) a.s := fun u e hu => (h.filing u p rep e).trans hu
  unfold Arrival.evaluate
  dsimp only
  have run : h.rel ((((a.s.frostEvaluation p rep a.before).fuelEvaluation p rep a.before).doorEvaluation p
      rep).1.runEvaluation p rep (((a.s.frostEvaluation p rep a.before).fuelEvaluation p rep a.before).doorEvaluation p
      rep).2 b).1 a.s :=
    (h.runEvaluation _ _ _ _ _).trans ((h.doorEvaluation _ _ _).trans ((h.fuelEvaluation _ _ _ _).trans
      (h.frostEvaluation _ _ _ _)))
  split
  · exact (h.walkForHours _ _).trans (filed _ _ run)
  · exact filed _ _ run

theorem Framed.discardRestored (h : Framed) (s : State) (l : Line) : h.rel (s.discardRestored l) s := by
  exact h.forEach _ _ (fun s p => by split; exacts [h.depart s p, h.refl _]) s

/-! ## A status at the table, with its rebuilds -/

/-- A frame that the rebuild history and the causes handed keep too. -/
structure FramedTable extends Framed where
  rebuilds : ∀ (s : State) l, rel { s with rebuilds := l } s
  causes : ∀ (s : State) l, rel { s with heldCauses := l } s

theorem FramedTable.recordRebuild (h : FramedTable) (s : State) : h.rel s.recordRebuild s := by
  unfold State.recordRebuild
  dsimp only
  split
  · split
    · exact (h.causes _ _).trans (h.rebuilds s _)
    · exact h.rebuilds s _
  · exact h.rebuilds s _

theorem FramedTable.rebuildAway (h : FramedTable) (s : State) (p : Post) : h.rel (s.rebuildAway p) s := by
  unfold State.rebuildAway
  exact (h.recordRebuild _).trans ((h.trailer _ _ _).trans ((h.emptySets _ _).trans ((h.dirRemove _ _).trans
    (h.cutShort s p _))))

theorem FramedTable.verifyAt (h : FramedTable) (s : State) (p : Post) : h.rel (s.verifyAt p).s s := by
  unfold State.verifyAt
  dsimp only
  split
  · exact h.refl _
  · split
    · dsimp only
      exact (h.recordRebuild _).trans (h.trailer s p _)
    · dsimp only
      exact h.rebuildAway s p

theorem FramedTable.move (h : FramedTable) (a : Arrival) (o p : Post) (rep : StatusReport) :
    h.rel (a.move o p rep).s a.s := by
  unfold Arrival.move
  dsimp only
  split
  · dsimp only
    exact h.carry _ _ _ _
  · dsimp only
    exact (h.arriveRebuilt _ _ _).trans ((h.emptySets _ _).trans (h.rebuildAway _ _))

theorem FramedTable.arrive (h : FramedTable) (a : Arrival) (p : Post) (rep : StatusReport) :
    h.rel (a.arrive p rep).s a.s := by
  unfold Arrival.arrive
  split
  · split
    · exact h.move a _ p rep
    · exact h.hold _ _ _ _
  · unfold Arrival.on
    dsimp only
    split
    · exact h.arriveRebuilt _ _ _
    · exact h.arriveUnknown _ _ _

theorem FramedTable.retryHeld (h : FramedTable) (a : Arrival) (p : Post) (rep : StatusReport) :
    h.rel (a.retryHeld p rep).s a.s := by
  unfold Arrival.retryHeld
  split
  · unfold Arrival.on
    dsimp only
    exact (h.tryMatch _ _ _).trans ((h.dirInsert _ _ _).trans ((h.trailer _ _ _).trans ((h.emptySets _ _).trans
      ((h.clearFinding _ _ _ _).trans (h.item _ _ _)))))
  · split
    · unfold Arrival.on
      exact (h.move _ _ _ _).trans (h.clearFinding _ _ _ _)
    · exact h.refl _

theorem FramedTable.same (h : FramedTable) (a : Arrival) (p : Post) (rep : StatusReport) :
    h.rel (a.same p rep).s a.s := by
  unfold Arrival.same
  split
  · exact h.refl _
  · unfold Arrival.on
    dsimp only
    exact (h.clearLinkLost _ _ _).trans (h.editTrailer _ _ _)
  · unfold Arrival.on
    dsimp only
    exact (h.tryMatch _ _ _).trans (h.editTrailer _ _ _)
  · exact h.retryHeld a p rep
  · unfold Arrival.on
    dsimp only
    have bound := (h.settleBinding (a.s.editTrailer p fun t => { t with model := rep.model }) p).trans
      (h.editTrailer a.s p _)
    split
    · split
      · exact (h.item _ _ _).trans bound
      · exact bound
    · exact (h.tryMatch _ _ _).trans bound

theorem FramedTable.lifecycle (h : FramedTable) (a : Arrival) (p : Post) (rep : StatusReport) :
    h.rel (a.lifecycle p rep).s a.s := by
  unfold Arrival.lifecycle
  dsimp only
  split
  · split
    · exact h.depart _ _
    · split
      · exact h.item _ _ _
      · exact h.refl _
  · split
    · exact h.countAbsent _ _
    · split
      · exact h.item _ _ _
      · exact h.refl _
  · split
    · exact h.arrive a p rep
    · split
      · exact h.same a p rep
      · exact (h.arrive _ _ _).trans (h.depart _ _)

theorem FramedTable.statusAtTable (h : FramedTable) (s : State) (p : Post) (rep : StatusReport) (b : Bool) :
    h.rel (s.statusAtTable p rep b) s := by
  have stamped : h.rel (((s.verifyAt p).lifecycle p rep).s.stampStatus p) s :=
    (h.stampStatus _ _).trans ((h.lifecycle _ _ _).trans (h.verifyAt s p))
  unfold State.statusAtTable Arrival.on
  dsimp only
  split <;> split <;> try split
  all_goals
    first
    | exact stamped
    | exact (h.produce _ _ _ _ _).trans stamped
    | exact (h.evaluate _ _ _ _).trans stamped
    | exact (h.produce _ _ _ _ _).trans ((h.evaluate _ _ _ _).trans stamped)

/-! ## The frame of Safety.lean -/

/-- A state with everything that the primitive updates of `Framed` touch cleared. -/
def State.untouched (s : State) : State :=
  { s with
    records := State.reset.records, outputs := State.reset.outputs, actions := State.reset.actions
    queues := State.reset.queues, committed := State.reset.committed, stations := [], notices := []
    noticesLost := false, tx := none, stack := [], nextPush := 1, directory := [] }

/-- The same, with the rebuild history and the causes handed cleared. -/
def State.outside (s : State) : State := { s.untouched with rebuilds := [], heldCauses := [] }

/-- What the primitive updates do not touch stays, as a frame. -/
def Framed.untouched : Framed :=
  { rel := fun t s => t.untouched = s.untouched, refl := fun _ => rfl, after := fun x y => x.trans y
    trailer := fun _ _ _ => rfl, output := fun _ _ _ => rfl, inForce := fun _ _ _ => rfl, queue := fun _ _ _ => rfl
    load := fun _ _ _ => rfl, stations := fun _ _ => rfl, notices := fun _ _ => rfl, noticesLost := fun _ _ => rfl
    sent := fun _ _ _ => rfl, stack := fun _ _ _ => rfl, directory := fun _ _ => rfl }

/-- What no status touches stays, as a frame. -/
def FramedTable.outside : FramedTable :=
  { rel := fun t s => t.outside = s.outside, refl := fun _ => rfl, after := fun x y => x.trans y
    trailer := fun _ _ _ => rfl, output := fun _ _ _ => rfl, inForce := fun _ _ _ => rfl, queue := fun _ _ _ => rfl
    load := fun _ _ _ => rfl, stations := fun _ _ => rfl, notices := fun _ _ => rfl, noticesLost := fun _ _ => rfl
    sent := fun _ _ _ => rfl, stack := fun _ _ _ => rfl, directory := fun _ _ => rfl, rebuilds := fun _ _ => rfl
    causes := fun _ _ => rfl }

/-- The transmitter goes on, or takes up a notice from idle, as a frame. -/
def FramedTable.transmitter : FramedTable :=
  { rel := fun t s => TxGoesOn s t, refl := TxGoesOn.refl, after := fun x y => y.trans x
    trailer := fun _ _ _ => .inl rfl, output := fun _ _ _ => .inl rfl, inForce := fun _ _ _ => .inl rfl
    queue := fun _ _ _ => .inl rfl, load := fun _ _ _ => .inl rfl, stations := fun _ _ => .inl rfl
    notices := fun _ _ => .inl rfl, noticesLost := fun _ _ => .inl rfl, sent := fun _ n h => .inr ⟨h, n, rfl⟩
    stack := fun _ _ _ => .inl rfl, directory := fun _ _ => .inl rfl, rebuilds := fun _ _ => .inl rfl
    causes := fun _ _ => .inl rfl }

/-- Two states that every frame relates differ on the trailer side only. -/
theorem OutsideSame.of_framed {s t : State} (h : ∀ f : FramedTable, f.rel t s) : OutsideSame s t :=
  have c {α : Type} (π : State → α) : π t.outside = π s.outside := congrArg π (h .outside)
  { runCounter := c State.runCounter, yardOffset := c State.yardOffset, clockInvalid := c State.clockInvalid
    keySwitch := c State.keySwitch, rateSwitch := c State.rateSwitch, rate := c State.rate
    mainsPresent := c State.mainsPresent, store := c State.store, invalidBlocks := c State.invalidBlocks
    asFactory := c State.asFactory, write := c State.write, config := c State.config
    startPrimary := c State.startPrimary, startSecondary := c State.startSecondary
    imageNumber := c State.imageNumber, weather := c State.weather, rx := c State.rx
    discardedFrames := c State.discardedFrames, overruns := c State.overruns, held := c State.held
    replies := c State.replies, tx := h .transmitter, freeCount := c State.freeCount, pending := c State.pending
    phase := c State.phase, restartRecord := c State.restartRecord, lineA := c State.lineA, lineB := c State.lineB
    posts := c State.posts }

/-- Two states that every frame relates hold the same rebuild history and causes handed. -/
theorem NoRebuild.of_framed {s t : State} (h : ∀ f : Framed, f.rel t s) : NoRebuild s t :=
  have c {α : Type} (π : State → α) : π t.untouched = π s.untouched := congrArg π (h .untouched)
  { rebuilds := c State.rebuilds, heldCauses := c State.heldCauses }

end Sys2Proof.Machine
end

