-- ==== Sys2Proof/Laws/PerInstr.lean ====
section
/-! SUPPORT. Laws of the commands as syntax, one lemma for each constructor of `Instr`. -/

namespace Sys2Proof.Laws.Syntax

/-- A well-formed command that is a request has a request frame that the module receives: its payload is at most 272 bytes
long (R177). -/
def Statement (i : Instr) : Prop := i.wf = true → ∀ f, i.frame = some f → f.payload.length ≤ Config.maxPayload

/-- A command that is an event has no request frame. -/
theorem of_event {i : Instr} (h : i.frame = none) : Statement i := by
  intro _ f hf
  rw [h] at hf
  cases hf

/-- A request's own frame decides its law. -/
theorem of_request {i : Instr} {g : HostFrame} (h : i.frame = some g)
    (hl : i.wf = true → g.payload.length ≤ Config.maxPayload) : Statement i := by
  intro hw f hf
  rw [h] at hf
  cases hf
  exact hl hw

theorem roundStart (line : Line) : Statement (.roundStart line) := of_event rfl

theorem status (line : Line) (bytes : List Byte) : Statement (.status line bytes) := of_event rfl

theorem responseWindowExpiry (line : Line) : Statement (.responseWindowExpiry line) := of_event rfl

theorem postFrameGapTimeout (line : Line) : Statement (.postFrameGapTimeout line) := of_event rfl

theorem postLineStrayBytes (line : Line) (bytes : List Byte) : Statement (.postLineStrayBytes line bytes) := of_event rfl

theorem startTimerExpiry (post : Post) : Statement (.startTimerExpiry post) := of_event rfl

theorem maxDurationExpiry (post : Post) : Statement (.maxDurationExpiry post) := of_event rfl

theorem suspensionLimitExpiry (post : Post) : Statement (.suspensionLimitExpiry post) := of_event rfl

theorem stuckTimerExpiry (post : Post) : Statement (.stuckTimerExpiry post) := of_event rfl

theorem gatherHoldExpiry (post : Post) : Statement (.gatherHoldExpiry post) := of_event rfl

theorem hostFrame (bytes : List Byte) : Statement (.hostFrame bytes) := of_event rfl

theorem hostFrameGapTimeout : Statement .hostFrameGapTimeout := of_event rfl

theorem unknownRequest (type : Byte) (tag : Word16) (payload : List Byte) : Statement (.unknownRequest type tag payload) :=
  of_request rfl (by intro h; simp [Instr.wf] at h; exact h.2)

theorem yardStatus (tag : Word16) : Statement (.yardStatus tag) := of_request rfl
  (fun _ => by simp [Config.maxPayload])

theorem lineQuery (tag : Word16) (line : Byte) : Statement (.lineQuery tag line) := of_request rfl
  (fun _ => by simp [Config.maxPayload])

theorem trailerQuery (tag : Word16) (post : Byte) : Statement (.trailerQuery tag post) := of_request rfl
  (fun _ => by simp [Config.maxPayload])

theorem trailerList (tag : Word16) (filter start : Byte) : Statement (.trailerList tag filter start) := of_request rfl
  (fun _ => by simp [Config.maxPayload])

theorem findUnit (tag : Word16) (serial : Word32) : Statement (.findUnit tag serial) := of_request rfl
  (fun _ => by simp [bytes32, beBytes, Config.maxPayload])

theorem bindProfile (tag : Word16) (post profile : Byte) : Statement (.bindProfile tag post profile) := of_request rfl
  (fun _ => by simp [Config.maxPayload])

theorem releasePost (tag : Word16) (post : Byte) : Statement (.releasePost tag post) := of_request rfl
  (fun _ => by simp [Config.maxPayload])

theorem setWeather (tag : Word16) (rh ta : Word16) : Statement (.setWeather tag rh ta) := of_request rfl
  (fun _ => by simp [bytes16, beBytes, Config.maxPayload])

theorem defrostNow (tag : Word16) (post : Byte) : Statement (.defrostNow tag post) := of_request rfl
  (fun _ => by simp [Config.maxPayload])

theorem defrostCancel (tag : Word16) (post : Byte) (minutes : Word16) : Statement (.defrostCancel tag post minutes) := of_request rfl
  (fun _ => by simp [bytes16, beBytes, Config.maxPayload])

theorem defrostInhibit (tag : Word16) (post on : Byte) : Statement (.defrostInhibit tag post on) := of_request rfl
  (fun _ => by simp [Config.maxPayload])

theorem feederQuery (tag : Word16) (queue : Byte) : Statement (.feederQuery tag queue) := of_request rfl
  (fun _ => by simp [Config.maxPayload])

theorem declareCustody (tag : Word16) (post : Byte) (custodyTag : List Byte) : Statement (.declareCustody tag post custodyTag) := of_request rfl
  (by intro h; simp [Instr.wf] at h; simp [Config.maxPayload]; omega)

theorem clearCustody (tag : Word16) (post : Byte) : Statement (.clearCustody tag post) := of_request rfl
  (fun _ => by simp [Config.maxPayload])

theorem setRaiseMask (tag : Word16) (post : Byte) (mask : Word16) : Statement (.setRaiseMask tag post mask) := of_request rfl
  (fun _ => by simp [bytes16, beBytes, Config.maxPayload])

theorem ackFinding (tag : Word16) (post cls : Byte) : Statement (.ackFinding tag post cls) := of_request rfl
  (fun _ => by simp [Config.maxPayload])

theorem takeException (tag : Word16) : Statement (.takeException tag) := of_request rfl
  (fun _ => by simp [Config.maxPayload])

theorem peekExceptions (tag : Word16) : Statement (.peekExceptions tag) := of_request rfl
  (fun _ => by simp [Config.maxPayload])

theorem postOutput (tag : Word16) (post contactor beacon forceOff forceOn : Byte) : Statement (.postOutput tag post contactor beacon forceOff forceOn) := of_request rfl
  (fun _ => by simp [Config.maxPayload])

theorem storeRead (tag : Word16) (block : Byte) : Statement (.storeRead tag block) := of_request rfl
  (fun _ => by simp [Config.maxPayload])

theorem storeWrite (tag : Word16) (block : Byte) (content : List Byte) : Statement (.storeWrite tag block content) := of_request rfl
  (by intro h; simp [Instr.wf] at h; simp [Config.maxPayload]; omega)

theorem storeWriteComplete : Statement .storeWriteComplete := of_event rfl

theorem setClock (tag : Word16) (setting : Word32) : Statement (.setClock tag setting) := of_request rfl
  (fun _ => by simp [bytes32, beBytes, Config.maxPayload])

theorem restart (tag : Word16) : Statement (.restart tag) := of_request rfl
  (fun _ => by simp [Config.maxPayload])

theorem transmitComplete : Statement .transmitComplete := of_event rfl

theorem mainsLoss : Statement .mainsLoss := of_event rfl

theorem imageBlockWritten : Statement .imageBlockWritten := of_event rfl

theorem mainsReturn : Statement .mainsReturn := of_event rfl

theorem supplyFail : Statement .supplyFail := of_event rfl

theorem powerOn (batteryGood : Bool) : Statement (.powerOn batteryGood) := of_event rfl

theorem keySwitchChange (position : KeySwitch) : Statement (.keySwitchChange position) := of_event rfl

theorem lineRateSwitchChange (position : LineRate) : Statement (.lineRateSwitchChange position) := of_event rfl

theorem imageBlockErased : Statement .imageBlockErased := of_event rfl

end Sys2Proof.Laws.Syntax
end

