-- ==== Sys2Proof/Tests/Slice0.lean ====
section
/-! SUPPORT. The model's own tests: ill-formed commands that the checks refuse; the manual's worked cases; and for each
statement with hypotheses a state and operands that meet them, one clause at a time. -/

namespace Sys2Proof.Tests

set_option Elab.async false

open Sys2Proof Sys2Proof.Machine

/-! ## WellFormed: each check refuses an ill-formed command -/

theorem test_wf_status : (Instr.status .a (List.replicate 517 0)).wf = false := by decide +kernel
theorem test_wf_unknown_known : (Instr.unknownRequest 0x17 0 []).wf = false := by decide
theorem test_wf_unknown_long : (Instr.unknownRequest 0x18 0 (List.replicate 273 0)).wf = false := by decide +kernel
theorem test_wf_tag : (Instr.declareCustody 0 0 (List.replicate 13 0x41)).wf = false := by decide
theorem test_wf_content : (Instr.storeWrite 0 5 (List.replicate 255 0)).wf = false := by decide +kernel
theorem test_wf_accepts : (Instr.storeWrite 0 5 (List.replicate 256 0)).wf = true ∧
    (Instr.unknownRequest 0x18 0 (List.replicate 272 0)).wf = true ∧
    (Instr.declareCustody 0 0 (List.replicate 12 0x41)).wf = true ∧ (Instr.status .b []).wf = true := by decide +kernel

/-! ## No row of the table gives bits -/

theorem test_table_word : decodeTableWord 8 1 = none := rfl
theorem test_fetch_word : (State.reset.withFetchWord 8 1).pending = [] := rfl
theorem test_first_step : step { State.reset with pending := [.keySwitchChange .service] }
    = .next { State.reset with keySwitch := .service } := rfl

/-! ## Worked cases of the manual -/

/-- The curve of 6.9. -/
def curve69 : Vector (Nat × Nat) 9 :=
  #v[(40, 150), (120, 420), (200, 780), (300, 1200), (420, 1800), (560, 2450), (700, 3100), (850, 3700), (960, 3700)]

theorem test_conversion : [20, 40, 130, 300, 350, 555, 900, 1000].map (convert curve69)
    = [150, 150, 465, 1200, 1450, 2426, 3700, 3700] := by decide +kernel
theorem test_raw_valid : [10, 15, 16, 1007, 1008, 1010].map rawValid = [false, false, true, true, false, false] := by
  decide
theorem test_filter : [filterStep 23200 1445, filterStep 23180 1460, filterStep 23225 1440, filterStep 23179 1445]
    = [23180, 23225, 23179, 23165] := by decide
theorem test_reported : [23180, 23225, 23179, 49728, 23165].map reportedLevel = [1449, 1452, 1449, 3108, 1448] := by
  decide
/-- The ordinary window of 6.9. -/
theorem test_window : burnRate 6 612 = 35 ∧ smoothBurn (some 32) 35 = 32 ∧ hoursRemaining (some 32) 1458 = 455 := by
  decide
/-- The rows of 7.6. -/
theorem test_history : historyAt 0 none 100 = (0x8000, 100) ∧ historyAt 0x8000 (some 100) 100 = (0x8000, 100) ∧
    historyAt 0x8000 (some 100) 101 = (0xC000, 101) ∧ historyAt 0xC000 (some 101) 104 = (0x9800, 104) ∧
    historyAt 0x9800 (some 104) 125 = (0x8000, 125) ∧ historyAt 0xB004 (some 100) 102 = (0xAC01, 102) := by decide
theorem test_aged_view : agedView 0x9800 (some 104) 105 = 0x4C00 ∧ doorLoad 0x4C00 = 6 ∧
    agedView 0xB004 (some 100) 102 = 0x2C01 ∧ doorLoad 0x2C01 = 7 ∧ agedView 0xC100 (some 50) 57 = 0x0182 ∧
    doorLoad 0x0182 = 4 ∧ agedView 0x8000 (some 100) 118 = 0 ∧ agedView 0x9800 (some 60) 55 = 0x9800 := by decide
/-- The accruals of 3.8: the aged history, the saturation, the long gap and the largest. -/
theorem test_accrual : (let t := ({ TrailerRecord.vacant with f := 31000, r := 5 }).accrue 6 8 7 12; (t.f, t.r))
      = (31067, 13) ∧
    (let t := ({ TrailerRecord.vacant with f := 65500, r := 5 }).accrue 6 8 7 12; (t.f, t.r)) = (65535, 13) ∧
    (let t := ({ TrailerRecord.vacant with f := 40000, r := 3 }).accrue 300 9 4 10; (t.f, t.r)) = (42437, 11) ∧
    (let t := ({ TrailerRecord.vacant with f := 0, r := 15 }).accrue 300 20 24 16; (t.f, t.r)) = (13200, 15) := by decide
theorem test_melt : (({ TrailerRecord.vacant with f := 400 }).melt 5 85).f = 360 ∧
    (({ TrailerRecord.vacant with f := 3000 }).melt 300 250).f = 0 ∧ meltRate 20 = 2 := by decide
theorem test_coil_term : coilTerm (some (-180)) (-240) = 6 ∧ coilTerm (some (-300)) (-200) = 0 ∧
    coilTerm none (-250) = 0 ∧ coilTerm (some 100) (-250) = 20 := by decide
theorem test_moisture : moistureOf 80 285 = 12 ∧ moistureOf 92 (-20) = 7 ∧ moistureOf 92 310 = 14 ∧
    moistureOf 100 500 = 16 := by decide
theorem test_time_step : timeStep 50000 52000 = 300 ∧ timeStep 2000 2000 = 1 ∧ timeStep 1000 1005 = 5 := by decide
theorem test_standing : (Weather.mk 80 285 (some 900)).standing 2699 = .current ∧
    (Weather.mk 80 285 (some 900)).standing 2700 = .stale ∧ (Weather.mk 80 285 (some 900)).standing 8100 = .stale ∧
    (Weather.mk 80 285 (some 900)).standing 8101 = .default ∧ (Weather.mk 0 0 none).standing 0 = .default := by decide

/-- The requests of 4.5, with their pass counts. -/
def t1 (n : Nat) : Request := { post := 6, cls := .forced, filed := 1000, load := 12, passes := n }
def t2 : Request := { post := 11, cls := .threshold, filed := 1100, load := 8, passes := 0 }
def t3 (n : Nat) : Request := { post := 19, cls := .threshold, filed := 1200, load := 6, passes := n }
def t4 : Request := { post := 24, cls := .threshold, filed := 1400, load := 2, passes := 0 }
def t6 : Request := { post := 12, cls := .host, filed := 1500, load := 5, passes := 0 }
def t7 : Request := { post := 20, cls := .threshold, filed := 1800, load := 1, passes := 0 }
def all (_ : Request) : Bool := true

theorem test_walk_1250 : walkFrom (some 40) all 30 [] [t1 0, t2, t3 0] = ([t2], [t1 1, t3 0]) := by decide
theorem test_walk_1400 : walkFrom (some 40) all 38 [] [t1 1, t3 0, t4] = ([t4], [t1 2, t3 1]) := by decide
theorem test_walk_1500 : walkFrom (some 40) all 40 [] (insertRequest t6 [t1 2, t3 1]) = ([], [t1 2, t6, t3 1]) := by
  decide
theorem test_walk_1700 : walkFrom (some 40) all 32 [] [t1 2, t6, t3 1] = ([t6], [t1 3, t3 1]) := by decide
theorem test_walk_1800 : walkFrom (some 40) all 37 [] [t1 3, t3 1, t7] = ([], [t1 3, t3 1, t7]) := by decide
theorem test_walk_1900 : walkFrom (some 40) all 21 [] [t1 3, t3 1, t7] = ([t1 3, t3 1, t7], []) := by decide

/-! ## A small yard: A1 installed on line A, UP, with an ENROLLED trailer; the run counter at 1000 -/

/-- A profile within its ranges. -/
def prof : Profile :=
  { model := 1, load := 20, fth := 1000, minInterval := 0, maxInterval := 3600, termination := 150, maxDuration := 600,
    suspendLimit := 60, minCurrent := 100, sender := true, curve := curve69, refuel := 300, tolerance := 20,
    engineBurn := 45, defrostBurn := 90, lowHours := 120, ajar := 900, mask := 0x7FFF }

/-- The trailer at A1. -/
def trailer : TrailerRecord :=
  { TrailerRecord.vacant with
    state := .enrolled, serial := 7, model := 1, profile := some 0, arrival := some 0, lastStatus := some 990,
    lastEval := some 990, tr := some (-180), tc := some (-240), f := 500, mask := 0x8001,
    door := { DoorGroup.vacant with held := some .closed } }

def entry : PostEntry := { state := .live, missed := 0, lastGood := some 990, pluggedNoUnit := false }

def output : OutputState :=
  { contactor := true, beacon := false, forceOff := false, forceOn := false, delivered := none, actual := none,
    mismatch := 0, nextToggle := true, thisToggle := none }

def settings : LineSettings := { installed := 1, floor := 5, window := 30, recover := 3 }

def lineUp : LineController := { LineController.start .up settings with sinceUp := some 9, lastStart := some 990 }

/-- The yard with a record at A1. -/
def yardWith (t : TrailerRecord) : State :=
  { State.reset with
    runCounter := 1000, lineA := lineUp
    config := { YardConfig.factory with
      lineA := settings, profiles := YardConfig.factory.profiles.set 0 (some prof)
      capacity := Vector.replicate 8 40 }
    posts := (Vector.replicate 240 none).set 0 (some entry)
    outputs := (Vector.replicate 240 none).set 0 (some output)
    records := (Vector.replicate 240 TrailerRecord.vacant).set 0 t
    directory := if t.state.listed then [(t.serial, 0)] else [] }

def yard : State := yardWith trailer

/-- A run of the trailer at A1. -/
def aRun (st : RunState) : RunRecord :=
  { state := st, grantTime := 900, cls := .host, queue := 0, load := 20, f0 := 500, limits := prof.limits,
    heatingTime := 0, heatCount := 0, heaterWeak := false, suspendedTime := 0, byAction := false, link := none }

/-- The yard with a run in a state. -/
def yardRun (st : RunState) : State :=
  { yardWith { trailer with run := some (aRun st) } with committed := (Vector.replicate 9 0).set 0 20 }

def aRequest (c : RequestClass) : Request := { post := 0, cls := c, filed := 950, load := 20, passes := 1 }

/-- The yard with a queued request of a class. -/
def yardQueued (c : RequestClass) : State := { yard with queues := (Vector.replicate 9 []).set 0 [aRequest c] }

/-- A round on line A with A1's exchange in flight. -/
def aRound (retry : Bool) : Round :=
  { beganRecovering := false, hadGood := false, spoiled := false, remaining := []
    exchange := { post := 0, retry := retry, levels := .off } }

def yardRound (retry : Bool) (misses : Nat) : State :=
  { yard with lineA := { lineUp with round := some (aRound retry), misses := misses } }

/-- A store write in flight. -/
def aWrite : StoreWrite := { block := 5, content := (BlockContent.defaults 4 900).bytes, tag := 9 }

/-- A STATUS of the trailer at A1. -/
def report (mode : Mode) (door : DoorReport) : StatusReport :=
  { plugLink := .unit, serial := 7, model := 1, mode := mode, power := .shore, tr := some (-180), tc := some (-240),
    door := door, heaterCurrent := 0, fuelRaw := 350, actual := .off }

def aReply : Reply := { type := 0x01, tag := 1, status := .ok, body := [] }
def aNotice : Notice := { post := 0, items := [{ yardTime := 0, body := .departed 7 }] }

/-! ## States that meet the statements' hypotheses, one clause at a time -/

theorem ready_yard : yard.Ready := ⟨rfl, rfl, by decide⟩

/-- A restart is pending and its flush has two blocks to write. -/
def flushing : State := { yard with phase := .flushing 38 [List.replicate 256 1, List.replicate 256 2] }

theorem next_tick (s : State) (h : s.pending = []) : ∃ t, step s = .next t := by
  unfold step; rw [h]; exact ⟨_, rfl⟩

theorem witness_StepRunsTheFront :
    ({ yard with pending := [.transmitComplete, .mainsLoss] } : State).pending = [.transmitComplete, .mainsLoss] ∧
    yard.pending = [] := ⟨rfl, rfl⟩

theorem witness_EveryCommandEnds_idle : ∃ t, exec .transmitComplete yard = .next t ∧ t.tx = none := ⟨_, rfl, rfl⟩

/-- A frame of the exception stack. -/
def aFrame (n : Nat) : ExceptionFrame :=
  { push := n, cls := .fuelLoss, post := 0, yardTime := 900, detail := 0, cause := 0, truncated := false }

def aStation (p : Post) (n : Nat) : Station :=
  { post := p, opened := 999, items := List.replicate n { yardTime := 999, body := .enrolled 0 } }

/-- Every buffer at its bound. -/
def fullYard : State :=
  { yard with
    stack := (List.range 8).map aFrame, nextPush := 65535, replies := List.replicate 4 aReply
    stations := [0, 1, 2, 3, 4, 5, 6, 7, 8, 9, 10, 239].map fun p => aStation p 5
    notices := List.replicate 24 aNotice, discardedFrames := 65535, overruns := 65535 }

theorem witness_BuffersStayBounded : fullYard.StackLaw ∧ fullYard.BufferLaw ∧ ∃ t, step fullYard = .next t := by
  refine ⟨?_, ?_, next_tick _ rfl⟩
  · unfold State.StackLaw; decide
  · unfold State.BufferLaw; decide

theorem get_first {α : Type} {n : Nat} (x y : α) (h : 0 < n) (i : Fin n) :
    ((Vector.replicate n x).set 0 y h).get i = if i.val = 0 then y else x := by
  simp only [Vector.get_eq_getElem, Vector.getElem_set, Vector.getElem_replicate, eq_comm (a := 0)]

theorem yard_trailer (t : TrailerRecord) (p : Post) :
    (yardWith t).trailer p = if p.val = 0 then t else .vacant := get_first _ _ (by decide) p

theorem yard_queue (t : TrailerRecord) (q : Queue) : (yardWith t).queue q = [] := by
  simp [State.queue, yardWith, State.reset, Vector.get_eq_getElem]

theorem yard_load (t : TrailerRecord) (q : Queue) : (yardWith t).load q = 0 := by
  simp [State.load, yardWith, State.reset, Vector.get_eq_getElem]

/-- A1 with custody CLOSED over a closed door. -/
def yardCustody : State := yardWith { trailer with custody := .closed [0x41] }

theorem witness_CustodyStaysLawful : yardCustody.CustodyLaw ∧ (yardCustody.trailer 0).custody = .closed [0x41] ∧
    ∃ t, step yardCustody = .next t := by
  refine ⟨fun p tag _ => ?_, by rw [yardCustody, yard_trailer]; rfl, next_tick _ rfl⟩
  rw [yardCustody, yard_trailer]; split <;> decide

/-- With no run, no request and no committed load the law of the grants holds. -/
theorem law_quiet (s : State) (run : ∀ p, s.run p = none) (queue : ∀ q, s.queue q = []) (load : ∀ q, s.load q = 0) :
    s.GrantLaw := by
  refine ⟨fun p h => ?_, fun q r h => ?_, fun q => ?_, fun q _ _ r h => ?_, fun q => ?_, fun q => ?_⟩
  · rw [run] at h; cases h
  · rw [queue] at h; cases h
  · rw [queue]; exact .nil
  · rw [queue] at h; cases h
  · rw [queue]; exact .nil
  · refine (load q).trans (Eq.symm ?_)
    unfold State.grantedLoad; simp only [run]; exact List.sum_map_zero

theorem law_yard : yard.GrantLaw :=
  law_quiet _ (fun p => by unfold State.run yard; rw [yard_trailer]; split <;> rfl) (yard_queue _) (yard_load _)

theorem queued_queue (c : RequestClass) (q : Queue) :
    (yardQueued c).queue q = if q.val = 0 then [aRequest c] else [] := get_first _ _ (by decide) q

theorem law_queued (c : RequestClass) : (yardQueued c).GrantLaw := by
  have one : ∀ q, ∀ r ∈ (yardQueued c).queue q, q.val = 0 ∧ r = aRequest c := fun q r h => by
    rw [queued_queue] at h; split at h
    · exact ⟨‹_›, List.mem_singleton.mp h⟩
    · cases h
  refine ⟨law_yard.runEnrolled, fun q r h => ?_, fun q => ?_, fun q q' n r h r' h' => ?_, fun q => ?_,
    law_yard.committed⟩
  · obtain ⟨-, rfl⟩ := one q r h
    show (yard.trailer 0).state = .enrolled ∧ (yard.trailer 0).run = none
    rw [yard, yard_trailer]; exact ⟨rfl, rfl⟩
  · rw [queued_queue]; split
    · exact List.nodup_singleton _
    · exact .nil
  · exact absurd (Fin.ext ((one q r h).1.trans (one q' r' h').1.symm)) n
  · unfold ordered; rw [queued_queue]; split
    · exact List.pairwise_singleton _ _
    · exact .nil

theorem run_run (st : RunState) (p : Post) :
    (yardRun st).run p = if p.val = 0 then some (aRun st) else none := by
  show ((yardWith { trailer with run := some (aRun st) }).trailer p).run = _
  rw [yard_trailer]; split <;> rfl

theorem run_load (st : RunState) (q : Queue) : (yardRun st).grantedLoad q = (yardRun .commanded).grantedLoad q := by
  unfold State.grantedLoad
  refine congrArg List.sum (List.map_congr_left fun p _ => ?_)
  rw [run_run, run_run]; by_cases h : p.val = 0
  · simp only [h, if_true]; rfl
  · simp only [h, if_false]

theorem law_run (st : RunState) : (yardRun st).GrantLaw := by
  have queue : ∀ q, (yardRun st).queue q = [] := fun q => yard_queue trailer q
  have load : ∀ q, (yardRun st).load q = if q.val = 0 then 20 else 0 := fun q => get_first _ _ (by decide) q
  refine ⟨fun p h => ?_, fun q r h => ?_, fun q => ?_, fun q _ _ r h => ?_, fun q => ?_, fun q => ?_⟩
  · rw [run_run] at h; split at h
    · show ((yardWith { trailer with run := some (aRun st) }).trailer p).state = _
      rw [yard_trailer, if_pos ‹_›]; rfl
    · cases h
  · rw [queue] at h; cases h
  · rw [queue]; exact .nil
  · rw [queue] at h; cases h
  · rw [queue]; exact .nil
  · rw [load, run_load]; unfold State.grantedLoad; simp only [run_run]
    decide +kernel +revert

theorem witness_GrantsStayLawful : (yardRun .commanded).GrantLaw ∧ (yardQueued .host).GrantLaw ∧
    (∃ t, step (yardRun .commanded) = .next t) ∧ ∃ t, step (yardQueued .host) = .next t :=
  ⟨law_run _, law_queued _, next_tick _ rfl, next_tick _ rfl⟩

theorem law_directory : yard.DirectoryLaw := by
  refine ⟨List.pairwise_singleton _ _, fun e h => ?_, fun p h => ?_⟩
  · rw [List.mem_singleton.mp (show e ∈ [((7 : Word32), (0 : Post))] from h), yard, yard_trailer]; exact ⟨rfl, rfl⟩
  · rw [yard, yard_trailer] at h ⊢; split at h
    · rw [if_pos ‹_›, show p = 0 from Fin.ext ‹_›]; exact List.mem_singleton.mpr rfl
    · cases h

theorem witness_DirectoryStaysLawful : yard.DirectoryLaw ∧ yard.directory = [(7, 0)] ∧ ∃ t, step yard = .next t :=
  ⟨law_directory, rfl, next_tick _ rfl⟩

theorem witness_TableStandsStill : flushing.phase.restartPending = true ∧ flushing.lineA.round = none ∧
    flushing.lineB.round = none ∧ ∃ t, exec .imageBlockWritten flushing = .next t ∧ t.phase.restartPending = true :=
  ⟨rfl, rfl, rfl, _, rfl, rfl⟩

/-! ## Frames -/

theorem witness_RequestFrameReadsBack : (Instr.storeWrite 7 101 (List.replicate 256 0x7E)).wf = true ∧
    (Instr.storeWrite 7 101 (List.replicate 256 0x7E)).frame = some ⟨0x15, 7, 101 :: List.replicate 256 0x7E⟩ ∧
    (Instr.unknownRequest 0xFF 7 []).wf = true ∧ (Instr.unknownRequest 0xFF 7 []).frame = some ⟨0xFF, 7, []⟩ ∧
    (RequestType.ofCode 0xFF) = none := by decide +kernel

theorem witness_WireBytesDoWhatTheRowDoes : (Instr.takeException 0x7D7E).wf = true ∧
    (Instr.takeException 0x7D7E).frame = some ⟨0x11, 0x7D7E, []⟩ ∧ yard.rx = .hunting := ⟨rfl, rfl, rfl⟩

/-- A STATUS with every number at an end of its field. -/
def extreme : StatusReport :=
  { report .fault .unknown with tr := some (-32767), tc := some 32767, heaterCurrent := 65535, fuelRaw := 1023 }

theorem fits_extreme : extreme.fits :=
  ⟨fun v h => by cases h; decide, fun v h => by cases h; decide, by decide, by decide⟩
theorem witness_PostLineFramesReadBack : 255 < 256 ∧ extreme.fits ∧ (Piu.start 255).address = 255 ∧
    (Piu.start 1).address ≠ 255 := ⟨by decide, fits_extreme, rfl, by decide⟩

/-- The saved values of a trailer. -/
def aSaved : Saved :=
  { post := 239, serial := 7, profile := some 31, f := 65535, r := 15, endAge := 4294967295, history := 65535, pnAge := 65535
    custody := 2, tag := List.replicate 12 0x7E, lf16 := 159984, bs := 65535, mask := 65535, active := 65535
    noted := 0, inhibit := 1, remaining := 65535 }

theorem witness_FlushedImageReadsBack : 65534 ≤ 65534 ∧ (List.replicate 240 aSaved).length ≤ 240 ∧
    ∀ v ∈ List.replicate 240 aSaved, v.fits := by
  refine ⟨by decide, List.length_replicate.le, fun v h => ?_⟩
  rw [List.eq_of_mem_replicate h]
  unfold Saved.fits; decide

/-! ## The host line -/

theorem witness_RequestsAreCheckedAndHeld : yard.hostServed = true ∧ yard.held = none ∧ yard.replyRoom = true ∧
    (Instr.unknownRequest 0x18 1 []).wf = true ∧ yard.rx = .hunting ∧
    RequestType.ofCode 0x06 = some .bindProfile ∧ RequestType.bindProfile.lengthOk 3 = false ∧
    flushing.hostServed = true ∧ flushing.held = none ∧ flushing.replyRoom = true ∧
    flushing.phase.restartPending = true ∧ (Instr.yardStatus 1).wf = true ∧
    (Instr.yardStatus 1).frame = some ⟨0x01, 1, []⟩ ∧ (RequestType.ofCode 0x01).isSome = true := by decide +kernel

theorem witness_RequestsAreCheckedAndHeld_held : (Instr.yardStatus 1).wf = true ∧ (Instr.yardStatus 1).frame = some ⟨0x01, 1, []⟩ ∧
    fullYard.hostServed = true ∧ fullYard.held = none ∧ fullYard.replyRoom = false ∧
    ({ yard with held := some ⟨0x01, 2, []⟩ } : State).held = some ⟨0x01, 2, []⟩ := by decide +kernel

theorem witness_TransmitterTakesRepliesFirst :
    ({ yard with replies := [aReply] } : State).replies = [aReply] ∧ yard.held = none ∧ yard.replies = [] ∧
    ({ yard with notices := [aNotice] } : State).notices = [aNotice] ∧ yard.notices = [] ∧
    (let s : State := { yard with replies := List.replicate 4 aReply, held := some ⟨0x01, 2, []⟩ }
     s.replies = aReply :: List.replicate 3 aReply ∧ s.held.isSome = true ∧ s.hostServed = true ∧
      (List.replicate 3 aReply).length + (if s.write.isSome then 1 else 0) < 4) := by decide +kernel

/-- A station open for A1, opened at a time and with some items. -/
def yardStation (t : Time) (n : Nat) : State :=
  { yard with stations := [{ aStation 0 n with opened := t }] }

theorem witness_StationsGatherAndFlush : yard.BufferLaw ∧ yard.stationOf 239 = none ∧ yard.stations.length < 12 ∧
    (ItemBody.enrolled 0).flushes = false ∧ (ItemBody.departed 7).flushes = true ∧ yard.notices.length < 24 ∧
    fullYard.BufferLaw ∧ ((fullYard.stationOf 239).any fun st => st.items.length = 5) = true ∧
    (yardStation 998 4).BufferLaw ∧ ((yardStation 998 4).stationOf 0) = some { aStation 0 4 with opened := 998 } ∧
    (998 : Int) + 2 ≤ (yardStation 998 4).now ∧ (yardStation 999 4).now < (999 : Int) + 2 ∧
    24 ≤ fullYard.notices.length := by
  unfold State.BufferLaw; decide +kernel

theorem witness_StationsGatherAndFlush_full : ((fullYard.stationOf 239).map (·.opened)) = some 999 ∧
    (999 : Int) + 2 ≤ ({ fullYard with runCounter := 1001 } : State).now ∧
    24 ≤ ({ fullYard with runCounter := 1001 } : State).notices.length := by decide +kernel

/-- All twelve stations are open and none for A12; an idle transmitter, and a busy one. -/
theorem witness_StationsGatherAndFlush_evicts : fullYard.stationOf 11 = none ∧ fullYard.stations.length = 12 ∧
    yard.tx = none ∧ yard.replies = [] ∧ yard.notices = [] ∧
    ({ yard with tx := some (.reply aReply) } : State).tx ≠ none := by decide +kernel

theorem witness_GapsSwitchesAndStrayBytes :
    ({ yard with rx := .inFrame [0] true } : State).rx = .inFrame [0] true ∧ yard.rx = .hunting ∧
    Config.startByte ∉ [(0x7D : Byte), 0x7F] ∧ yard.hostServed = true ∧ (yard.line .a).round = none ∧
    (yard.line .b).round = none := by decide +kernel

/-! ## Requests that report -/

theorem witness_QueriesReport : yard.Ready ∧ 1 < (2 : Byte).toNat ∧ (8 : Byte).toNat = (8 : Queue).val ∧
    8 < (9 : Byte).toNat ∧ (101 : Byte).toNat = (101 : Fin 102).val ∧ yard.write = none ∧
    ({ yard with write := some aWrite } : State).Ready ∧ ({ yard with write := some aWrite } : State).write.isSome ∧
    101 < (102 : Byte).toNat := ⟨ready_yard, by decide, rfl, by decide, rfl, rfl, ⟨rfl, rfl, by decide⟩, rfl, by decide⟩

theorem first_trailer (t : TrailerRecord) : (yardWith t).trailer 0 = t := yard_trailer t 0

theorem last_trailer (t : TrailerRecord) : (yardWith t).trailer 239 = .vacant := yard_trailer t 239

theorem witness_QueriesReport_trailer : yard.Ready ∧ 239 < (240 : Byte).toNat ∧
    (239 : Byte).toNat = (239 : Post).val ∧ (yard.trailer 239).state = .vacant ∧
    (0 : Byte).toNat = (0 : Post).val ∧ (yard.trailer 0).state ≠ .vacant ∧
    (yard.trailer 0).custody.tag.length ≤ 12 := by
  refine ⟨ready_yard, by decide, rfl, ?_, rfl, ?_, ?_⟩
  · rw [yard, last_trailer]; rfl
  · rw [yard, first_trailer]; decide
  · rw [yard, first_trailer]; decide

theorem witness_ListingsNameTheirRecords : yard.Ready ∧ 32 ≤ (32 : Byte).toNat ∧ 239 < (240 : Byte).toNat ∧
    (239 : Byte).toNat = (239 : Post).val ∧ (31 : Byte) ≠ 0 ∧ (31 : Byte).toNat < 32 :=
  ⟨ready_yard, by decide, by decide, rfl, by decide, by decide⟩

theorem witness_ListingsNameTheirRecords_unit : yard.Ready ∧ yard.DirectoryLaw ∧ (7 : Word32) ≠ 0 ∧
    (yard.trailer 0).state.listed = true ∧ (yard.trailer 0).serial = 7 ∧
    ∀ p, (yard.trailer p).state.listed = true → (yard.trailer p).serial ≠ 8 := by
  refine ⟨ready_yard, law_directory, by decide, ?_, ?_, fun p => ?_⟩
  · rw [yard, first_trailer]; rfl
  · rw [yard, first_trailer]; rfl
  · rw [yard, yard_trailer]; split <;> decide

theorem witness_ExceptionStackIsPeekedAndTaken : yard.Ready ∧ yard.StackLaw := ⟨ready_yard, by unfold State.StackLaw; decide⟩

/-! ## Requests of the Trailer Table and the weather -/

/-- A1 with an ARRIVING trailer whose model no profile matched. -/
def yardArriving : State :=
  yardWith { trailer with
    state := .arriving, profile := none, active := [{ cls := .unknownModel, detail := 1, push := some 1 }] }

theorem witness_BindProfileEnrols : yardArriving.Ready ∧ 239 < (240 : Byte).toNat ∧ 31 < (32 : Byte).toNat ∧
    (31 : Byte).toNat = (31 : ProfileId).val ∧ yardArriving.config.profiles.get 31 = none ∧
    (0 : Byte).toNat = (0 : ProfileId).val ∧ yardArriving.config.profiles.get 0 = some prof ∧
    (yardArriving.trailer 239).state = .vacant ∧ (yard.trailer 0).state = .enrolled ∧
    (yardArriving.trailer 0).state = .arriving ∧ (yardArriving.trailer 0).InOneSet .unknownModel := by
  refine ⟨⟨rfl, rfl, by decide⟩, by decide, by decide, rfl, by decide +kernel, rfl, by decide +kernel, ?_, ?_, ?_, ?_⟩
  · rw [yardArriving, last_trailer]; rfl
  · rw [yard, first_trailer]; rfl
  · rw [yardArriving, first_trailer]
  · rw [yardArriving, first_trailer]; exact .inr rfl

theorem witness_ReleasePostDeparts : yard.Ready ∧ yard.GrantLaw ∧ 239 < (240 : Byte).toNat ∧
    (yard.trailer 239).state = .vacant ∧ (yard.trailer 0).state ≠ .vacant ∧ (yardRun .commanded).Ready ∧
    (yardRun .commanded).GrantLaw ∧ ((yardRun .commanded).run 0).isSome = true := by
  refine ⟨ready_yard, law_yard, by decide, ?_, ?_, ⟨rfl, rfl, by decide⟩, law_run _, ?_⟩
  · rw [yard, last_trailer]; rfl
  · rw [yard, first_trailer]; decide
  · rw [run_run]; rfl

theorem witness_WeatherAndClockAreSet : yard.Ready ∧ flushing.phase.restartPending = true ∧ flushing.held = none ∧
    flushing.replyRoom = true := ⟨ready_yard, rfl, rfl, by decide⟩

/-! ## Requests of the Feeder Arbiter -/

theorem first_state (t : TrailerRecord) : (yardWith t).trailer 0 = t ∧ (yardWith t).run 0 = t.run :=
  ⟨first_trailer t, congrArg TrailerRecord.run (first_trailer t)⟩

/-- A1 with a deferral of one second more. -/
def yardDeferred : State := yardWith { trailer with deferral := some 1001 }

/-- A1 with an INHIBIT-DEFROST action in force. -/
def yardInhibiting : State := yard.putInForce 0 { ActionsInForce.none with inhibit := some 0 }

theorem witness_DefrostNowFilesOrIsRefused : yard.Ready ∧ 239 < (240 : Byte).toNat ∧ (yard.trailer 239).state = .vacant ∧
    ((yardRun .commanded).trailer 0).state ≠ .vacant ∧ ((yardRun .commanded).run 0).isSome = true ∧
    (yardArriving.trailer 0).state ≠ .enrolled ∧ (yard.trailer 0).state = .enrolled ∧ yard.run 0 = none ∧
    ((yardWith { trailer with inhibit := true }).trailer 0).inhibit = true ∧
    (yardInhibiting.trailer 0).inhibit = false ∧ ((yardInhibiting.inForce 0).inhibit).isSome = true ∧
    (yardDeferred.trailer 0).deferral = some 1001 ∧ (yardDeferred.inForce 0).inhibit = none ∧ yardDeferred.now < 1001 := by
  refine ⟨ready_yard, by decide, ?_, ?_, ?_, ?_, ?_, (first_state _).2, ?_, ?_, ?_, ?_, by decide +kernel, by decide⟩
  · rw [yard, last_trailer]; rfl
  · rw [yardRun]; show ((yardWith _).trailer 0).state ≠ _; rw [first_trailer]; decide
  · rw [run_run]; rfl
  · rw [yardArriving, first_trailer]; decide
  · rw [yard, first_trailer]; rfl
  · rw [first_trailer]
  · show (yard.trailer 0).inhibit = false; rw [yard, first_trailer]; rfl
  · rw [yardInhibiting, State.inForce_putInForce_self]; rfl
  · rw [yardDeferred, first_trailer]

theorem witness_DefrostNowFilesOrIsRefused_files : (yardQueued .host).Ready ∧ (0 : Byte).toNat = (0 : Post).val ∧
    ((yardQueued .host).trailer 0).state = .enrolled ∧ (yardQueued .host).run 0 = none ∧
    (yardQueued .host).profileOf ((yardQueued .host).trailer 0) = some prof ∧
    ((yardQueued .host).trailer 0).inhibit = false ∧ ((yardQueued .host).inForce 0).inhibit = none ∧
    ((yardQueued .host).trailer 0).deferral = none ∧
    ((yardWith { trailer with deferral := some 1000 }).trailer 0).deferral = some 1000 ∧ (1000 : Int) ≤ yard.now ∧
    (yardQueued .forced).requestOf 0 = some (0, aRequest .forced) ∧
    (yardQueued .host).requestOf 0 = some (0, aRequest .host) ∧
    (yardQueued .unit).requestOf 0 = some (0, aRequest .unit) ∧
    (yardQueued .threshold).requestOf 0 = some (0, aRequest .threshold) ∧ yard.requestOf 0 = none := by
  have h : (yardQueued .host).trailer 0 = trailer := first_trailer trailer
  refine ⟨⟨rfl, rfl, by decide⟩, rfl, ?_, (first_state trailer).2, ?_, ?_, by decide +kernel, ?_, ?_, by decide,
    by decide +kernel, by decide +kernel, by decide +kernel, by decide +kernel, by decide +kernel⟩
  · rw [h]; rfl
  · rw [h]; decide +kernel
  · rw [h]; rfl
  · rw [h]; rfl
  · rw [first_trailer]

theorem witness_DefrostCancelCancels : yard.Ready ∧ yard.GrantLaw ∧ (yardQueued .host).GrantLaw ∧
    (yardRun .commanded).GrantLaw ∧ 239 < (240 : Byte).toNat ∧ (yard.trailer 239).state = .vacant ∧
    (yardArriving.trailer 0).state ≠ .vacant ∧ (yardArriving.trailer 0).state ≠ .enrolled ∧
    (yard.trailer 0).state = .enrolled := by
  refine ⟨ready_yard, law_yard, law_queued _, law_run _, by decide, ?_, ?_, ?_, ?_⟩
  · rw [yard, last_trailer]; rfl
  · rw [yardArriving, first_trailer]; decide
  · rw [yardArriving, first_trailer]; decide
  · rw [yard, first_trailer]; rfl

theorem witness_DefrostInhibitInhibits : yard.Ready ∧ yard.GrantLaw ∧ 239 < (240 : Byte).toNat ∧ 1 < (2 : Byte).toNat ∧
    (1 : Byte).toNat ≤ 1 ∧ (yard.trailer 239).state = .vacant ∧
    ((yardWith { trailer with state := .held }).trailer 0).state = .held ∧ (yard.trailer 0).state ≠ .vacant ∧
    (yard.trailer 0).state ≠ .held := by
  refine ⟨ready_yard, law_yard, by decide, by decide, by decide, ?_, ?_, ?_, ?_⟩
  · rw [yard, last_trailer]; rfl
  · rw [first_trailer]
  · rw [yard, first_trailer]; decide
  · rw [yard, first_trailer]; decide

/-! ## Requests of the Door Watch and the Finding Unit -/

theorem witness_CustodyIsDeclaredAndCleared : yard.Ready ∧ [(0x7E : Byte)].length ≤ 12 ∧ 239 < (240 : Byte).toNat ∧
    (∃ c ∈ [(0x7F : Byte)], c.toNat < 0x20 ∨ 0x7E < c.toNat) ∧ (∃ c ∈ [(0x1F : Byte)], c.toNat < 0x20 ∨ 0x7E < c.toNat) ∧
    (∀ c ∈ [(0x20 : Byte), 0x7E], 0x20 ≤ c.toNat ∧ c.toNat ≤ 0x7E) ∧ (yard.trailer 239).state = .vacant ∧
    (yardArriving.trailer 0).state ≠ .vacant ∧ (yardArriving.trailer 0).state ≠ .enrolled ∧
    (yard.trailer 0).state = .enrolled ∧ (yard.trailer 0).door.held = some .closed ∧
    ((yardWith { trailer with door := .vacant }).trailer 0).state = .enrolled ∧
    ((yardWith { trailer with door := .vacant }).trailer 0).door.held ≠ some .closed ∧
    (yard.trailer 0).custody = .none ∧ (yardCustody.trailer 0).custody ≠ .none := by
  refine ⟨ready_yard, by decide, by decide, by decide, by decide, by decide, ?_, ?_, ?_, ?_, ?_, ?_, ?_, ?_, ?_⟩
  · rw [yard, last_trailer]; rfl
  · rw [yardArriving, first_trailer]; decide
  · rw [yardArriving, first_trailer]; decide
  · rw [yard, first_trailer]; rfl
  · rw [yard, first_trailer]; rfl
  · rw [first_trailer]; rfl
  · rw [first_trailer]; decide
  · rw [yard, first_trailer]; rfl
  · rw [yardCustody, first_trailer]; decide

theorem witness_SetRaiseMaskSets : yard.Ready ∧ 239 < (240 : Byte).toNat ∧ (yard.trailer 239).state = .vacant ∧
    (yard.trailer 0).state ≠ .vacant := by
  refine ⟨ready_yard, by decide, ?_, ?_⟩
  · rw [yard, last_trailer]; rfl
  · rw [yard, first_trailer]; decide

/-- A1 with FUEL-LOSS active. -/
def yardFinding : State :=
  yardWith { trailer with active := [{ cls := .fuelLoss, detail := 0, push := some 1 }] }

theorem witness_AckFindingClears : yardFinding.Ready ∧ 239 < (240 : Byte).toNat ∧ 15 < (16 : Byte).toNat ∧
    (0 : Byte).toNat = FindingClass.linkLost.num ∧ (15 : Byte).toNat = FindingClass.custodyBreak.num ∧
    (10 : Byte).toNat = FindingClass.fuelLoss.num ∧ (yard.trailer 239).state = .vacant ∧
    (yard.trailer 0).state ≠ .vacant ∧ FindingClass.linkLost.latched = false ∧
    (yard.trailer 0).stands .custodyBreak = false ∧ (yardFinding.trailer 0).state ≠ .vacant ∧
    FindingClass.fuelLoss.latched = true ∧ (yardFinding.trailer 0).stands .fuelLoss = true ∧
    (yardFinding.trailer 0).activeOf .fuelLoss ≠ none := by
  refine ⟨⟨rfl, rfl, by decide⟩, by decide, by decide, rfl, rfl, rfl, ?_, ?_, rfl, ?_, ?_, rfl, ?_, ?_⟩
  · rw [yard, last_trailer]; rfl
  · rw [yard, first_trailer]; decide
  · rw [yard, first_trailer]; decide
  · rw [yardFinding, first_trailer]; decide
  · rw [yardFinding, first_trailer]; decide
  · rw [yardFinding, first_trailer]; decide

theorem witness_ExceptionStackIsPeekedAndTaken_take : ({ yard with stack := [aFrame 1] } : State).Ready ∧
    ({ yard with stack := [aFrame 1] } : State).stack = [aFrame 1] ∧ yard.Ready ∧ yard.stack = [] ∧
    flushing.phase.restartPending = true ∧ flushing.held = none ∧ flushing.replyRoom = true :=
  ⟨⟨rfl, rfl, by decide⟩, rfl, ready_yard, rfl, rfl, rfl, by decide⟩

/-! ## Requests of Output Control, the store, the clock and RESTART -/

theorem yard_output (t : TrailerRecord) (p : Post) :
    (yardWith t).output p = if p.val = 0 then some output else none := get_first _ _ (by decide) p

theorem yard_entry (t : TrailerRecord) (p : Post) :
    (yardWith t).entry p = if p.val = 0 then some entry else none := get_first _ _ (by decide) p

theorem witness_PostOutputSelects : yard.Ready ∧ 239 < (240 : Byte).toNat ∧ 2 < (3 : Byte).toNat ∧
    (2 : Byte).toNat ≤ 2 ∧ yard.output 239 = none ∧ yard.output 0 = some output ∧
    (yard.line (postLine 0)).state ≠ .off ∧
    (({ yard with lineA := { lineUp with state := .off } } : State).line (postLine 0)).state = .off :=
  ⟨ready_yard, by decide, by decide, by decide, yard_output _ _, yard_output _ _, by decide, rfl⟩

theorem witness_StoreWriteStarts : yard.Ready ∧ aWrite.content.length = 256 ∧ 101 < (102 : Byte).toNat ∧
    (101 : Byte).toNat ≤ 101 ∧ yard.write = none ∧ ({ yard with write := some aWrite } : State).Ready ∧
    ({ yard with write := some aWrite } : State).write.isSome ∧ yard.keySwitch = .run ∧
    ({ yard with keySwitch := .service } : State).Ready ∧ ({ yard with keySwitch := .service } : State).keySwitch = .service ∧
    3 < (4 : Byte).toNat ∧ (readBlock 5 (List.replicate 256 0)) = none ∧
    readBlock 5 aWrite.content = some (.defaults 4 900) ∧ yard.config.admits (.defaults 4 900) = true ∧
    (37 : Byte).toNat = (37 : Fin 102).val := by
  refine ⟨ready_yard, ?_, by decide, by decide, rfl, ⟨rfl, rfl, by decide⟩, rfl, rfl, ⟨rfl, rfl, by decide⟩, rfl,
    by decide, ?_, ?_, ?_, rfl⟩ <;> decide +kernel

/-- A profile block with no profile; profile 0 is bound at A1, profile 31 is not. -/
theorem witness_StoreWriteStarts_profile : readBlock 6 (BlockContent.profile 0 none).bytes = some (.profile 0 none) ∧
    readBlock 37 (BlockContent.profile 31 none).bytes = some (.profile 31 none) ∧
    yard.config.admits (.profile 31 none) = true ∧ (yard.trailer 0).state ≠ .vacant ∧ (yard.trailer 0).profile = some 0 ∧
    ∀ p, (yard.trailer p).profile ≠ some 31 := by
  refine ⟨by decide +kernel, by decide +kernel, by decide +kernel, ?_, ?_, fun p => ?_⟩
  · rw [yard, first_trailer]; decide
  · rw [yard, first_trailer]; rfl
  · rw [yard, yard_trailer]; split <;> decide

/-- A second profile with the model code of the first is not admitted. -/
theorem witness_StoreWriteStarts_admits : ∃ c, readBlock 7 (BlockContent.profile 1 (some prof)).bytes = some c ∧
    yard.config.admits c = false := ⟨.profile 1 (some prof), by decide +kernel, by decide +kernel⟩

theorem verifies_yard (t : TrailerRecord) (h : t.verifies = true) (p : Post) : ((yardWith t).trailer p).verifies = true := by
  rw [yard_trailer]; split
  · exact h
  · rfl

theorem witness_RestartBeginsTheFlush : yard.Ready ∧ yard.heldCauses = [] ∧ (∀ p, (yard.trailer p).verifies = true) ∧
    (yardStation 998 5).Ready ∧ (yardStation 998 5).BufferLaw :=
  ⟨ready_yard, rfl, verifies_yard _ rfl, ⟨rfl, rfl, by decide⟩, by unfold State.BufferLaw; decide +kernel⟩

/-! ## Events of the post lines -/

/-- A line whose round is due at its floor, with one address of two still to be added. -/
def yardAdding : State :=
  { yard with
    lineA := { lineUp with lastStart := some 995 }
    config := { yard.config with lineA := { settings with installed := 1 <<< 119 } } }

theorem witness_RoundStartPollsTheFirstPost :
    yard.phase = .running ∧ (yard.line .a).round = none ∧ (yard.line .a).state ≠ .off ∧
    (∀ t, (yardAdding.line .a).lastStart = some t → ((yardAdding.lineConfig .a).floor : Int) ≤ yardAdding.now - t) ∧
    (∀ t, (yard.line .a).lastStart = some t → ((yard.lineConfig .a).floor : Int) ≤ yard.now - t) ∧
    (yard.line .a).settings.installed = (yard.lineConfig .a).installed ∧
    installedPosts .a (yard.lineConfig .a).installed = [0] ∧ flushing.phase ≠ .running ∧
    ((yardRound false 0).line .a).round ≠ none ∧
    (let s : State := { yard with lineA := { lineUp with lastStart := some 996 } }
     ∃ t, (s.line .a).lastStart = some t ∧ s.now - t < ((s.lineConfig .a).floor : Int)) ∧
    (yard.line .b).state = .off ∧ (yard.lineConfig .b).installed = 0 := by
  refine ⟨rfl, rfl, by decide, ?_, ?_, rfl, by decide +kernel, by decide, by decide, ⟨996, rfl, by decide⟩, rfl, rfl⟩
  · intro t h; cases h; decide
  · intro t h; cases h; decide

theorem witness_RoundTakesItsSettings : yardAdding.phase = .running ∧ (yardAdding.line .a).round = none ∧
    (yardAdding.line .a).state ≠ .off ∧
    (∀ t, (yardAdding.line .a).lastStart = some t → ((yardAdding.lineConfig .a).floor : Int) ≤ yardAdding.now - t) ∧
    (yardAdding.lineConfig .a).installed ≠ 0 ∧ (yardAdding.line .a).settings.installed.getLsbD 0 = true ∧
    (yardAdding.lineConfig .a).installed.getLsbD 0 = false ∧
    (yardAdding.line .a).settings.installed.getLsbD 119 = false ∧
    (yardAdding.lineConfig .a).installed.getLsbD 119 = true ∧
    (yardAdding.line .a).settings.installed.getLsbD 1 = (yardAdding.lineConfig .a).installed.getLsbD 1 := by
  refine ⟨rfl, rfl, by decide, ?_, by decide +kernel, by decide +kernel, by decide +kernel, by decide +kernel,
    by decide +kernel, by decide +kernel⟩
  intro t h; cases h; decide

/-- A line whose round is due with its only address, where a trailer stands, taken out of the set. -/
def yardEmptying : State := { yard with config := { yard.config with lineA := { settings with installed := 0 } } }

theorem witness_RoundTakesItsSettings_empty : yardEmptying.phase = .running ∧ (yardEmptying.line .a).round = none ∧
    (yardEmptying.line .a).state ≠ .off ∧
    (∀ t, (yardEmptying.line .a).lastStart = some t →
      ((yardEmptying.lineConfig .a).floor : Int) ≤ yardEmptying.now - t) ∧
    (yardEmptying.lineConfig .a).installed = 0 ∧ (yardEmptying.line .a).settings.installed.getLsbD 0 = true ∧
    yardEmptying.GrantLaw ∧ (yardEmptying.trailer (postAt .a 0)).state ≠ .vacant ∧
    postLine (Fin.ofNat 240 120) ≠ .a := by
  refine ⟨rfl, rfl, by decide, ?_, rfl, by decide, ⟨law_yard.1, law_yard.2, law_yard.3, law_yard.4, law_yard.5, law_yard.6⟩, ?_,
    by decide⟩
  · intro t h; cases h; decide
  · show (yard.trailer 0).state ≠ .vacant; rw [yard, first_trailer]; decide

theorem entry_round (retry : Bool) (n : Nat) : (yardRound retry n).entry 0 = some entry := yard_entry trailer 0

theorem witness_GoodStatusIsHeard :
    (yardRound false 2).Hears .a ((report .cool .closed).frameBytes 1) (aRound false) (report .cool .closed) ∧
    (yardRound false 2).entry 0 = some entry ∧ (yardRound false 2).output 0 = some output :=
  ⟨⟨rfl, by decide +kernel, rfl⟩, entry_round _ _, yard_output trailer _⟩

theorem witness_FailedExchangesAreRetriedThenMissed : ((yardRound false 2).line .a).round = some (aRound false) ∧
    (aRound false).exchange.retry = false ∧ goodStatus (postAddress (aRound false).exchange.post) [] = none :=
  ⟨rfl, rfl, by decide +kernel⟩

theorem witness_FailedExchangesAreRetriedThenMissed_retry : ((yardRound true 0).line .a).round = some (aRound true) ∧
    (aRound true).exchange.retry = true ∧ (yardRound true 0).entry 0 = some entry ∧
    goodStatus (postAddress (aRound true).exchange.post) [] = none ∧ ((yardRound true 0).line .a).state = .up ∧
    entry.state = .live ∧ entry.missed + 1 < 3 := ⟨rfl, rfl, entry_round _ _, by decide +kernel, rfl, rfl, by decide⟩

/-- The third miss of a LIVE post, and a miss on a line that is DOWN. -/
theorem witness_FailedExchangesAreRetriedThenMissed_third :
    (let s := (yardRound true 0).putEntry 0 (some { entry with missed := 2 })
     (s.line .a).round = some (aRound true) ∧ s.entry 0 = some { entry with missed := 2 } ∧ 3 ≤ 2 + 1 ∧
      ((s.putLine .a { s.lineA with state := .down }).line .a).state = .down ∧
      ((s.putLine .a { s.lineA with state := .down }).line .a).round = some (aRound true)) :=
  ⟨rfl, State.entry_putEntry_self _ _ _, by decide, rfl, rfl⟩

/-- The third miss in a round with another address, by the post of a run that is HEATING, with no LINK-LOST, while the finding
table gives that class no INHIBIT-DEFROST. -/
theorem witness_FailedExchangesAreRetriedThenMissed_lost :
    (let r : Round := { aRound true with remaining := [1] }
     let s := State.putEntry { yardRun (.heating 950) with lineA := { lineUp with round := some r, misses := 2 } } 0
       (some { entry with missed := 2 })
     (s.line .a).round = some r ∧ r.remaining = 1 :: [] ∧ s.entry 0 = some { entry with missed := 2 } ∧
      s.run 0 = some (aRun (.heating 950)) ∧ (s.trailer 0).state = .enrolled ∧ s.phase = .running ∧
      (s.tableEntry .linkLost).action ≠ .inhibitDefrost ∧ (s.trailer 0).stands .linkLost = false) := by
  have h := first_trailer { trailer with run := some (aRun (.heating 950)) }
  exact ⟨rfl, rfl, State.entry_putEntry_self _ _ _, congrArg TrailerRecord.run h, congrArg TrailerRecord.state h, rfl, by decide,
    congrArg (·.stands .linkLost) h⟩

theorem witness_ThirdMissStopsTheLine : ((yardRound true 2).line .a).round = some (aRound true) ∧
    (aRound true).exchange.retry = true ∧ (yardRound true 2).entry 0 = some entry ∧ entry.state = .live ∧
    ((yardRound true 2).line .a).state = .up ∧ 2 ≤ ((yardRound true 2).line .a).misses :=
  ⟨rfl, rfl, entry_round _ _, rfl, rfl, by decide⟩

/-! ## A GOOD status at the Trailer Table -/

/-- The round on line A with A1's exchange in flight and some posts still to be polled. -/
def polling (rest : List Post) : Round := { aRound false with remaining := rest }

/-- The yard with profile 0, in that round, and with a finding table that carries BEACON, and INHIBIT-DEFROST for
UNIT-STUCK-DEFROST alone. -/
def heardBy (pr : Profile) (s : State) (rest : List Post) : State :=
  { s with
    lineA := { lineUp with round := some (polling rest) }
    config := { s.config with
      profiles := YardConfig.factory.profiles.set 0 (some pr), 
      table := (Vector.replicate 16 { severity := 1, action := .beacon }).set 9 { severity := 3, action := .inhibitDefrost } } }

theorem heard_law (pr : Profile) (s : State) (rest : List Post) (h : s.GrantLaw) : (heardBy pr s rest).GrantLaw :=
  ⟨h.1, h.2, h.3, h.4, h.5, h.6⟩

theorem heard_beacons (pr : Profile) (t : TrailerRecord) (rest : List Post) :
    (heardBy pr (yardWith t) rest).OnlyBeacons := by
  intro c h; refine .inr ?_; cases c <;> first | rfl | exact absurd rfl h

/-- The factory table is such a table. -/
theorem factory_beacons : yard.OnlyBeacons := by
  intro c h; cases c <;> first | exact .inl rfl | exact .inr rfl | exact absurd rfl h

/-- The bytes of a STATUS of A1. -/
def heardBytes (rep : StatusReport) : List Byte := rep.frameBytes 1

theorem heard_hears (pr : Profile) (s : State) (rest : List Post) (rep : StatusReport) (hc : s.heldCauses = [])
    (hg : goodStatus 1 (heardBytes rep) = some rep) :
    (heardBy pr s rest).Hears .a (heardBytes rep) (polling rest) rep := ⟨rfl, hg, hc⟩

/-- The trailer at A1 is evaluated where it verifies, is ENROLLED with profile 0 and the report carries its serial. -/
theorem heard_evaluates (pr : Profile) (t : TrailerRecord) (rest : List Post) (rep : StatusReport)
    (hg : goodStatus 1 (heardBytes rep) = some rep) (hu : rep.unit = .unit) (hv : t.verifies = true)
    (he : t.state = .enrolled) (hs : t.serial = rep.serial) (hp : t.profile = some 0) :
    (heardBy pr (yardWith t) rest).Evaluates .a (heardBytes rep) (polling rest) rep pr := by
  have ht : (heardBy pr (yardWith t) rest).trailer 0 = t := first_trailer t
  refine ⟨heard_hears _ _ _ _ rfl hg, hu, ?_, ?_, ?_, ?_⟩ <;> show _ = _
  · exact (congrArg TrailerRecord.verifies ht).trans hv
  · exact (congrArg TrailerRecord.state ht).trans he
  · exact (congrArg TrailerRecord.serial ht).trans hs
  · refine (congrArg (State.profileOf _) ht).trans ?_
    unfold State.profileOf; rw [hp]; rfl

/-- The hypotheses, for a run in any state and a report of the trailer. -/
theorem heard_run (st : RunState) (rep : StatusReport) (hg : goodStatus 1 (heardBytes rep) = some rep)
    (hu : rep.unit = .unit) (hs : rep.serial = 7) :
    let s := heardBy prof (yardRun st) [1]
    s.Evaluates .a (heardBytes rep) (polling [1]) rep prof ∧ (s.trailer 0).run = some (aRun st) ∧
    (aRun st).limits = prof.limits ∧ (polling [1]).remaining ≠ [] ∧ s.GrantLaw ∧
    (s.entry 0).map (·.state) ≠ some .lost ∧ s.OnlyBeacons := by
  have h := heard_evaluates prof { trailer with run := some (aRun st) } [1] rep hg hu rfl rfl hs.symm rfl
  have b := heard_beacons prof { trailer with run := some (aRun st) } [1]
  refine ⟨⟨⟨h.round, h.good, h.noCause⟩, h.unit, h.verifies, h.enrolled, h.serial, h.profile⟩, run_run st 0, rfl, by decide,
    heard_law _ _ _ (law_run st), ?_, b⟩
  rw [show (heardBy prof (yardRun st) [1]).entry 0 = some entry from yard_entry trailer 0]; decide

/-- A STATUS of the trailer at A1 in COOL with a door report. -/
def cool (d : DoorReport) : StatusReport := report .cool d

/-- A1 with its door OPEN since a time. -/
def opened (since : Int) : TrailerRecord :=
  { trailer with door := { DoorGroup.vacant with held := some .opened, openingTime := some since } }

theorem witness_StatusEvaluatesTheTrailer :
    (heardBy prof yard [1]).Evaluates .a (heardBytes (cool .closed)) (polling [1]) (cool .closed) prof ∧
    (heardBy prof yard [1]).Evaluates .a (heardBytes (cool .unknown)) (polling [1]) (cool .unknown) prof ∧
    (heardBy prof yard [1]).Evaluates .a (heardBytes (cool .opened)) (polling [1]) (cool .opened) prof ∧
    (heardBy prof yardCustody []).Evaluates .a (heardBytes (cool .opened)) (polling []) (cool .opened) prof ∧
    (heardBy prof (yardWith (opened 100)) [1]).Evaluates .a (heardBytes (cool .opened)) (polling [1]) (cool .opened) prof ∧
    (heardBy prof (yardWith (opened 101)) []).Evaluates .a (heardBytes (cool .unknown)) (polling []) (cool .unknown) prof ∧
    (heardBy prof (yardWith (opened 101)) []).Evaluates .a (heardBytes (cool .closed)) (polling []) (cool .closed) prof ∧
    (heardBy prof yard [1]).phase = .running ∧ trailer.run = none ∧ (opened 100).run = none ∧ [(1 : Post)] ≠ [] ∧
    trailer.door.held = some .closed ∧ (opened 100).door.held = some .opened ∧
    (opened 100).door.openingTime = some 100 ∧ (prof.ajar : Int) ≤ yard.now - 100 ∧ yard.now - 101 < (prof.ajar : Int) ∧
    (opened 101).InOneSet .doorAjar := by
  refine ⟨?_, ?_, ?_, ?_, ?_, ?_, ?_, rfl, rfl, rfl, by decide, rfl, rfl, rfl, by decide, by decide, .inl rfl⟩ <;>
    exact heard_evaluates _ _ _ _ (by decide +kernel) rfl rfl rfl rfl rfl

/-- Each valid range at its ends and one beyond, and a temperature that is not fitted. -/
theorem witness_StatusEvaluatesTheTrailer_ranges :
    goodStatus 1 (heardBytes { cool .closed with tr := some (-400), tc := some 500 })
      = some { cool .closed with tr := some (-400), tc := some 500 } ∧
    goodStatus 1 (heardBytes { cool .closed with tr := some 501, tc := some (-501) })
      = some { cool .closed with tr := some 501, tc := some (-501) } ∧
    goodStatus 1 (heardBytes { cool .closed with tr := none, tc := none })
      = some { cool .closed with tr := none, tc := none } := by decide +kernel

/-- The tenth invalid return-air report in a row with SENSOR not standing, one more after it, a valid one with SENSOR active;
the tenth unknown door report in a row, one more after it, and a known one with DOOR-SENSOR noted. -/
theorem witness_StatusEvaluatesTheTrailer_sensors :
    (∀ t ∈ [{ trailer with trInvalid := 9 }, { trailer with trInvalid := 10 },
        { trailer with trInvalid := 10, active := [{ cls := .sensor, detail := 1, push := some 1 }] }],
      ∀ rep ∈ [{ cool .closed with tr := none }, cool .closed],
      (heardBy prof (yardWith t) []).Evaluates .a (heardBytes rep) (polling []) rep prof ∧ t.run = none ∧ t.InOneSet .sensor) ∧
    (∀ n, { trailer with trInvalid := n }.stands .sensor = false) ∧ (heardBy prof yard []).phase = .running ∧
    (∀ t ∈ [{ trailer with door := { trailer.door with unknownCount := 9 } },
        { trailer with door := { trailer.door with unknownCount := 10 } },
        { trailer with noted := [{ cls := .doorSensor, detail := 1 }] }], ∀ d ∈ [DoorReport.unknown, .closed, .opened],
      (heardBy prof (yardWith t) []).Evaluates .a (heardBytes (cool d)) (polling []) (cool d) prof ∧ t.run = none ∧
      t.InOneSet .doorSensor) := by
  refine ⟨fun t ht rep hr => ?_, fun n => rfl, rfl, fun t ht d hd => ?_⟩
  · simp only [List.mem_cons, List.not_mem_nil, or_false] at ht hr
    obtain rfl | rfl | rfl := ht <;> obtain rfl | rfl := hr <;>
      exact ⟨heard_evaluates _ _ _ _ (by decide +kernel) rfl rfl rfl rfl rfl, rfl, .inr rfl⟩
  · simp only [List.mem_cons, List.not_mem_nil, or_false] at ht hd
    obtain rfl | rfl | rfl := ht <;> obtain rfl | rfl | rfl := hd <;>
      exact ⟨heard_evaluates _ _ _ _ (by decide +kernel) rfl rfl rfl rfl rfl, rfl, .inl rfl⟩

/-- A1 with a fuel audit under way: its filtered level in litres, whether a refuel is pending, and its burn window. -/
def fuelled (litres : Nat) (refuel : Bool) (window : Option BurnWindow) : TrailerRecord :=
  { trailer with
    fuel := { FuelAccount.start with started := true, lf16 := 16 * litres, refuelPending := refuel, window := window } }

/-- A burn window from a time. -/
def since (t : Int) : BurnWindow := { start := t, lfStart := 2000, heating := false, engine := false }

/-- A STATUS of A1 with a raw fuel reading. -/
def raw (n : Nat) : StatusReport := { cool .closed with fuelRaw := n }

theorem witness_StatusAuditsTheFuel :
    (∀ n ∈ [15, 16, 350, 1007, 1008], goodStatus 1 (heardBytes (raw n)) = some (raw n)) ∧
    (∀ litres refuel w, (heardBy prof (yardWith (fuelled litres refuel w)) []).Evaluates .a (heardBytes (raw 350)) (polling [])
      (raw 350) prof) ∧
    (heardBy prof yard []).Evaluates .a (heardBytes (raw 350)) (polling []) (raw 350) prof ∧
    (heardBy prof yard []).Evaluates .a (heardBytes (raw 15)) (polling []) (raw 15) prof ∧
    (heardBy { prof with sender := false } yard []).Evaluates .a (heardBytes (raw 350)) (polling []) (raw 350)
      { prof with sender := false } ∧
    (heardBy prof (yardRun (.heating 950)) [1]).Evaluates .a (heardBytes (raw 350)) (polling [1]) (raw 350) prof ∧
    entry.state ≠ .lost ∧ trailer.stands .linkLost = false ∧ prof.sender = true ∧ trailer.fuel.started = false ∧
    convert prof.curve 350 = 1450 ∧ (prof.refuel : Int) ≤ (1450 : Int) - (reportedLevel (16 * 1150) : Int) ∧
    ¬ ((prof.refuel : Int) ≤ (1450 : Int) - (reportedLevel (16 * 1151) : Int)) ∧
    (yard.now - (since 401).start).toNat = 599 ∧ (yard.now - (since 400).start).toNat = 600 ∧
    (yard.now - (since (-2600)).start).toNat = 3600 ∧ (yard.now - (since (-2601)).start).toNat = 3601 ∧
    trailer.stands .lowFuel = false ∧ trailer.InOneSet .lowFuel ∧ trailer.InOneSet .senderFault := by
  refine ⟨by decide +kernel, fun litres refuel w => ?_, ?_, ?_, ?_, (heard_run _ _ (by decide +kernel) rfl rfl).1, by decide, rfl, rfl, rfl, by decide +kernel, by decide,
    by decide, by decide, by decide, by decide, by decide, rfl, .inl rfl, .inl rfl⟩ <;>
    exact heard_evaluates _ _ _ _ (by decide +kernel) rfl rfl rfl rfl rfl

/-- A1 with LOW-FUEL active, and with five invalid readings to come at the next. -/
theorem witness_StatusAuditsTheFuel_findings :
    (let t := { trailer with active := [{ cls := .lowFuel, detail := 0, push := some 1 }] }
     t.stands .lowFuel = true ∧ t.InOneSet .lowFuel ∧
      (heardBy prof (yardWith t) []).Evaluates .a (heardBytes (raw 350)) (polling []) (raw 350) prof) ∧
    (let t := { trailer with fuel := { FuelAccount.start with invalidCount := 4 } }
     t.fuel.invalidCount = 4 ∧
      (heardBy prof (yardWith t) []).Evaluates .a (heardBytes (raw 1008)) (polling []) (raw 1008) prof) :=
  ⟨⟨rfl, .inr rfl, heard_evaluates _ _ _ _ (by decide +kernel) rfl rfl rfl rfl rfl⟩,
    rfl, heard_evaluates _ _ _ _ (by decide +kernel) rfl rfl rfl rfl rfl⟩

theorem witness_StatusFilesARequest :
    (heardBy prof yard []).Evaluates .a (heardBytes (report .defrost .closed)) (polling []) (report .defrost .closed) prof ∧
    (∀ c, (heardBy prof (yardQueued c) []).Evaluates .a (heardBytes (cool .closed)) (polling []) (cool .closed) prof) ∧
    (∀ c, (heardBy prof (yardQueued c) []).GrantLaw) ∧ (heardBy prof yard []).GrantLaw ∧ trailer.run = none ∧
    (∀ c, c ≠ .unitStuckDefrost → ((heardBy prof yard []).tableEntry c).action ≠ .inhibitDefrost) ∧ (heardBy prof yard []).requestOf 0 = none ∧
    (heardBy prof (yardQueued .unit) []).requestOf 0 = some (0, aRequest .unit) ∧
    (heardBy prof (yardQueued .host) []).requestOf 0 = some (0, aRequest .host) ∧
    (cool .closed).mode ≠ .defrost ∧ (report .defrost .closed).mode = .defrost := by
  refine ⟨heard_evaluates _ _ _ _ (by decide +kernel) rfl rfl rfl rfl rfl, fun c => ?_, fun c => heard_law _ _ _ (law_queued c),
    heard_law _ _ _ law_yard, rfl, fun c hc => ?_, by decide +kernel, by decide +kernel, by decide +kernel, by decide, rfl⟩
  · have h := heard_evaluates prof trailer [] (cool .closed) (by decide +kernel) rfl rfl rfl rfl rfl
    exact ⟨⟨h.round, h.good, h.noCause⟩, h.unit, h.verifies, h.enrolled, h.serial, h.profile⟩
  · cases c <;> first | decide | exact absurd rfl hc

/-- FORCED at the maximum interval and one second short of it; the inhibit flag; the deferral at now and a second later. -/
theorem witness_StatusFilesARequest_due :
    (∀ t ∈ [{ trailer with arrival := some (-2600) }, { trailer with arrival := some (-2599) },
        { trailer with inhibit := true }, { trailer with deferral := some 1000 }, { trailer with deferral := some 1001 },
        { trailer with f := 1000 }],
      (heardBy prof (yardWith t) []).Evaluates .a (heardBytes (cool .closed)) (polling []) (cool .closed) prof ∧
      (heardBy prof (yardWith t) []).GrantLaw ∧ t.run = none) ∧
    (prof.maxInterval : Int) ≤ yard.now - (-2600) ∧ ¬ ((prof.maxInterval : Int) ≤ yard.now - (-2599)) ∧
    ¬ (yard.now < 1000) ∧ yard.now < 1001 ∧ prof.fth ≤ 1000 := by
  refine ⟨fun t h => ?_, by decide, by decide, by decide, by decide, by decide⟩
  simp only [List.mem_cons, List.not_mem_nil, or_false] at h
  obtain rfl | rfl | rfl | rfl | rfl | rfl := h <;>
    exact ⟨heard_evaluates _ _ _ _ (by decide +kernel) rfl rfl rfl rfl rfl,
      heard_law _ _ _ (law_quiet _ (fun p => by unfold State.run; rw [yard_trailer]; split <;> rfl) (yard_queue _) (yard_load _)),
      rfl⟩

/-- Every report and every state of a run that the clauses name. -/
theorem witness_StatusTestsTheRun :
    (∀ rep ∈ [report .defrost .closed, report .defrost .opened, cool .closed, cool .opened,
        { report .defrost .closed with tc := some 150 }, { cool .closed with tc := some 120 }, { cool .closed with tc := some 119 }],
      ∀ st : RunState,
        let s := heardBy prof (yardRun st) [1]
        s.Evaluates .a (heardBytes rep) (polling [1]) rep prof ∧ (s.trailer 0).run = some (aRun st) ∧
        (aRun st).limits = prof.limits ∧ (polling [1]).remaining ≠ [] ∧ s.GrantLaw ∧
        (s.entry 0).map (·.state) ≠ some .lost ∧ s.OnlyBeacons) ∧
    trailer.door.held ≠ some .opened ∧ prof.termination = 150 ∧ prof.termination - 30 = 120 ∧
    (∀ c ∈ [(⟨.line, 990, 0⟩ : CauseEntry)], c.cause ≠ .door) ∧ (∃ c ∈ [(⟨.line, 990, 0⟩ : CauseEntry)], c.cause ≠ .door) ∧
    ([(⟨.door, 990, 0⟩ : CauseEntry)] ≠ []) ∧ (∀ c ∈ [(⟨.door, 990, 0⟩ : CauseEntry)], c.cause = .door) := by
  refine ⟨fun rep h st => ?_, by decide, rfl, rfl, by decide, by decide, by decide, by decide⟩
  simp only [List.mem_cons, List.not_mem_nil, or_false] at h
  obtain rfl | rfl | rfl | rfl | rfl | rfl | rfl := h <;> exact heard_run st _ (by decide +kernel) rfl rfl

/-- A door of A1 that is OPEN, so that a CLOSED report closes it under a run. -/
theorem witness_StatusTestsTheRun_closes :
    (let t := { opened 990 with run := some (aRun (.suspended 990 .heating [⟨.door, 990, 0⟩])) }
     (heardBy prof (yardWith t) [1]).Evaluates .a (heardBytes (cool .closed)) (polling [1]) (cool .closed) prof ∧
      t.door.held = some .opened ∧ (cool .closed).door = .closed) :=
  ⟨heard_evaluates _ _ _ _ (by decide +kernel) rfl rfl rfl rfl rfl, rfl, rfl⟩

/-- The yard with records at A1 and A2, both posts LIVE. -/
def two (t₀ t₁ : TrailerRecord) : State :=
  { yard with
    posts := ((Vector.replicate 240 none).set 0 (some entry)).set 1 (some entry)
    records := ((Vector.replicate 240 TrailerRecord.vacant).set 0 t₀).set 1 t₁
    directory := (if t₀.state.listed then [(t₀.serial, 0)] else []) ++ if t₁.state.listed then [(t₁.serial, 1)] else [] }

theorem two_trailer (t₀ t₁ : TrailerRecord) (p : Post) :
    (two t₀ t₁).trailer p = if p.val = 1 then t₁ else if p.val = 0 then t₀ else .vacant := by
  show (((Vector.replicate 240 TrailerRecord.vacant).set 0 t₀).set 1 t₁).get p = _
  simp only [Vector.get_eq_getElem, Vector.getElem_set, Vector.getElem_replicate, eq_comm (a := 0), eq_comm (a := 1)]

theorem two_law (t₀ t₁ : TrailerRecord) (h₀ : t₀.run = none) (h₁ : t₁.run = none) : (two t₀ t₁).GrantLaw := by
  refine law_quiet _ (fun p => ?_) (yard_queue trailer) (yard_load trailer)
  unfold State.run; rw [two_trailer]; split
  · exact h₁
  · split
    · exact h₀
    · rfl

theorem two_directory (t₀ t₁ : TrailerRecord) (h : t₀.state.listed = true → t₁.state.listed = true →
    t₀.serial.toNat < t₁.serial.toNat) : (two t₀ t₁).DirectoryLaw := by
  have first : (two t₀ t₁).trailer 0 = t₀ := two_trailer t₀ t₁ 0
  have second : (two t₀ t₁).trailer 1 = t₁ := two_trailer t₀ t₁ 1
  have dir : (two t₀ t₁).directory
      = (if t₀.state.listed then [(t₀.serial, 0)] else []) ++ if t₁.state.listed then [(t₁.serial, 1)] else [] := rfl
  refine ⟨?_, fun e m => ?_, fun p l => ?_⟩
  · rw [dir]; split <;> split
    · simpa using h ‹_› ‹_›
    all_goals simp
  · rw [dir] at m; split at m <;> split at m <;> simp at m
    · obtain rfl | rfl := m
      · rw [first]; exact ⟨‹_›, rfl⟩
      · rw [second]; exact ⟨‹_›, rfl⟩
    · subst m; rw [first]; exact ⟨‹_›, rfl⟩
    · subst m; rw [second]; exact ⟨‹_›, rfl⟩
  · rw [two_trailer] at l ⊢; rw [dir]; split at l
    · rw [if_pos l, if_pos ‹p.val = 1›, show p = 1 from Fin.ext ‹_›]; simp
    · split at l
      · rw [if_pos l, if_neg ‹¬p.val = 1›, if_pos ‹p.val = 0›, show p = 0 from Fin.ext ‹_›]; simp
      · cases l

/-- The unit of the trailer, at A1 where A2's record, or none, has its serial. -/
theorem witness_StatusArrivesOrHolds :
    (∀ t₀ t₁ : TrailerRecord, (heardBy prof (two t₀ t₁) []).Hears .a (heardBytes (cool .closed)) (polling []) (cool .closed)) ∧
    (cool .closed).unit = .unit ∧ (two .vacant .vacant).phase = .running ∧
    (∀ t₀ t₁ : TrailerRecord, t₀.run = none → t₁.run = none → (heardBy prof (two t₀ t₁) []).GrantLaw) ∧
    (∀ t₀ t₁ : TrailerRecord, (heardBy prof (two t₀ t₁) []).trailer 0 = t₀) ∧
    TrailerRecord.vacant.state = .vacant ∧ ({ trailer with serial := 8 } : TrailerRecord).verifies = true ∧
    ({ trailer with serial := 8 } : TrailerRecord).serial ≠ (cool .closed).serial ∧
    (heardBy prof (two .vacant .vacant) []).dirLookup 7 = none ∧
    (heardBy prof (two .vacant .vacant) []).matching 1 = some (0, prof) ∧
    (heardBy prof (two .vacant .vacant) []).matching 2 = none ∧
    goodStatus 1 (heardBytes { cool .closed with model := 2 }) = some { cool .closed with model := 2 } ∧
    (heardBy prof (two .vacant trailer) []).dirLookup 7 = some 1 ∧ (1 : Post) ≠ 0 ∧
    (heardBy prof (two .vacant trailer) []).Present 1 := by
  refine ⟨fun t₀ t₁ => heard_hears _ _ _ _ rfl (by decide +kernel), rfl, rfl,
    fun t₀ t₁ h₀ h₁ => heard_law _ _ _ (two_law t₀ t₁ h₀ h₁), fun t₀ t₁ => two_trailer t₀ t₁ 0, rfl, rfl, by decide,
    by decide +kernel, by decide +kernel, by decide +kernel, by decide +kernel, by decide +kernel, by decide, ?_, .inr ?_⟩
  · decide +kernel
  · rw [show (heardBy prof (two .vacant trailer) []).trailer 1 = trailer from two_trailer _ _ 1]; rfl

/-- A HELD record of the unit, with its owner present or gone; a record that does not verify, its serial in the directory. -/
theorem witness_StatusArrivesOrHolds_held :
    (let t : TrailerRecord := { trailer with state := .held, profile := none }
     t.verifies = true ∧ t.serial = (cool .closed).serial ∧ (heardBy prof (two t trailer) []).dirLookup 7 = some 1 ∧
      (heardBy prof (two t .vacant) []).dirLookup 7 = none) ∧
    (let t : TrailerRecord := { trailer with checkError := 1 }
     t.verifies = false ∧ t.state ≠ .vacant ∧ t.stands .linkLost = false ∧ entry.state ≠ .lost ∧
      (heardBy prof (two t .vacant) []).directory = [(7, 0)]) :=
  ⟨⟨rfl, rfl, by decide +kernel, by decide +kernel⟩, rfl, by decide, rfl, by decide, rfl⟩

/-- An ARRIVING record of the unit, with a model that profile 0 carries and one that none does, kept where the status reports
model 0. -/
theorem witness_StatusArrivesOrHolds_arriving :
    (let t : TrailerRecord := { trailer with state := .arriving, profile := none, lastEval := none }
     t.verifies = true ∧ t.serial = (cool .closed).serial ∧ t.InOneSet .unknownModel ∧
      (heardBy prof (two t .vacant) []).matching 1 = some (0, prof) ∧ (heardBy prof (two t .vacant) []).GrantLaw ∧
      (heardBy prof (two { t with model := 2 } .vacant) []).matching 2 = none) ∧
    goodStatus 1 (heardBytes { cool .closed with model := 0 }) = some { cool .closed with model := 0 } :=
  ⟨⟨rfl, rfl, .inl rfl, by decide +kernel, heard_law _ _ _ (two_law _ _ rfl rfl), by decide +kernel⟩, by decide +kernel⟩

/-- A STATUS from the post's plug. -/
def plugged (l : PlugLink) : StatusReport := { cool .closed with plugLink := l }

/-- A1 VACANT where no unit answers; a post that was LOST with POST among its run's causes; LINK-LOST of detail POST, and of
0 after a restore; a third disagreement in a row; a round with another address. -/
theorem witness_GoodStatusIsHeard_clauses :
    (∀ t rest, ∀ l ∈ [PlugLink.unit, .noUnit],
      (heardBy prof (yardWith t) rest).Hears .a (heardBytes (plugged l)) (polling rest) (plugged l)) ∧
    TrailerRecord.vacant.state ≠ .restored ∧ (plugged .noUnit).unit = .noUnit ∧
    (let s := (heardBy prof (yardRun (.suspended 950 .heating [⟨.post, 950, 0⟩])) []).putEntry 0 (some { entry with state := .lost })
     s.Hears .a (heardBytes (cool .closed)) (polling []) (cool .closed) ∧ s.entry 0 = some { entry with state := .lost }) ∧
    (∀ t ∈ [{ trailer with active := [{ cls := .linkLost, detail := 1, push := some 1 }] },
        { trailer with noted := [{ cls := .linkLost, detail := 0 }] }],
      t.verifies = true ∧ t.InOneSet .linkLost ∧ (t.detailOf .linkLost = some 1 ∨ t.detailOf .linkLost = some 0) ∧
      t.serial = (plugged .unit).serial ∧ t.unitAbsent ≠ 2 ∧ t.state ≠ .vacant ∧ t.state ≠ .held) ∧
    disagreement .off { Levels.off with contactor := true } = 1 ∧ 3 ≤ min 255 (2 + 1) ∧
    disagreement (polling []).exchange.levels (cool .closed).actual = 0 ∧
    (∀ q, ((yardWith trailer).trailer q).InOneSet .outputMismatch) ∧
    (∀ q, ((yardWith trailer).trailer q).stands .outputMismatch = false) ∧
    (∀ q, ((yardWith trailer).trailer q).verifies = true) ∧ (polling [1]).remaining = 1 :: [] := by
  refine ⟨fun t rest l h => heard_hears _ _ _ _ rfl ?_, by decide, rfl,
    ⟨⟨rfl, by decide +kernel, rfl⟩, State.entry_putEntry_self _ _ _⟩, fun t h => ?_, rfl, by decide, rfl, fun q => ?_,
    fun q => ?_, verifies_yard _ rfl, rfl⟩
  · simp only [List.mem_cons, List.not_mem_nil, or_false] at h
    obtain rfl | rfl := h <;> decide +kernel
  · simp only [List.mem_cons, List.not_mem_nil, or_false] at h
    obtain rfl | rfl := h
    · exact ⟨rfl, .inr rfl, .inl rfl, rfl, by decide, by decide, by decide⟩
    · exact ⟨rfl, .inl rfl, .inr rfl, rfl, by decide, by decide, by decide⟩
  · rw [yard_trailer]; split <;> exact .inl rfl
  · rw [yard_trailer]; split <;> rfl

theorem witness_StatusMovesConfirmsOrDeparts :
    (∀ t₀ t₁ : TrailerRecord, ∀ l ∈ [PlugLink.unit, .noUnit, .unplugged],
      (heardBy prof (two t₀ t₁) []).Hears .a (heardBytes (plugged l)) (polling []) (plugged l)) ∧
    (heardBy prof (two trailer .vacant) []).GrantLaw ∧ (two trailer .vacant).DirectoryLaw ∧ trailer.verifies = true ∧
    (plugged .unplugged).unit = .unplugged ∧ (plugged .noUnit).unit = .noUnit ∧ trailer.state ≠ .vacant ∧
    trailer.state = .enrolled ∧ ({ trailer with unitAbsent := 2 } : TrailerRecord).unitAbsent = 2 ∧
    (heardBy prof (two { trailer with state := .restored } .vacant) []).GrantLaw ∧
    ((heardBy prof (two { trailer with state := .restored } .vacant) []).line .a).sinceUp ≠ some 4 ∧
    (let t : TrailerRecord := { trailer with state := .restored, lastEval := none }
     t.verifies = true ∧ t.serial = (plugged .unit).serial ∧ (heardBy prof (two t .vacant) []).profileOf t = some prof ∧
      (heardBy prof (two t .vacant) []).profileOf { t with profile := some 31 } = none) ∧
    (let o : TrailerRecord := { trailer with state := .restored }
     (heardBy prof (two .vacant o) []).dirLookup 7 = some 1 ∧ (1 : Post) ≠ 0 ∧ ¬ (heardBy prof (two .vacant o) []).Present 1 ∧
      (two { trailer with serial := 6 } o).DirectoryLaw ∧ (heardBy prof (two .vacant o) []).GrantLaw ∧ o.verifies = true ∧
      ({ o with checkError := 1 } : TrailerRecord).verifies = false ∧ o.InOneSet .linkLost) := by
  refine ⟨fun t₀ t₁ l h => heard_hears _ _ _ _ rfl ?_, heard_law _ _ _ (two_law _ _ rfl rfl), two_directory _ _ ?_, rfl, rfl,
    rfl, by decide, rfl, rfl, heard_law _ _ _ (two_law _ _ rfl rfl), by decide, ⟨rfl, rfl, by decide +kernel, by decide +kernel⟩,
    by decide +kernel, by decide, fun h => ?_, two_directory _ _ ?_, heard_law _ _ _ (two_law _ _ rfl rfl), rfl, rfl, .inl rfl⟩
  · simp only [List.mem_cons, List.not_mem_nil, or_false] at h
    obtain rfl | rfl | rfl := h <;> decide +kernel
  · intro _ h; cases h
  · have e : (heardBy prof (two .vacant { trailer with state := .restored }) []).trailer 1
        = { trailer with state := .restored } := two_trailer _ _ 1
    obtain ⟨-, h | h⟩ := h <;> rw [e] at h <;> cases h
  · intro _ _; decide

/-! ## The line state -/

/-- The last exchange of a round, a retry by a post that is not LIVE, on line A in some state. -/
def ending (t : TrailerRecord) (r : Round) (c : LineController) : State :=
  { yardWith t with
    lineA := { c with round := some { r with remaining := [], exchange := { post := 0, retry := true, levels := .off } } }
    posts := (Vector.replicate 240 none).set 0 (some { entry with state := .lost }) }

theorem ending_law (t : TrailerRecord) (r : Round) (c : LineController) (h : t.run = none) : (ending t r c).GrantLaw := by
  refine law_quiet _ (fun p => ?_) (yard_queue t) (yard_load t)
  show ((yardWith t).trailer p).run = none
  rw [yard_trailer]; split
  · exact h
  · rfl

theorem witness_LineStateAtARoundEnd (t : TrailerRecord) (r : Round) (c : LineController) (h : t.run = none) :
    (((ending t r c).line .a).round.map fun x => (x.exchange.retry, x.remaining, x.hadGood, x.spoiled, x.beganRecovering))
      = some (true, [], r.hadGood, r.spoiled, r.beganRecovering) ∧
    (ending t r c).entry 0 = some { entry with state := .lost } ∧ PostState.lost ≠ .live ∧ (ending t r c).GrantLaw ∧
    (ending t r c).trailer 0 = t ∧ ((ending t r c).line .a).state = c.state ∧
    ((ending t r c).line .a).sinceUp = c.sinceUp :=
  ⟨rfl, get_first _ _ (by decide) 0, by decide,
    ending_law t r c h, first_trailer t, rfl, rfl⟩

/-- A GOOD result on a line that is DOWN, in a round that began so, and one at the last address. -/
theorem witness_LineStateAtARoundEnd_good :
    (let s : State := { heardBy prof yard [] with lineA := { lineUp with state := .down, round := some (polling []) } }
     s.Hears .a (heardBytes (cool .closed)) (polling []) (cool .closed) ∧ (polling []).beganRecovering = false ∧
      (s.line .a).state = .down) ∧
    (heardBy prof yard []).Hears .a (heardBytes (cool .closed)) (polling []) (cool .closed) ∧
    (polling []).remaining = [] ∧ ∀ q, ((heardBy prof yard []).trailer q).verifies = true :=
  ⟨⟨⟨rfl, by decide +kernel, rfl⟩, rfl, rfl⟩, heard_hears _ _ _ _ rfl (by decide +kernel), rfl, verifies_yard trailer rfl⟩

/-! ## The timers of a run -/

theorem run_first (st : RunState) : (yardRun st).run 0 = some (aRun st) := run_run st 0

/-- The run counter at a value. -/
def at' (n : Nat) (s : State) : State := { s with runCounter := n }

theorem witness_StartTimerFailsTheRun : (at' 960 (yardRun .commanded)).phase = .running ∧
    (at' 960 (yardRun .commanded)).run 0 = some (aRun .commanded) ∧
    (aRun .commanded).grantTime + 60 ≤ (at' 960 (yardRun .commanded)).now ∧
    (yardRun (.suspended 950 .commanded [⟨.door, 950, 0⟩])).run 0
      = some (aRun (.suspended 950 .commanded [⟨.door, 950, 0⟩])) ∧
    yard.run 0 = none ∧ (at' 959 (yardRun .commanded)).now < (aRun .commanded).grantTime + 60 ∧
    (yardRun (.heating 950)).run 0 = some (aRun (.heating 950)) ∧
    (yardRun (.suspended 950 .heating [⟨.door, 950, 0⟩])).run 0 = some (aRun (.suspended 950 .heating [⟨.door, 950, 0⟩])) ∧
    (yardRun (.ending 950 .cleared false)).run 0 = some (aRun (.ending 950 .cleared false)) :=
  ⟨rfl, run_first _, by decide, run_first _, (first_state _).2, by decide, run_first _, run_first _, run_first _⟩

theorem witness_MaxDurationTimesTheRunOut : (yardRun (.heating 400)).phase = .running ∧
    (yardRun (.heating 400)).run 0 = some (aRun (.heating 400)) ∧
    (aRun (.heating 400)).limits.maxDuration
      ≤ (aRun (.heating 400)).heatingTime + ((yardRun (.heating 400)).now - 400).toNat ∧
    (yardRun (.heating 401)).run 0 = some (aRun (.heating 401)) ∧
    (aRun (.heating 401)).heatingTime + ((yardRun (.heating 401)).now - 401).toNat
      < (aRun (.heating 401)).limits.maxDuration ∧ yard.run 0 = none ∧
    (yardRun .commanded).run 0 = some (aRun .commanded) :=
  ⟨rfl, run_first _, by decide, run_first _, by decide, (first_state _).2, run_first _⟩

/-- A run suspended from HEATING by its door. -/
def aPause (t : Time) : RunState := .suspended t .heating [⟨.door, t, 0⟩]

theorem witness_SuspensionLimitAbortsTheRun : (yardRun (aPause 940)).phase = .running ∧
    (yardRun (aPause 940)).run 0 = some (aRun (aPause 940)) ∧ [(⟨.door, 940, 0⟩ : CauseEntry)] ≠ [] ∧
    (aRun (aPause 940)).limits.suspendLimit ≤ ((yardRun (aPause 940)).now - 940).toNat ∧
    (let r := { aRun (aPause 990) with suspendedTime := 110 }
     2 * r.limits.suspendLimit ≤ r.suspendedTime + (yard.now - 990).toNat ∧
      (yardWith { trailer with run := some r }).run 0 = some r) ∧
    (yardRun (aPause 941)).run 0 = some (aRun (aPause 941)) ∧
    ((yardRun (aPause 941)).now - 941).toNat < (aRun (aPause 941)).limits.suspendLimit ∧
    (aRun (aPause 941)).suspendedTime + ((yardRun (aPause 941)).now - 941).toNat
      < 2 * (aRun (aPause 941)).limits.suspendLimit ∧ yard.run 0 = none ∧
    (yardRun .commanded).run 0 = some (aRun .commanded) :=
  ⟨rfl, run_first _, by decide, by decide, ⟨by decide, (first_state _).2⟩, run_first _, by decide, by decide,
    (first_state _).2, run_first _⟩

theorem witness_StuckTimerEndsTheRun : (yardRun (.ending 940 .timedOut false)).phase = .running ∧
    (yardRun (.ending 940 .timedOut false)).run 0 = some (aRun (.ending 940 .timedOut false)) ∧
    (940 : Int) + 60 ≤ (yardRun (.ending 940 .timedOut false)).now ∧
    (∀ q, ∀ x ∈ (yardRun (.ending 940 .timedOut false)).queue q, x.post ≠ 0) ∧ yard.run 0 = none ∧
    (yardRun .commanded).run 0 = some (aRun .commanded) ∧
    (yardRun (.ending 941 .timedOut false)).run 0 = some (aRun (.ending 941 .timedOut false)) ∧
    (yardRun (.ending 941 .timedOut false)).now < (941 : Int) + 60 := by
  refine ⟨rfl, run_first _, by decide, fun q x h => ?_, (first_state _).2, run_first _, run_first _, by decide⟩
  rw [show (yardRun (.ending 940 .timedOut false)).queue q = [] from yard_queue trailer q] at h; cases h

/-! ## The store, hold-up and power -/

theorem witness_StoreWriteCompletes : ({ yard with write := some aWrite } : State).write = some aWrite ∧
    readBlock aWrite.block.val aWrite.content = some (.defaults 4 900) ∧ yard.write = none ∧
    ({ yard with write := some aWrite, phase := .flushWaiting } : State).phase = .flushWaiting :=
  ⟨rfl, by decide +kernel, rfl, rfl⟩

/-- A write in flight of a block's content. -/
def writing (s : State) (b : Fin 102) (c : BlockContent) : State :=
  { s with write := some { block := b, content := c.bytes, tag := 9 } }

theorem get_build {α : Type} (n : Nat) (f : Fin n → α) (i : Fin n) : (buildVec n f).get i = f i := by
  simp [buildVec, Vector.get_eq_getElem]
theorem build_get {α : Type} (n : Nat) (v : Vector α n) : buildVec n v.get = v := by
  ext i h; simp [buildVec, Vector.get_eq_getElem]

/-- What a post map's byte holds. -/
theorem map_byte (m : Vector Queue 240) (st : Vector Bool 240) (p : Fin 240) :
    (byteAt (padBlock (mapBytes m st)) p.val).toNat = (m.get p).val + if st.get p then 128 else 0 := by
  have l : p.val < (mapBytes m st).length := by simp [mapBytes]
  have q := (m.get p).isLt
  unfold byteAt padBlock
  rw [List.getD_eq_getElem?_getD, List.getElem?_append_left l, List.getElem?_eq_getElem l, Option.getD_some]
  simp only [mapBytes, List.getElem_map, List.getElem_finRange, byte1, BitVec.toNat_ofNat]
  cases e : st.get p <;> simp [e] <;> omega

/-- A post map with at most 40 posts on each queue reads back. -/
theorem map_reads (m : Vector Queue 240) (st : Vector Bool 240) (h : ∀ q, mapCount m q ≤ Config.queuePosts) :
    readBlock 2 (BlockContent.postMap m st).bytes = some (.postMap m st) := by
  have e : ∀ p : Fin 240, (byteAt (padBlock (mapBytes m st)) p.val).toNat % 128 = (m.get p).val := fun p => by
    have := (m.get p).isLt; rw [map_byte]; split <;> omega
  have d : ∀ p : Fin 240, decide (128 ≤ (byteAt (padBlock (mapBytes m st)) p.val).toNat) = st.get p := fun p => by
    have := (m.get p).isLt; rw [map_byte]; rcases st.get p <;> simp; omega
  have q : (buildVec 240 fun p : Fin 240 => (Fin.ofNat 9 (m.get p).val : Queue)) = m := by
    conv_rhs => rw [← build_get 240 m]
    exact congrArg _ (funext fun p => Fin.ext (Nat.mod_eq_of_lt (m.get p).isLt))
  show (readMap (padBlock (mapBytes m st))).map _ = _
  unfold readMap
  simp only [e, d, q, build_get]
  rw [if_pos, if_pos]
  · rfl
  · simpa using h
  · simp only [List.all_eq_true, decide_eq_true_eq]; intro p _; have := (m.get p).isLt; omega

/-- The factory map with A1 moved to F1. -/
def movedMap : Vector Queue 240 := buildVec 240 fun p => if p = 0 then 1 else Fin.ofNat 9 (p.val / 30)

theorem moved_reads : readBlock 2 (BlockContent.postMap movedMap factoryStart).bytes = some (.postMap movedMap factoryStart) := by
  refine map_reads _ _ ?_
  simp only [mapCount, movedMap, get_build]; decide +kernel

/-- Every content, the OFF line B with an address to come, a queued request, a bound trailer, and a flush that waits. -/
theorem witness_CompletedContentTakesEffect :
    (∀ z ∈ ([(1, .lines settings { settings with installed := 1 <<< 119 }),
        (3, .capacities (Vector.replicate 8 400)),
        (4, .findingTable (Vector.replicate 16 { severity := 3, action := .beacon })), (5, .defaults 4 900),
        (6, .profile 0 (some { prof with sender := false })), (6, .profile 0 (some { prof with fth := 65535 }))] :
          List (Fin 102 × BlockContent)), readBlock z.1.val z.2.bytes = some z.2) ∧
    readBlock 2 (BlockContent.postMap movedMap factoryStart).bytes = some (.postMap movedMap factoryStart) ∧
    (∀ s b c, (writing s b c).write = some { block := b, content := c.bytes, tag := 9 }) ∧ yard.phase = .running ∧
    (yard.line .b).state = .off ∧ (yard.line .b).settings.installed = 0 ∧ (yard.line .a).state ≠ .off ∧
    (∀ b c, (writing (yardQueued .host) b c).GrantLaw) ∧ (yardQueued .host).queue 0 = [aRequest .host] ∧
    (yard.trailer 0).profile = some 0 ∧ (yard.trailer 0).InOneSet .senderFault ∧
    yard.config.profiles.get 0 = some prof ∧ prof.sender ≠ ({ prof with sender := false } : Profile).sender ∧
    ({ yard with phase := .flushWaiting } : State).phase = .flushWaiting ∧ (yard.trailer 0).state ≠ .vacant ∧
    (yard.trailer 0).active.find? (fun x => decide ((yard.tableEntry x.cls).action = .beacon)) = none := by
  refine ⟨by decide +kernel, moved_reads, fun _ _ _ => rfl, rfl, rfl, rfl, by decide,
    fun _ _ => let h := law_queued .host; ⟨h.1, h.2, h.3, h.4, h.5, h.6⟩, queued_queue _ _, ?_, ?_, by decide +kernel, by decide,
    rfl, ?_, ?_⟩ <;> rw [yard, first_trailer]
  · rfl
  · exact .inl rfl
  · decide
  · rfl

/-- A1 with a run, HEATER-WEAK and FUEL-LOSS active, and a completed finding table that gives CUT-HEATER to the first of them
and to DEFROST-ABORTED, and INHIBIT-DEFROST to the second. -/
def tabled : State :=
  let t := (Vector.replicate 16 { severity := 1, action := .none }).set 7 { severity := 1, action := .cutHeater }
  writing
    (yardWith { trailer with
      run := some (aRun .commanded), mask := 0xFFFF
      active := [⟨.heaterWeak, 1, some 5⟩, ⟨.fuelLoss, 1, some 6⟩] })
    4 (.findingTable ((t.set 8 { severity := 1, action := .cutHeater }).set 10 { severity := 1, action := .inhibitDefrost }))

theorem witness_CompletedContentTakesEffect_table :
    (let s := tabled
     s.phase = .running ∧ (s.trailer 0).state ≠ .vacant ∧ ((s.inForce 0).of .cutHeater) = none ∧
      ((s.inForce 0).of .inhibitDefrost) = none ∧ (s.run 0).isSome = true) ∧
    (∀ q, yard.run q = none) ∧ ((yardInhibiting.inForce 0).of .inhibitDefrost).isSome = true := by
  have h := first_trailer { trailer with
      run := some (aRun .commanded), mask := 0xFFFF, active := [⟨.heaterWeak, 1, some 5⟩, ⟨.fuelLoss, 1, some 6⟩] }
  refine ⟨⟨rfl, ?_, by decide +kernel, by decide +kernel, congrArg (fun t => t.run.isSome) h⟩, fun q => ?_, ?_⟩
  · exact fun e => absurd ((congrArg TrailerRecord.state h).symm.trans e) (by decide)
  · unfold State.run yard; rw [yard_trailer]; split <;> rfl
  · rw [yardInhibiting, State.inForce_putInForce_self]; rfl

/-- R156: CUT-HEATER has the push number of the lowest class that carried it at the write, 5, and not that of the
DEFROST-ABORTED that INHIBIT-DEFROST raises as it comes into force. -/
theorem test_settle_order : (tabled.completeWrite.inForce 0).cut = some 5 ∧
    (tabled.completeWrite.inForce 0).inhibit = some 6 ∧
    ((tabled.completeWrite.trailer 0).activeOf .defrostAborted).isSome = true := by decide +kernel

/-- R156: a CUT-HEATER that no active class carries at the write is withdrawn, and DEFROST-ABORTED brings it in again. -/
theorem test_settle_withdraws : ((let s := (tabled.editTrailer 0 fun t => { t with active := [⟨.fuelLoss, 1, some 6⟩] })
    (s.putInForce 0 { ActionsInForce.none with cut := some 3 }).completeWrite.inForce 0).cut) = some 1 := by decide +kernel

/-- R110: a DEFROST-ABORTED that the mask has noted carries cause 0, draws no push number and leaves the link at the cut
that ended the run. -/
theorem test_noted_cause :
    (let t : TrailerRecord := { trailer with run := some (aRun .commanded), mask := 0x8000 }
     let s := (yardWith t).enterEnding 0 (.aborted .cut) false 57
     (s.stations.map fun x => x.items.map (·.body), (s.run 0).bind (·.link), s.nextPush))
    = ([[.findingNoted .defrostAborted 2 4 0]], some 57, 1) := by decide +kernel

theorem witness_MainsLossBeginsARestart : yard.phase = .running ∧ yard.write = none ∧ yard.heldCauses = [] ∧
    (∀ p, (yard.trailer p).verifies = true) ∧ ({ yard with write := some aWrite } : State).write = some aWrite ∧
    flushing.phase.restartPending = true ∧ flushing.write = none ∧
    flushing.restartRecord.primary ≠ some .mainsLoss ∧ (yardStation 998 5).BufferLaw ∧
    ({ yard with write := some aWrite, phase := .flushWaiting } : State).phase = .flushWaiting ∧
    yard.restartRecord.primary ≠ some .mainsLoss :=
  ⟨rfl, rfl, rfl, verifies_yard _ rfl, rfl, rfl, rfl, by decide, by unfold State.BufferLaw; decide +kernel, rfl, by decide⟩

/-- R42, R130, R133: a packed record of A1 restored at run counter 1000. -/
theorem test_restore :
    (let t := ((yardWith .vacant).restoreRecord { aSaved with post := 0, endAge := 101, pnAge := 3, bs := 32, remaining := 60 }).trailer 0
     [t.lastDefrostEnd, t.deferral, t.door.pn, some t.f, some t.fuel.hours])
    = [some 900, some 1060, some (-2), some 65535, some 3124] := by decide +kernel

/-- R188: stations flush in order of open time, the earliest first, as a restart begins. -/
theorem test_flush_order : ((State.flushAll 2 { yard with
      tx := some (.reply aReply), stations := [aStation 5 1, { aStation 3 2 with opened := 998 }] }).notices.map (·.post))
    = [3, 5] := by decide +kernel

/-- The flush is at its last block, for a reason. -/
def lastBlock (r : RestartRecord) (mains : Bool) : State :=
  { yard with phase := .flushing 101 [List.replicate 256 1], restartRecord := r, mainsPresent := mains }

theorem witness_FlushEndsInAStart :
    flushing.phase = .flushing (38 : Fin 102).val [List.replicate 256 1, List.replicate 256 2] ∧
    (lastBlock ⟨some .hostRestart, none⟩ true).phase = .flushing (101 : Fin 102).val [List.replicate 256 1] ∧
    (some Reason.hostRestart ≠ some .mainsLoss) ∧ ((none : Option Reason) ≠ some .mainsLoss) ∧
    (lastBlock ⟨some .hostRestart, some .mainsLoss⟩ false).restartRecord.secondary = some .mainsLoss ∧
    (lastBlock ⟨some .hostRestart, some .mainsLoss⟩ false).mainsPresent = false ∧
    (lastBlock ⟨some .mainsLoss, none⟩ true).restartRecord.primary = some .mainsLoss ∧
    (lastBlock ⟨some .mainsLoss, none⟩ true).mainsPresent = true ∧
    ({ yard with phase := .awaitingMains } : State).phase = .awaitingMains ∧ yard.phase ≠ .awaitingMains :=
  ⟨rfl, rfl, by decide, by decide, rfl, rfl, rfl, rfl, rfl, by decide⟩

/-- An image with three records: a second of one serial, and one at an address that is not installed, are dropped (R42). Of
the blocks, one is read, and one that no values spell is not. -/
theorem witness_FlushEndsInAStart_image :
    (let vs := [{ aSaved with post := 0 }, { aSaved with post := 1 }, { aSaved with post := 239, serial := 8 }]
     readImage (flushBlocks 4 (vs.map Saved.bytes)) = some (4, vs) ∧
      restoredOf (fun p => decide (p.val < 2)) vs = [{ aSaved with post := 0 }]) ∧
    (readBlock 5 (BlockContent.defaults 4 900).bytes).isSome = true ∧ readBlock 5 (List.replicate 256 0) = none := by
  decide +kernel

theorem witness_PowerFailsAndReturns : yard.phase ≠ .off ∧ yard.phase = .running ∧ yard.write = none ∧
    ({ yard with phase := .awaitingMains } : State).phase = .awaitingMains ∧
    ({ yard with phase := .off } : State).phase = .off := ⟨by decide, rfl, rfl, rfl, rfl⟩

theorem witness_LastEraseStartsTheModule :
    ({ yard with phase := .starting 39 } : State).phase = .starting (39 : Fin 102).val ∧ 38 < (39 : Fin 102).val ∧
    ({ yard with phase := .starting 38 } : State).phase = .starting 38 ∧ yard.heldCauses = [] ∧
    yard.installed 0 = true ∧ ∀ b, yard.phase ≠ .starting b := by
  refine ⟨rfl, by decide, rfl, rfl, by decide +kernel, fun b h => ?_⟩
  cases h

/-! ## Outputs, the walk, frost, fuel, doors and findings -/

theorem witness_PermitOnlyWhileFourHold : (yardRun (.heating 950)).output 0 = some output ∧
    (yardRun (.heating 950)).run 0 = some (aRun (.heating 950)) ∧
    ((yardRun (.heating 950)).line (postLine 0)).state = .up ∧ ((yardRun (.heating 950)).inForce 0).cut = none ∧
    output.forceOff = false := ⟨yard_output { trailer with run := some (aRun (.heating 950)) } 0, run_first _, rfl, by decide +kernel, rfl⟩

theorem witness_ContactorAndBeaconOfAPoll : yard.output 0 = some output ∧ (yard.line (postLine 0)).state = .up ∧
    output.forceOff = false ∧ (yard.inForce 0).beacon = none ∧ output.thisToggle = none ∧
    ((yard.putInForce 0 { ActionsInForce.none with beacon := some 0 }).inForce 0).beacon.isSome = true ∧
    output.delivered = none ∧ (({ yard with lineA := { lineUp with state := .disturbed } } : State).line (postLine 0)).state ≠ .up ∧
    (yard.putOutput 0 (some { output with thisToggle := some false, delivered := some .off, forceOff := true })).output 0
      = some { output with thisToggle := some false, delivered := some .off, forceOff := true } := by
  refine ⟨yard_output _ _, rfl, rfl, by decide +kernel, rfl, ?_, rfl, by decide, State.output_putOutput_self _ _ _⟩
  rw [State.inForce_putInForce_self]; rfl

theorem witness_WalkGrantsWithinCapacity : walkFrom (some 40) all 0 [] [t1 0, t2] = ([t1 0, t2], []) ∧
    (∀ r ∈ [t1 3, t2], r.passes ≤ 3) ∧ ([t1 3, t2].map (·.post)).Nodup ∧ [t1 3, t2] = [t1 3] ++ t2 :: [] ∧
    walkFrom (some 8) all 0 [] [t1 3, t2] = ([], [t1 3, t2]) := by decide

/-- A request of A1 on F0, whose capacity is 40, while the module runs and while a restart is pending; and ENGINE-BAY. -/
theorem witness_WalkGrantsWithinCapacity_walk : (yardQueued .host).phase = .running ∧ (yardQueued .host).GrantLaw ∧
    (yardQueued .host).queue 0 = [aRequest .host] ∧ (yardQueued .host).capacityOf 0 = some 40 ∧ flushing.phase ≠ .running ∧
    (yardQueued .host).profileOf ((yardQueued .host).trailer 0) = some prof ∧ (8 : Queue).val = 8 := by
  refine ⟨rfl, law_queued _, queued_queue _ _, by decide +kernel, by decide, ?_, rfl⟩
  rw [show (yardQueued .host).trailer 0 = trailer from first_trailer trailer]; decide +kernel

/-- What the arrival found: no run, or one. -/
def found (run : Bool) : AtArrival := { runExists := run, runHeating := false, history := 0x8000, pn := some 1 }

theorem witness_FrostAccountIsExact : (yard.trailer 0).lastEval = some 990 ∧ (yard.trailer 0).tc = some (-240) ∧
    ((10 : Nat) : Int) = max 1 (min 300 (yard.now - 990)) ∧ (found true).runExists = true ∧
    (found false).runExists = false ∧ (report .cool .closed).mode = .cool ∧ (-240 : Int) < 0 ∧
    (report .null .closed).mode = .null ∧ ((yardWith { trailer with tc := some 20 }).trailer 0).tc = some 20 ∧
    (20 : Int) ≤ 20 := by
  refine ⟨?_, ?_, by decide, rfl, rfl, rfl, by decide, rfl, ?_, by decide⟩
  · rw [yard, first_trailer]; rfl
  · rw [yard, first_trailer]; rfl
  · rw [first_trailer]

/-- The first evaluation, no held coil, the coil at 0 in COOL and at 19 in NULL, and a mode that neither accrues nor
melts. -/
theorem witness_FrostAccountIsExact_stands :
    ((yardWith { trailer with lastEval := none }).trailer 0).lastEval = none ∧
    ((yardWith { trailer with tc := none }).trailer 0).tc = none ∧
    ((yardWith { trailer with tc := some 0 }).trailer 0).tc = some 0 ∧
    ((yardWith { trailer with tc := some 19 }).trailer 0).tc = some 19 ∧ (19 : Int) < 20 ∧
    (report .heat .closed).mode ≠ .cool ∧ (report .heat .closed).mode ≠ .null ∧ (report .heat .closed).mode ≠ .off := by
  refine ⟨?_, ?_, ?_, ?_, by decide, by decide, by decide, by decide⟩ <;> rw [first_trailer]

/-- R55, R60: no recorded opening, one of this period (shift 0), one 15 periods back and one past the view; weather aged 1799,
1800, 7200 and 7201 seconds, and none. -/
theorem witness_FrostAccountIsExact_reads : ({ found false with pn := none } : AtArrival).pn = none ∧
    (found false).pn = some 1 ∧ ((1000 : Int) / (900 : Nat) - 1).toNat = 0 ∧
    ((1000 : Int) / (900 : Nat) - -14).toNat = 15 ∧ ((1000 : Int) / (900 : Nat) - -15).toNat = 16 ∧
    (∀ a ∈ [(1799 : Int), 1800, 7200, 7201], ∃ w : Weather, w.receipt = some (9000 - a)) ∧
    (9000 : Int) - (9000 - 7200) ≤ 7200 ∧ (7200 : Int) < 9000 - (9000 - 7201) ∧ State.reset.weather.receipt = none :=
  ⟨rfl, rfl, by decide, by decide, by decide, fun a _ => ⟨{ rh := 50, ta := -10, receipt := some (9000 - a) }, rfl⟩,
    by decide, by decide, rfl⟩

/-- R60: the weather stands CURRENT, STALE, STALE and DEFAULT at these ages, and M is 4 or Mdef. -/
theorem test_weather_ages : ([1799, 1800, 7200, 7201].map fun a : Int =>
    let w : Weather := { rh := 50, ta := -10, receipt := some (9000 - a) }
    (w.standing 9000, w.moisture 9000 10)) = [(.current, 4), (.stale, 4), (.stale, 4), (.default, 10)] := by decide

theorem witness_FuelLevelStaysOnTheCurve : prof.curveOk = true ∧ 39 < (prof.curve.get 0).1 ∧
    (prof.curve.get 8).1 < 961 ∧ (prof.curve.get (Fin.castSucc 0)).1 ≤ 40 ∧ 40 ≤ (prof.curve.get (Fin.succ 0)).1 ∧
    16 * (prof.curve.get 0).2 ≤ 2400 ∧ 59200 ≤ 16 * (prof.curve.get 8).2 := by decide +kernel

/-- A1 with a history word of a period. -/
def yardWord (n : Int) : State :=
  yardWith { trailer with door := { trailer.door with history := 0x9800, pn := some n }, custody := .closed [0x41] }

theorem witness_OpeningMarksAndBreaks : (yard.trailer 0).door.pn = none ∧ (yard.trailer 0).custody = .none ∧
    ((yardWord 0).trailer 0).door.pn = some 0 ∧ (0 : Int) < (yardWord 0).now / ((yardWord 0).config.hp : Int) ∧
    ((yardWord 1).trailer 0).door.pn = some 1 ∧ (yardWord 1).now / ((yardWord 1).config.hp : Int) ≤ 1 ∧
    ((yardWord 1).trailer 0).custody = .closed [0x41] ∧ (yardWord 1).phase = .running := by
  refine ⟨?_, ?_, ?_, by decide, ?_, by decide, ?_, rfl⟩
  · rw [yard, first_trailer]; rfl
  · rw [yard, first_trailer]; rfl
  · rw [yardWord, first_trailer]
  · rw [yardWord, first_trailer]
  · rw [yardWord, first_trailer]

theorem witness_FindingIsDroppedNotedOrRaised : flushing.phase ≠ .running ∧ yard.phase = .running ∧
    (yard.trailer 0).stands .fuelLoss = false ∧ (yard.trailer 0).mask.getLsbD FindingClass.fuelLoss.num = false ∧
    FindingClass.fuelLoss ≠ .custodyBreak ∧ (yard.trailer 0).mask.getLsbD FindingClass.linkLost.num = true ∧
    (yardFinding.trailer 0).stands .fuelLoss = true ∧ (yard.tableEntry .custodyBreak).action ≠ .none ∧
    yard.StackLaw ∧ ({ yard with stack := (List.range 8).map aFrame } : State).stack.length = 8 := by
  refine ⟨by decide, rfl, ?_, ?_, by decide, ?_, ?_, by decide +kernel, by unfold State.StackLaw; decide, by decide⟩
  · rw [yard, first_trailer]; decide
  · rw [yard, first_trailer]; decide
  · rw [yard, first_trailer]; decide
  · rw [yardFinding, first_trailer]; decide

/-- A run that LINK-LOST ends by INHIBIT-DEFROST, at push number 65535, with the mask entry of DEFROST-ABORTED clear or set. -/
theorem witness_FindingIsDroppedNotedOrRaised_aborts : ∀ m ∈ [(0x8001 : Word16), 0x8081],
    let s : State := { yardWith { trailer with run := some (aRun .commanded), mask := m } with
      nextPush := 65535
      config := { yard.config with table := yard.config.table.set 0 { severity := 3, action := .inhibitDefrost } } }
    s.phase = .running ∧ (s.trailer 0).stands .linkLost = false ∧ (s.trailer 0).mask.getLsbD FindingClass.linkLost.num = true ∧
    (s.tableEntry .linkLost).action = .inhibitDefrost ∧ (s.inForce 0).inhibit = none ∧ s.run 0 = some (aRun .commanded) ∧
    (s.trailer 0).stands .defrostAborted = false ∧
    (s.trailer 0).mask.getLsbD FindingClass.defrostAborted.num = decide (m = 0x8081) := by
  intro m h
  have e := first_trailer { trailer with run := some (aRun .commanded), mask := m }
  simp only [List.mem_cons, List.not_mem_nil, or_false] at h
  refine ⟨rfl, congrArg (·.stands .linkLost) e, (congrArg (fun t => t.mask.getLsbD FindingClass.linkLost.num) e).trans ?_, rfl, ?_,
    congrArg TrailerRecord.run e, congrArg (·.stands .defrostAborted) e, (congrArg (fun t => t.mask.getLsbD FindingClass.defrostAborted.num) e).trans ?_⟩
  · obtain rfl | rfl := h <;> decide
  · obtain rfl | rfl := h <;> decide +kernel
  · obtain rfl | rfl := h <;> decide

/-- The same run with DEFROST-ABORTED standing, which drops the second finding. -/
theorem witness_FindingIsDroppedNotedOrRaised_dropped :
    let t : TrailerRecord := { trailer with
      run := some (aRun .commanded), mask := 0x8081, active := [⟨.defrostAborted, 1, some 2⟩] }
    let s : State := { yardWith t with
      config := { yard.config with table := yard.config.table.set 0 { severity := 3, action := .inhibitDefrost } } }
    s.phase = .running ∧ (s.trailer 0).stands .linkLost = false ∧ (s.trailer 0).mask.getLsbD FindingClass.linkLost.num = true ∧
    (s.tableEntry .linkLost).action = .inhibitDefrost ∧ (s.inForce 0).inhibit = none ∧ s.run 0 = some (aRun .commanded) ∧
    0 < s.nextPush ∧ (s.trailer 0).stands .defrostAborted = true := by
  decide +kernel

/-- R107, R110: an action's abort is recorded in the run, and the host's is not. -/
theorem test_abort_by_action : ([true, false].map fun b =>
    let t : TrailerRecord := { trailer with run := some (aRun .commanded), mask := 0xFFFF }
    ((((yardWith t).abortRun 0 .inhibit b 0).1.run 0).map fun r => (r.byAction, r.link)))
    = [some (true, some 1), some (false, none)] := by decide +kernel

/-! ## One step of a command on the small yard -/

/-- The state after a command. -/
def after (i : Instr) (s : State) : State :=
  match exec i s with
  | .next t => t
  | .fault _ | .refused _ => s

/-- The check value that is published for this polynomial and initial value (R178), over the characters 1 to 9. -/
theorem test_crc : crc16 [0x31, 0x32, 0x33, 0x34, 0x35, 0x36, 0x37, 0x38, 0x39] = 0x29B1 := by decide +kernel

/-- R176 and R178: the wire bytes of a request bring its reply, with the type's bit 7 set. -/
theorem test_host_frame : ((after (.hostFrame (HostFrame.wire ⟨0x11, 5, []⟩)) yard).tx)
    = some (.reply { type := 0x11, tag := 5, status := .ok, body := [0] }) := by decide +kernel

theorem test_round_start : (after (.roundStart .a) yard).lineA.round = some (
    { beganRecovering := false, hadGood := false, spoiled := false, remaining := []
      exchange := { post := 0, retry := false, levels := { contactor := true, permit := false, beacon := false, demand := false } } } : Round) := by
  decide +kernel

/-- R63 and R64 with dt 10, coil term 6, no door load and the factory Mdef of 10: 500 + 10 × 6 × 10 / 16, floored. -/
theorem test_status_accrues :
    ((after (.status .a ((report .cool .closed).frameBytes 1)) (yardRound false 0)).trailer 0).f = 537 := by
  decide +kernel

/-- R9: the post is LIVE with its last GOOD now. -/
theorem test_status_live : (after (.status .a ((report .cool .closed).frameBytes 1)) (yardRound false 2)).entry 0
    = some { state := .live, missed := 0, lastGood := some 1000, pluggedNoUnit := false } := by decide +kernel

/-- R14: the third miss of the run on a line that is UP. -/
theorem test_third_miss : (after (.responseWindowExpiry .a) (yardRound true 2)).lineA.state = .disturbed := by
  decide +kernel

/-- R86 and R87: with room on the feeder the request is granted at once. -/
theorem test_defrost_now : (after (.defrostNow 1 0) yard).load 0 = 20 ∧
    ((after (.defrostNow 1 0) yard).run 0).map (·.state) = some .commanded := by decide +kernel

/-- R96: START-FAILED 60 s after the grant. -/
theorem test_start_timer : ((after (.startTimerExpiry 0) (yardRun .commanded)).run 0).map (·.state)
    = some (.ending 1000 .startFailed false) := by decide +kernel

/-- R30, R184: a departure flushes its notice at once; the idle transmitter begins it, and the reply waits. -/
theorem test_release_post : (after (.releasePost 1 0) yard).tx
      = some (.notice { post := 0, items := [{ yardTime := 1000, body := .departed 7 }] }) ∧
    (after (.releasePost 1 0) yard).replies.length = 1 := by decide +kernel

/-- R27: DEFROST_INHIBIT OFF on a record that carries no inhibit flag changes nothing, so a spoiled record still fails. -/
theorem test_unchanged_record_stays_spoiled : ((after (.defrostInhibit 1 0 0)
    (yardWith { trailer with checkError := 1 })).trailer 0).verifies = false ∧
    ((after (.defrostInhibit 1 0 0) (yardWith { trailer with checkError := 1, inhibit := true })).trailer 0).verifies = true := by
  decide +kernel

/-- R144: the broken custody's item stands before the finding's in the notice that the finding flushes. -/
theorem test_custody_break_order : (match (yardCustody.opening 0).tx with
    | some (.notice n) => n.items.map fun i => match i.body with
      | .custodyChanged _ => 1
      | .findingRaised _ _ _ _ _ => 2
      | _ => 0
    | _ => []) = [1, 2] := by decide +kernel

/-- R184: an idle transmitter takes the first of 25 notices at once, so that the queue of 24 holds the others. -/
theorem test_no_notice_is_lost : (let s := yard.forEach (List.replicate 25 aNotice) fun s n => s.offerNotice n
    (s.tx, s.notices.length, s.noticesLost)) = (some (.notice aNotice), 24, false) := by decide +kernel

/-- R79: a UNIT request leaves when the unit leaves DEFROST, also where the profile id names no profile. -/
theorem test_unit_request_leaves : (let s : State := { yardQueued .unit with config := YardConfig.factory }
    ((s.filing 0 (cool .closed) false).queue 0, (s.filing 0 (report .defrost .closed) false).queue 0))
      = ([], [aRequest .unit]) := by decide +kernel

/-- R160: a frame that was taken is gone. -/
theorem test_take_exception : (after (.takeException 1) { yard with stack := [aFrame 2, aFrame 1] }).stack = [aFrame 1] := by
  decide +kernel

/-- R196: a first flush has number 0 and begins at block 38. -/
theorem test_restart : (match (after (.restart 1) yard).phase with
    | .flushing b blocks => (b, blocks.length, (blocks.getD 0 []).take 2)
    | _ => (0, 0, [])) = (38, 1, [0, 0]) := by decide +kernel

end Sys2Proof.Tests
end

/-! # Output Control: the levels of a POLL (R166 to R171)

The rules of `levelsFor` and of a BEACON action that comes into force, one for each case of chapter 9, and the two
statements O54 and O55 put together from them. -/

namespace Sys2Proof.Machine

/-! ## What a run asks for and what is in force -/

section
variable (s : State) (p : Post)

theorem State.lineUp_eq_true_iff : s.lineUp p = true ↔ (s.line (postLine p)).state = .up := decide_eq_true_iff

theorem State.actionInForce_beacon : s.actionInForce p .beacon = (s.inForce p).beacon.isSome := rfl

theorem State.actionInForce_cutHeater : s.actionInForce p .cutHeater = (s.inForce p).cut.isSome := rfl

end

/-- A run asks for the heater permit while it is COMMANDED or HEATING (R111). -/
theorem runAsks_permit_iff (run : Option RunRecord) :
    (runAsks run).1 = true ↔ ∃ r, run = some r ∧ (r.state = .commanded ∨ ∃ t, r.state = .heating t) := by
  cases run with
  | none => simp [runAsks]
  | some r => cases h : r.state <;> simp [runAsks, h]

/-- A run asks for defrost while it is COMMANDED, HEATING or SUSPENDED (R111). -/
theorem runAsks_demand_iff (run : Option RunRecord) :
    (runAsks run).2 = true ↔ ∃ r, run = some r ∧
      (r.state = .commanded ∨ (∃ t, r.state = .heating t) ∨ ∃ t prior cs, r.state = .suspended t prior cs) := by
  cases run with
  | none => simp [runAsks]
  | some r => cases h : r.state <;> simp [runAsks, h]

/-- ENDING is the only state in which a run does not ask for defrost. -/
theorem runAsks_demand_iff_not_ending (run : Option RunRecord) :
    (runAsks run).2 = true ↔ ∃ r, run = some r ∧ ∀ t c e, r.state ≠ .ending t c e := by
  cases run with
  | none => simp [runAsks]
  | some r =>
    cases h : r.state with
    | ending t c e =>
      have hasks : (runAsks (some r)).2 = false := by simp [runAsks, h]
      rw [hasks]
      exact ⟨nofun, fun ⟨_, hr, hne⟩ => absurd h (Option.some.inj hr ▸ hne t c e)⟩
    | commanded | heating | suspended => simp [runAsks, h]

/-- R168: the four conditions of HEATER-PERMIT. -/
theorem State.permitLevel_eq_true_iff (s : State) (p : Post) (o : OutputState) :
    s.permitLevel p o = true ↔
      (∃ r, s.run p = some r ∧ (r.state = .commanded ∨ ∃ t, r.state = .heating t)) ∧
      (s.line (postLine p)).state = .up ∧ (s.inForce p).cut = none ∧ o.forceOff = false := by
  simp [State.permitLevel, runAsks_permit_iff, s.lineUp_eq_true_iff p, s.actionInForce_cutHeater p, and_assoc]

/-! ## CONTACTOR and BEACON on a line that is UP (R167, R170) -/

theorem OutputState.contactorLevel_of_forceOff {o : OutputState} (h : o.forceOff = true) : o.contactorLevel = false := by
  simp [OutputState.contactorLevel, h]

theorem OutputState.contactorLevel_of_not_forceOff {o : OutputState} (h : o.forceOff = false) :
    o.contactorLevel = (o.forceOn || o.contactor) := by
  cases hon : o.forceOn <;> simp [OutputState.contactorLevel, h, hon]

section
variable {s : State} {p : Post} {o : OutputState}

theorem State.beaconLevel_of_forceOff (h : o.forceOff = true) : s.beaconLevel p o = (false, o) := by
  simp [State.beaconLevel, h]

theorem State.beaconLevel_of_not_inForce (h : o.forceOff = false) (hb : (s.inForce p).beacon = none) :
    s.beaconLevel p o = (o.beacon, o) := by
  simp [State.beaconLevel, h, s.actionInForce_beacon p, hb]

/-- The pattern with this round's level absent: the next level is carried and the toggle turns. -/
theorem State.beaconLevel_of_toggle_absent (h : o.forceOff = false) (hb : (s.inForce p).beacon.isSome)
    (ht : o.thisToggle = none) :
    s.beaconLevel p o
      = (o.nextToggle, { o with thisToggle := some o.nextToggle, nextToggle := !o.nextToggle }) := by
  simp [State.beaconLevel, h, s.actionInForce_beacon p, hb, ht]

/-- The pattern with this round's level present: it is carried and nothing turns. -/
theorem State.beaconLevel_of_toggle_present {level : Bool} (h : o.forceOff = false)
    (hb : (s.inForce p).beacon.isSome) (ht : o.thisToggle = some level) : s.beaconLevel p o = (level, o) := by
  simp [State.beaconLevel, h, s.actionInForce_beacon p, hb, ht]

/-- Where the beacon is settled without the pattern, its output state stands. -/
theorem State.beaconLevel_keeps (h : o.forceOff = true ∨ (s.inForce p).beacon = none) :
    (s.beaconLevel p o).2 = o := by
  by_cases hoff : o.forceOff = true
  · rw [State.beaconLevel_of_forceOff hoff]
  · rw [State.beaconLevel_of_not_inForce (Bool.eq_false_iff.mpr hoff) (h.resolve_left hoff)]

end

/-- Settling the beacon changes no more than the toggle fields. -/
theorem State.beaconLevel_changes (s : State) (p : Post) (o : OutputState) :
    (s.beaconLevel p o).2
      = { o with nextToggle := (s.beaconLevel p o).2.nextToggle, thisToggle := (s.beaconLevel p o).2.thisToggle } := by
  unfold State.beaconLevel
  split
  · rfl
  · split
    · split <;> rfl
    · rfl

/-! ## The levels of an exchange (R166, R171) -/

/-- The output state as an exchange begins: the first exchange of a round makes this round's toggle level absent
(R170). -/
def OutputState.atExchange (o : OutputState) (first : Bool) : OutputState :=
  { o with thisToggle := if first then none else o.thisToggle }

section
variable (o : OutputState) (first : Bool)

@[simp] theorem OutputState.atExchange_thisToggle :
    (o.atExchange first).thisToggle = if first then none else o.thisToggle := rfl

theorem OutputState.atExchange_false : o.atExchange false = o := rfl

/-- The output state of `workOut` as an exchange begins. -/
theorem OutputState.atExchange_eq : (if first then { o with thisToggle := none } else o) = o.atExchange first := by
  cases first <;> rfl

end

section
variable {s : State} {p : Post} (o : OutputState) (first : Bool)

theorem State.workOut_of_up (h : (s.line (postLine p)).state = .up) :
    s.workOut p o first
      = ({ contactor := (o.atExchange first).contactorLevel, permit := s.permitLevel p (o.atExchange first)
           beacon := (s.beaconLevel p (o.atExchange first)).1, demand := s.demandLevel p },
         (s.beaconLevel p (o.atExchange first)).2) := by
  simp only [State.workOut, OutputState.atExchange_eq, (s.lineUp_eq_true_iff p).mpr h, if_true]

theorem State.workOut_of_not_up (h : (s.line (postLine p)).state ≠ .up) :
    s.workOut p o first
      = ({ contactor := (s.maskedLevels p o).1, permit := false, beacon := (s.maskedLevels p o).2
           demand := s.demandLevel p }, o.atExchange first) := by
  have hup : ¬ s.lineUp p = true := fun hu => h ((s.lineUp_eq_true_iff p).mp hu)
  simp only [State.workOut, OutputState.atExchange_eq, if_neg hup]
  rfl

end

section
variable (s : State) (p : Post) (o : OutputState) (first : Bool)

/-- DEFROST-DEMAND does not depend on the line (R169, R171). -/
theorem State.workOut_demand : (s.workOut p o first).1.demand = (runAsks (s.run p)).2 := by
  by_cases h : (s.line (postLine p)).state = .up
  · rw [State.workOut_of_up o first h]; rfl
  · rw [State.workOut_of_not_up o first h]; rfl

/-- Masking carries the permit OFF, as R168 does by itself on a line that is not UP. -/
theorem State.workOut_permit : (s.workOut p o first).1.permit = s.permitLevel p o := by
  by_cases h : (s.line (postLine p)).state = .up
  · rw [State.workOut_of_up o first h]; rfl
  · have hoff : s.permitLevel p o = false := by
      refine Bool.eq_false_iff.mpr fun hp => ?_
      obtain ⟨_, hup, _, _⟩ := (s.permitLevel_eq_true_iff p o).mp hp
      exact h hup
    rw [State.workOut_of_not_up o first h, hoff]

theorem State.workOut_changes :
    (s.workOut p o first).2
      = { o with nextToggle := (s.workOut p o first).2.nextToggle
                 thisToggle := (s.workOut p o first).2.thisToggle } := by
  by_cases h : (s.line (postLine p)).state = .up
  · rw [State.workOut_of_up o first h]; exact s.beaconLevel_changes p (o.atExchange first)
  · rw [State.workOut_of_not_up o first h]; rfl

/-- The toggle turns only by the pattern on a line that is UP. -/
theorem State.workOut_keeps
    (h : (s.line (postLine p)).state ≠ .up ∨ o.forceOff = true ∨ (s.inForce p).beacon = none) :
    (s.workOut p o first).2 = o.atExchange first := by
  by_cases hup : (s.line (postLine p)).state = .up
  · rw [State.workOut_of_up o first hup]
    exact State.beaconLevel_keeps (h.resolve_left (not_not_intro hup))
  · rw [State.workOut_of_not_up o first hup]

end

theorem State.levelsFor_of_output {s : State} {p : Post} {o : OutputState} (h : s.output p = some o) (first : Bool) :
    s.levelsFor p first = ((s.workOut p o first).1, s.putOutput p (some (s.workOut p o first).2)) := by
  simp only [State.levelsFor, h]

theorem State.maskedLevels_of_delivered {s : State} {p : Post} {o : OutputState} {d : Levels}
    (h : o.delivered = some d) : s.maskedLevels p o = (d.contactor, d.beacon) := by
  simp only [State.maskedLevels, h]

theorem State.maskedLevels_of_not_delivered {s : State} {p : Post} {o : OutputState} (h : o.delivered = none) :
    s.maskedLevels p o = (s.config.startOn.get p, false) := by
  simp only [State.maskedLevels, h]

/-! ## A BEACON action that comes into force (R170) -/

theorem State.lightBeacon_of_output {s : State} {p : Post} {o : OutputState} (h : s.output p = some o) :
    s.lightBeacon p = s.putOutput p (some { o with nextToggle := true }) := by
  simp only [State.lightBeacon, h]

theorem State.applyAction_beacon_of_inForce {s : State} {p : Post} (cause : Nat) (h : (s.inForce p).beacon.isSome) :
    s.applyAction p .beacon cause = s :=
  if_pos (.inr h)

theorem State.applyAction_beacon_of_not_inForce {s : State} {p : Post} (cause : Nat)
    (h : (s.inForce p).beacon = none) :
    s.applyAction p .beacon cause
      = (s.putInForce p { s.inForce p with beacon := some cause }).lightBeacon p := by
  simp [State.applyAction, State.activate, s.actionInForce_beacon p, h, ActionsInForce.put]

/-! ## The statements -/

/-- Settles O54: an exchange carries the permit level of R168 and what the run asks for, and writes one output state. -/
theorem permitOnlyWhileFourHold : Obligations.PermitOnlyWhileFourHold := by
  intro s p first o ho
  rw [State.levelsFor_of_output ho first]
  refine ⟨?permit, ?demand, rfl, fun q hq => State.output_putOutput_other s p q _ hq⟩
  case permit =>
    dsimp only
    rw [State.workOut_permit]
    exact s.permitLevel_eq_true_iff p o
  case demand =>
    dsimp only
    rw [State.workOut_demand]
    exact runAsks_demand_iff (s.run p)

/-- Settles O55: the equations of `beaconLevel` on a line that is UP, masking on any other, and the two cases of a BEACON
action that is applied. -/
theorem contactorAndBeaconOfAPoll : Obligations.ContactorAndBeaconOfAPoll := by
  intro s p o ho
  refine ⟨fun first => ⟨(s.workOut p o first).1, (s.workOut p o first).2, State.levelsFor_of_output ho first,
    s.workOut_changes p o first, fun hup => ?up, fun hup => ?masked, fun h => ?settled⟩,
    fun cause hb => ?applied, fun cause hb => State.applyAction_beacon_of_inForce cause hb⟩
  case up =>
    rw [State.workOut_of_up o first hup]
    refine ⟨fun hoff => ⟨OutputState.contactorLevel_of_forceOff hoff, ?dark⟩,
      fun hoff => OutputState.contactorLevel_of_not_forceOff hoff, fun hoff hb => ?requested,
      fun hoff hb ht => ?turns, fun level hoff hb hfirst ht => ?carried⟩
    case dark => rw [State.beaconLevel_of_forceOff (o := o.atExchange first) hoff]
    case requested => rw [State.beaconLevel_of_not_inForce (o := o.atExchange first) hoff hb]; rfl
    case turns =>
      have habsent : (o.atExchange first).thisToggle = none := by simpa [or_iff_not_imp_left] using ht
      rw [State.beaconLevel_of_toggle_absent (o := o.atExchange first) hoff hb habsent]
      exact ⟨rfl, rfl, rfl⟩
    case carried =>
      subst hfirst
      rw [o.atExchange_false, State.beaconLevel_of_toggle_present hoff hb ht]
      exact ⟨rfl, rfl⟩
  case masked =>
    refine ⟨fun d hd => ?_, fun hd => ?_, ?_, ?_⟩
    · rw [State.workOut_of_not_up o first hup, State.maskedLevels_of_delivered hd]; exact ⟨rfl, rfl⟩
    · rw [State.workOut_of_not_up o first hup, State.maskedLevels_of_not_delivered hd]; exact ⟨rfl, rfl⟩
    · rw [State.workOut_of_not_up o first hup]
    · rw [State.workOut_demand]; exact runAsks_demand_iff_not_ending (s.run p)
  case settled =>
    rw [s.workOut_keeps p o first h]
    exact ⟨rfl, rfl⟩
  case applied =>
    have hout : (s.putInForce p { s.inForce p with beacon := some cause }).output p = some o := ho
    rw [State.applyAction_beacon_of_not_inForce cause hb, State.lightBeacon_of_output hout]
    refine ⟨State.output_putOutput_self _ _ _, ?_⟩
    exact congrArg ActionsInForce.beacon (State.inForce_putInForce_self s p { s.inForce p with beacon := some cause })

end Sys2Proof.Machine


/-! # What the Finding Unit and Run Control can touch

A kit is a preorder of states that holds across the primitive updates which producing and clearing a finding, an action
and the course of a run are made of. `FindingKit` speaks of updates at the posts of a set, so that it serves for the laws
of the state (every post) and for what one post's event leaves of the others. -/

namespace Sys2Proof.Machine

/-! ## What a run holds of its queue's load -/

/-- The queue and the load that a run holds (R71). -/
def RunRecord.share (r : RunRecord) : Queue × Nat := (r.queue, r.load)

/-- What a record's run holds of a queue's load. -/
def TrailerRecord.share (t : TrailerRecord) : Option (Queue × Nat) := t.run.map RunRecord.share

section
variable (r : RunRecord) (now : Time)

@[simp] theorem RunRecord.closed_share : (r.closed now).share = r.share := rfl

@[simp] theorem RunRecord.join_share (c : SuspCause) (n : Nat) : (r.join now c n).share = r.share := by
  unfold RunRecord.join
  dsimp only
  split
  · rfl
  · rfl
  · split <;> rfl
  · rfl

@[simp] theorem RunRecord.resume_share (prior : PriorState) : (r.resume now prior).share = r.share := by
  cases prior <;> rfl

@[simp] theorem RunRecord.leave_share (c : SuspCause) : (r.leave now c).share = r.share := by
  unfold RunRecord.leave
  split
  · split
    · split
      · exact r.resume_share now _
      · rfl
    · rfl
  all_goals rfl

@[simp] theorem RunRecord.enter_share (o : RunOutcome) (b : Bool) (n : Nat) : (r.enter now o b n).share = r.share := rfl

end

/-! ## The part of a record that findings leave alone -/

/-- A record without its run, its deferral, its finding sets and its check code. -/
def TrailerRecord.bulk (t : TrailerRecord) : TrailerRecord :=
  { t with run := none, deferral := none, active := [], noted := [], checkError := 0 }

/-- Two records agree beside deferral and findings, and their runs hold the same load. -/
structure TrailerRecord.SameBulk (t u : TrailerRecord) : Prop where
  bulk : u.bulk = t.bulk
  share : u.share = t.share

theorem TrailerRecord.SameBulk.of_run {t : TrailerRecord} {r r' : RunRecord} (hr : t.run = some r)
    (hs : r'.share = r.share) (d : Option Time) : t.SameBulk { t with run := some r', deferral := d } :=
  ⟨rfl, by simp [TrailerRecord.share, hr, hs]⟩

/-! ## The kit -/

/-- A preorder between a state and an earlier one that the primitive updates of findings and runs keep, at posts `On`. -/
structure FindingKit (On : Post → Prop) where
  rel : State → State → Prop
  refl : ∀ s, rel s s
  after : ∀ {a b c}, rel a b → rel b c → rel a c
  edit : ∀ s p f, On p → (s.trailer p).SameBulk (f (s.trailer p)) → rel (State.editTrailer s p f) s
  output : ∀ s p o, On p → rel (State.putOutput s p o) s
  inForce : ∀ s p a, On p → rel (State.putInForce s p a) s
  item : ∀ s p b, On p → rel (State.item s p b) s
  push : ∀ s p c d k, On p → rel (State.pushFrame s p c d k) s
  unfile : ∀ s p, On p → rel (State.removeRequest s p) s

theorem FindingKit.rel.trans {On : Post → Prop} {h : FindingKit On} {a b c : State} (x : h.rel a b) (y : h.rel b c) :
    h.rel a c := h.after x y

namespace FindingKit

variable {On : Post → Prop} (h : FindingKit On) (s : State) {p : Post} (hp : On p)
include hp

theorem putRun {r r' : RunRecord} (hr : s.run p = some r) (hs : r'.share = r.share) :
    h.rel (s.putRun p (some r')) s :=
  h.edit s p _ hp (.of_run hr hs _)

theorem noteFinding (c : FindingClass) (d : Nat) : h.rel (s.noteFinding p c d) s :=
  (h.item _ _ _ hp).trans (h.edit s p _ hp ⟨rfl, rfl⟩)

theorem lightBeacon : h.rel (s.lightBeacon p) s := by
  unfold State.lightBeacon
  split
  · exact h.refl _
  · exact h.output s p _ hp

theorem activate (a : Action) (k : Nat) : h.rel (s.activate p a k) s := by
  unfold State.activate
  split
  · exact h.refl _
  · dsimp only
    split
    · exact (h.lightBeacon _ hp).trans (h.inForce s p _ hp)
    · exact h.inForce s p _ hp

theorem raiseFinding {apply : State → Post → Action → Nat → State} (ha : ∀ s a k, h.rel (apply s p a k) s)
    (c : FindingClass) (d k : Nat) : h.rel (s.raiseFinding apply p c d k) s :=
  ((h.item _ _ _ hp).trans (ha _ _ _)).trans ((h.edit _ p _ hp ⟨rfl, rfl⟩).trans (h.push s p c d k hp))

theorem produceWith {apply : State → Post → Action → Nat → State} (ha : ∀ s a k, h.rel (apply s p a k) s)
    (c : FindingClass) (d k : Nat) : h.rel (s.produceWith apply p c d k).1 s := by
  unfold State.produceWith
  split
  · exact h.refl _
  · split
    · exact h.raiseFinding s hp ha c d k
    · exact h.noteFinding s hp c d

theorem produceEnding (c : FindingClass) (d k : Nat) : h.rel (s.produceEnding p c d k).1 s :=
  h.produceWith s hp (fun s a k => h.activate s hp a k) c d k

theorem causeJoins (c : SuspCause) (n : Nat) : h.rel (s.causeJoins p c n) s := by
  unfold State.causeJoins
  split
  · exact h.refl _
  · exact h.putRun s hp ‹_› (by simp)

theorem causeLeaves (c : SuspCause) : h.rel (s.causeLeaves p c) s := by
  unfold State.causeLeaves
  split
  · exact h.refl _
  · exact h.putRun s hp ‹_› (by simp)

theorem relink (n : Option Nat) : h.rel (s.relink p n) s := by
  unfold State.relink
  split
  · rename_i hr
    exact h.putRun s hp hr rfl
  · exact h.refl _

theorem enterEnding (o : RunOutcome) (b : Bool) (n : Nat) : h.rel (s.enterEnding p o b n) s := by
  unfold State.enterEnding
  split
  · exact h.refl _
  · rename_i r hr
    have entered := h.edit s p (fun t =>
      { t with run := some (r.enter s.now o b n)
               deferral := if o.defers then laterDeferral t.deferral (s.now + Config.abortDeferral) else t.deferral })
      hp (.of_run hr (r.enter_share _ _ _ _) _)
    dsimp only
    split
    · exact entered
    · exact (h.relink _ hp _).trans ((h.produceEnding _ hp _ _ _).trans entered)

theorem abortRun (c : AbortCause) (b : Bool) (n : Nat) : h.rel (s.abortRun p c b n).1 s := by
  unfold State.abortRun
  split
  · exact h.refl _
  · split
    · exact h.refl _
    · exact h.enterEnding s hp _ _ _

theorem abortSuspension (r : RunRecord) : h.rel (s.abortSuspension p r) s := by
  unfold State.abortSuspension
  split
  · exact h.refl _
  · exact h.enterEnding s hp _ _ _

theorem inhibitDefrost (k : Nat) : h.rel (s.inhibitDefrost p k) s :=
  (h.abortRun _ hp _ _ _).trans (h.unfile s p hp)

theorem applyAction (a : Action) (k : Nat) : h.rel (s.applyAction p a k) s := by
  unfold State.applyAction
  split
  · exact h.refl _
  · have active := h.activate s hp a k
    dsimp only
    split
    · exact active
    · exact active
    · exact (h.inhibitDefrost _ hp _).trans active
    · exact (h.causeJoins _ hp _ _).trans active

theorem withdrawAction (a : Action) : h.rel (s.withdrawAction p a) s := by
  unfold State.withdrawAction
  split
  · have ended := h.inForce s p ((s.inForce p).put a none) hp
    dsimp only
    split
    · exact ended
    · exact ended
    · exact ended
    · exact (h.causeLeaves _ hp _).trans ended
  · exact h.refl _

theorem produce (c : FindingClass) (d k : Nat) : h.rel (s.produce p c d k) s :=
  h.produceWith s hp (fun s a k => h.applyAction s hp a k) c d k

theorem settleWithdrawal (a : Action) : h.rel (s.settleWithdrawal p a) s := by
  unfold State.settleWithdrawal
  split
  · exact h.withdrawAction s hp a
  · exact h.refl _

theorem settleAction (a : Action) : h.rel (s.settleAction p a) s := by
  unfold State.settleAction
  split
  · exact h.applyAction s hp a _
  · exact h.withdrawAction s hp a

omit hp in
/-- An operation that keeps the kit's relation for each member of a list keeps it over the list. -/
theorem forEach {β : Type} (l : List β) (f : State → β → State) (hf : ∀ s, ∀ b ∈ l, h.rel (f s b) s) :
    h.rel (s.forEach l f) s := by
  induction l generalizing s with
  | nil => exact h.refl s
  | cons b l ih =>
    exact (ih (f s b) fun s b hb => hf s b (List.mem_cons_of_mem _ hb)).trans (hf s b List.mem_cons_self)

theorem settleActions : h.rel (s.settleActions p) s := h.forEach s _ _ fun s a _ => h.settleAction s hp a

theorem withdrawActions : h.rel (s.withdrawActions p) s := h.forEach s _ _ fun s a _ => h.withdrawAction s hp a

theorem clearFinding (c : FindingClass) (b : Bool) : h.rel (s.clearFinding p c b) s := by
  unfold State.clearFinding
  split
  · exact (h.settleWithdrawal _ hp _).trans ((h.item _ p _ hp).trans (h.edit s p _ hp ⟨rfl, rfl⟩))
  · exact (h.item _ p _ hp).trans (h.edit s p _ hp ⟨rfl, rfl⟩)
  · exact h.refl _

theorem clearLinkLost (d : Nat) : h.rel (s.clearLinkLost p d) s := by
  unfold State.clearLinkLost
  split
  · split
    · exact h.clearFinding s hp _ _
    · exact h.refl _
  · exact h.refl _

theorem emptySets : h.rel (s.emptySets p) s := (h.withdrawActions _ hp).trans (h.edit s p _ hp ⟨rfl, rfl⟩)

end FindingKit

end Sys2Proof.Machine


/-! # What an evaluation of a trailer can touch

`Kit` adds to `FindingKit` what the owners of an evaluation do beside findings: edits that keep a record's state, serial,
custody, held door state and share of a load, the door's opening and closing, and the arbiter's operations. -/

namespace Sys2Proof.Machine

/-- Two records agree in what the laws of the state read of a record. -/
structure TrailerRecord.SameKey (t u : TrailerRecord) : Prop where
  state : u.state = t.state
  serial : u.serial = t.serial
  share : u.share = t.share
  custody : u.custody = t.custody
  heldDoor : u.door.held = t.door.held

theorem TrailerRecord.SameBulk.key {t u : TrailerRecord} (h : t.SameBulk u) : t.SameKey u :=
  have c {α : Type} (π : TrailerRecord → α) : π u.bulk = π t.bulk := congrArg π h.bulk
  { state := c TrailerRecord.state, serial := c TrailerRecord.serial, share := h.share, custody := c TrailerRecord.custody
    heldDoor := c fun t => t.door.held }

theorem TrailerRecord.SameKey.refl (t : TrailerRecord) : t.SameKey t := ⟨rfl, rfl, rfl, rfl, rfl⟩

theorem TrailerRecord.SameKey.trans {t u v : TrailerRecord} (x : t.SameKey u) (y : u.SameKey v) : t.SameKey v :=
  ⟨y.state.trans x.state, y.serial.trans x.serial, y.share.trans x.share, y.custody.trans x.custody,
    y.heldDoor.trans x.heldDoor⟩

/-- The check code is no part of what the laws read. -/
theorem TrailerRecord.SameKey.sealed (t : TrailerRecord) : t.SameKey t.sealed := ⟨rfl, rfl, rfl, rfl, rfl⟩

/-- A kit with the updates of an evaluation. -/
structure Kit (On : Post → Prop) extends FindingKit On where
  editKey : ∀ s p f, On p → (s.trailer p).SameKey (f (s.trailer p)) → rel (State.editTrailer s p f) s
  opening : ∀ s p, On p → rel (State.opening s p) s
  shut : ∀ s p f, On p → (∀ d, (f d).held = some .closed) → rel (State.editDoor s p f) s
  walk : ∀ s q, rel (State.walk s q) s
  endRun : ∀ s p o b, On p → rel (State.endRun s p o b) s
  upgrade : ∀ s p c, On p → rel (State.upgradeRequest s p c) s
  file : ∀ s p c n, On p → (s.trailer p).state = .enrolled → s.run p = none → s.requestOf p = none →
    rel (State.fileRequest s p c n) s

namespace Kit

variable {On : Post → Prop} (h : Kit On) (s : State) {p : Post} (hp : On p)
include hp

/-! ## Frost -/

theorem frostSensors (rep : StatusReport) : h.rel (s.frostSensors p rep) s := by
  have held := h.editKey s p (fun t => t.holdTemperatures rep) hp ⟨rfl, rfl, rfl, rfl, rfl⟩
  unfold State.frostSensors
  dsimp only
  split
  · exact (h.produce _ hp _ _ _).trans held
  · split
    · exact (h.clearFinding _ hp _ _).trans held
    · exact held

omit h s hp in
/-- The frost case changes F and R alone. -/
theorem frostCase_changes (t : TrailerRecord) (m : Mode) (a : AtArrival) (dt k : Nat) (n : Int) :
    t.frostCase m a dt k n = { t with f := (t.frostCase m a dt k n).f, r := (t.frostCase m a dt k n).r } := by
  unfold TrailerRecord.frostCase
  split
  · rfl
  · split
    · rfl
    · split
      · rfl
      · split <;> rfl

theorem frostStep (rep : StatusReport) (a : AtArrival) : h.rel (s.frostStep p rep a) s := by
  refine h.editKey s p _ hp ?_
  split
  · exact ⟨rfl, rfl, rfl, rfl, rfl⟩
  · rw [frostCase_changes]
    exact ⟨rfl, rfl, rfl, rfl, rfl⟩

theorem frostEvaluation (rep : StatusReport) (a : AtArrival) : h.rel (s.frostEvaluation p rep a) s :=
  (h.frostStep _ hp _ _).trans (h.frostSensors s hp _)

/-! ## Fuel -/

theorem putFuel (a : FuelAccount) : h.rel (s.putFuel p a) s := h.editKey s p _ hp ⟨rfl, rfl, rfl, rfl, rfl⟩

theorem fuelInvalid (n : Nat) : h.rel (s.fuelInvalid p n) s := by
  unfold State.fuelInvalid
  dsimp only
  split
  · exact (h.produce _ hp _ _ _).trans (h.putFuel s hp _)
  · exact h.putFuel s hp _

theorem fuelValid (pr : Profile) (n : Nat) : h.rel (s.fuelValid p pr n) s := by
  have cleared := h.clearFinding s hp .senderFault false
  unfold State.fuelValid
  dsimp only
  split
  · exact (h.putFuel _ hp _).trans ((h.item _ _ _ hp).trans cleared)
  · split
    · exact (h.produce _ hp _ _ _).trans ((h.putFuel _ hp _).trans cleared)
    · exact (h.putFuel _ hp _).trans cleared

theorem settleLowFuel (pr : Profile) (w : PowerSource) : h.rel (s.settleLowFuel p pr w) s := by
  unfold State.settleLowFuel
  dsimp only
  split
  · split
    · exact h.clearFinding s hp _ _
    · exact h.refl _
  · split
    · exact h.produce s hp _ _ _
    · exact h.refl _

theorem fuelEvaluation (rep : StatusReport) (a : AtArrival) : h.rel (s.fuelEvaluation p rep a) s := by
  unfold State.fuelEvaluation
  split
  · exact h.refl _
  · split
    · exact h.refl _
    · refine (h.settleLowFuel _ hp _ _).trans ((h.putFuel _ hp _).trans ?_)
      split
      · exact (h.fuelValid _ hp _ _).trans (h.putFuel s hp _)
      · exact (h.fuelInvalid _ hp _).trans (h.putFuel s hp _)

/-! ## Doors -/

theorem editDoor (f : DoorGroup → DoorGroup) (hf : (f (s.trailer p).door).held = (s.trailer p).door.held) :
    h.rel (s.editDoor p f) s := h.editKey s p _ hp ⟨rfl, rfl, rfl, rfl, hf⟩

theorem closing : h.rel (s.closing p) s := (h.clearFinding _ hp _ _).trans (h.shut s p _ hp fun _ => rfl)

theorem knownDoor : h.rel (s.knownDoor p) s := (h.clearFinding _ hp _ _).trans (h.editDoor s hp _ rfl)

theorem doorReport (rep : DoorReport) : h.rel (s.doorReport p rep).1 s := by
  have known := h.knownDoor s hp
  unfold State.doorReport
  split
  · have counted := h.editDoor s hp (fun d => { d with unknownCount := bump255 d.unknownCount }) rfl
    dsimp only
    split
    · exact (h.produce _ hp _ _ _).trans counted
    · exact counted
  · dsimp only
    split
    · exact known
    · dsimp only
      exact (h.opening _ p hp).trans known
  · dsimp only
    split
    · exact known
    · dsimp only
      exact (h.closing _ hp).trans known
    · dsimp only
      exact (h.shut _ p _ hp fun _ => rfl).trans known

theorem ajarTest : h.rel (s.ajarTest p) s := by
  unfold State.ajarTest
  dsimp only
  split
  · split
    · exact (h.editDoor _ hp _ rfl).trans (h.produce s hp _ _ _)
    · exact h.refl _
  · exact h.refl _

theorem doorEvaluation (rep : StatusReport) : h.rel (s.doorEvaluation p rep).1 s :=
  (h.ajarTest _ hp).trans (h.doorReport s hp _)

/-! ## The run -/

theorem refreshLimits : h.rel (s.refreshLimits p) s := by
  unfold State.refreshLimits
  split
  · rename_i r pr hr _
    have fresh := h.putRun s hp (r' := { r with limits := pr.limits }) hr rfl
    dsimp only
    split
    · exact (h.enterEnding _ hp _ _ _).trans fresh
    · split
      · exact (h.abortSuspension _ hp _).trans fresh
      · exact fresh
  · exact h.refl _

theorem doorStep (c : Option DoorChange) : h.rel (s.doorStep p c) s := by
  unfold State.doorStep
  split
  · exact h.refl _
  · exact h.causeJoins s hp _ _
  · exact h.causeLeaves s hp _

theorem heaterTest {r : RunRecord} (hr : s.run p = some r) (n : Nat) : h.rel (s.heaterTest p r n) s := by
  unfold State.heaterTest
  split
  · exact (h.produce _ hp _ _ _).trans (h.putRun s hp (r' := { r with heaterWeak := true }) hr rfl)
  · exact h.refl _

theorem heatingTest {r : RunRecord} (hr : s.run p = some r) (rep : StatusReport) : h.rel (s.heatingTest p r rep) s := by
  have counted := h.putRun s hp (r' := { r with heatCount := bump255 r.heatCount }) hr rfl
  unfold State.heatingTest
  dsimp only
  split
  · exact (h.enterEnding _ hp _ _ _).trans counted
  · exact (h.heaterTest _ hp (State.run_putRun_self s p _) _).trans counted

theorem suspendedTest {r : RunRecord} (hr : s.run p = some r) (t : Time) (o : PriorState) (cs : List CauseEntry)
    (rep : StatusReport) : h.rel (s.suspendedTest p r t o cs rep) s := by
  have put (o' : PriorState) := h.putRun s hp (r' := { r with state := .suspended t o' cs }) hr rfl
  unfold State.suspendedTest
  dsimp only
  split
  · split
    · exact (h.enterEnding _ hp _ _ _).trans (put _)
    · exact put _
  · exact put _

theorem statusTests (rep : StatusReport) (b : Bool) : h.rel (s.statusTests p rep b).1 s := by
  unfold State.statusTests
  split
  · exact h.refl _
  · rename_i r hr
    split
    · split
      · exact h.putRun s hp (r' := { r with state := .heating s.now, heatCount := 0 }) hr rfl
      · exact h.refl _
    · dsimp only
      split
      · exact h.heatingTest s hp hr _
      · exact h.refl _
    · exact h.suspendedTest s hp hr _ _ _ _
    · split
      · exact h.putRun s hp (r' := { r with state := .ending _ _ true }) hr rfl
      · exact h.endRun s p _ _ hp

theorem runEvaluation (rep : StatusReport) (c : Option DoorChange) (b : Bool) :
    h.rel (s.runEvaluation p rep c b).1 s :=
  (h.statusTests _ hp _ _).trans ((h.doorStep _ hp _).trans (h.refreshLimits s hp))

/-! ## Filing -/

theorem removeUnitRequest (m : Mode) : h.rel (s.removeUnitRequest p m) s := by
  unfold State.removeUnitRequest
  split
  · split
    · exact h.unfile s p hp
    · exact h.refl _
  · exact h.refl _

theorem upgradeForced (pr : Profile) : h.rel (s.upgradeForced p pr) s := by
  unfold State.upgradeForced
  split
  · split
    · exact h.upgrade s p _ hp
    · exact h.refl _
  · exact h.refl _

theorem filingTest (pr : Profile) (m : Mode) (b : Bool) (he : (s.trailer p).state = .enrolled) :
    h.rel (s.filingTest p pr m b) s := by
  unfold State.filingTest
  dsimp only
  split
  · exact h.refl _
  · rename_i hno
    simp only [Bool.or_eq_true, not_or, Bool.not_eq_true, Option.isSome_eq_false_iff, Option.isNone_iff_eq_none] at hno
    obtain ⟨⟨⟨⟨⟨noRequest, noRun⟩, -⟩, -⟩, -⟩, -⟩ := hno
    split
    · exact h.file s p _ _ hp he noRun noRequest
    · exact h.refl _

omit hp in
theorem walkForHours : h.rel (s.walkForHours p) s := by
  unfold State.walkForHours
  split
  · exact h.walk s _
  · exact h.refl _

/-! ## Outputs, timers -/

theorem levelsFor (b : Bool) : h.rel (s.levelsFor p b).2 s := by
  unfold State.levelsFor
  split
  · exact h.refl _
  · exact h.output s p _ hp

theorem outputAtGood (c a : Levels) : h.rel (s.outputAtGood p c a) s := by
  unfold State.outputAtGood
  split
  · exact h.refl _
  · rename_i o _
    have put (n : Nat) := h.output s p (some { o with delivered := some c, actual := some a, mismatch := n }) hp
    dsimp only
    split
    · exact (h.clearFinding _ hp _ _).trans (put _)
    · split
      · exact (h.produce _ hp _ _ _).trans (put _)
      · exact put _

theorem startTimer : h.rel (s.startTimer p) s := by
  unfold State.startTimer
  split
  · exact h.refl _
  · split
    · exact h.enterEnding s hp _ _ _
    · exact h.refl _

theorem durationTimer : h.rel (s.durationTimer p) s := by
  unfold State.durationTimer
  split
  · exact h.refl _
  · split
    · exact h.enterEnding s hp _ _ _
    · exact h.refl _

theorem suspensionTimer : h.rel (s.suspensionTimer p) s := by
  unfold State.suspensionTimer
  split
  · exact h.refl _
  · split
    · exact h.abortSuspension s hp _
    · exact h.refl _

theorem stuckTimer : h.rel (s.stuckTimer p) s := by
  unfold State.stuckTimer
  split
  · exact h.refl _
  · split
    · split
      · exact (h.endRun _ p _ _ hp).trans (h.produce s hp _ _ _)
      · exact h.refl _
    all_goals exact h.refl _

end Kit

end Sys2Proof.Machine


/-! # Instances of the kits

What findings keep of every record (`FindingKit.bulk`), and the kits of those laws of the state to which runs, queues and
loads do not matter (`LooseKit`), among them the one that keeps every record's state and serial (`Kit.identity`). -/

namespace Sys2Proof.Machine

section
variable (s : State) (p : Post) (f : TrailerRecord → TrailerRecord)

/-- A field of an edited record other than the check code. -/
theorem State.field_editTrailer_self {α : Type} (π : TrailerRecord → α) (hπ : ∀ t, π t.sealed = π t) :
    π ((s.editTrailer p f).trailer p) = π (f (s.trailer p)) := by
  rw [← hπ, State.sealed_editTrailer_self, hπ]

/-- A field of every record other than the check code, where the edit keeps that field. -/
theorem State.field_editTrailer {α : Type} (π : TrailerRecord → α) (hπ : ∀ t, π t.sealed = π t)
    (hf : π (f (s.trailer p)) = π (s.trailer p)) (q : Post) : π ((s.editTrailer p f).trailer q) = π (s.trailer q) := by
  by_cases hq : q = p
  · subst hq
    rw [State.field_editTrailer_self s q f π hπ, hf]
  · rw [State.trailer_editTrailer_other s p q f hq]

end

@[simp] theorem State.removeRequest_records (s : State) (p : Post) : (s.removeRequest p).records = s.records := by
  unfold State.removeRequest; split <;> rfl

/-! ## What findings keep of a record -/

/-- Findings keep the bulk of every record, as a kit. -/
def FindingKit.bulk : FindingKit fun _ => True where
  rel t s := ∀ q, (s.trailer q).SameBulk (t.trailer q)
  refl _ _ := ⟨rfl, rfl⟩
  after x y q := ⟨(x q).bulk.trans (y q).bulk, (x q).share.trans (y q).share⟩
  edit s p f _ hf q :=
    ⟨State.field_editTrailer s p f TrailerRecord.bulk (fun _ => rfl) hf.bulk q,
      State.field_editTrailer s p f TrailerRecord.share (fun _ => rfl) hf.share q⟩
  output _ _ _ _ _ := ⟨rfl, rfl⟩
  inForce _ _ _ _ _ := ⟨rfl, rfl⟩
  item s p b _ q := by rw [State.item_trailer]; exact ⟨rfl, rfl⟩
  push _ _ _ _ _ _ _ := ⟨rfl, rfl⟩
  unfile s p _ q := by unfold State.trailer; rw [State.removeRequest_records]; exact ⟨rfl, rfl⟩

theorem TrailerRecord.SameBulk.custody {t u : TrailerRecord} (h : t.SameBulk u) : u.custody = t.custody := h.key.custody

/-! ## Kits to which runs, queues and loads do not matter -/

/-- A record with custody CLOSED while its door is held OPEN, which R142 rules out. -/
def TrailerRecord.Breaches (t : TrailerRecord) : Prop := (∃ tag, t.custody = .closed tag) ∧ t.door.held = some .opened

/-- A preorder that every edit keeps which leaves a record's state and serial and breaches R142 no further. -/
structure LooseKit where
  rel : State → State → Prop
  refl : ∀ s, rel s s
  after : ∀ {a b c}, rel a b → rel b c → rel a c
  edit : ∀ s p f, (f (s.trailer p)).state = (s.trailer p).state → (f (s.trailer p)).serial = (s.trailer p).serial →
    ((f (s.trailer p)).Breaches → (s.trailer p).Breaches) → rel (State.editTrailer s p f) s
  output : ∀ s p o, rel (State.putOutput s p o) s
  inForce : ∀ s p a, rel (State.putInForce s p a) s
  item : ∀ s p b, rel (State.item s p b) s
  push : ∀ s p c d k, rel (State.pushFrame s p c d k) s
  queue : ∀ s q l, rel (State.putQueue s q l) s
  load : ∀ s q n, rel (State.putLoad s q n) s

theorem LooseKit.rel.trans {h : LooseKit} {a b c : State} (x : h.rel a b) (y : h.rel b c) : h.rel a c := h.after x y

theorem TrailerRecord.SameKey.breaches {t u : TrailerRecord} (h : t.SameKey u) (hb : u.Breaches) : t.Breaches := by
  obtain ⟨⟨tag, hc⟩, hd⟩ := hb
  exact ⟨⟨tag, h.custody ▸ hc⟩, h.heldDoor ▸ hd⟩

namespace LooseKit

variable (h : LooseKit) (s : State)

theorem editKey (p : Post) (f : TrailerRecord → TrailerRecord) (hf : (s.trailer p).SameKey (f (s.trailer p))) :
    h.rel (s.editTrailer p f) s :=
  h.edit s p f hf.state hf.serial hf.breaches

/-- An edit of the run alone. -/
theorem putRun (p : Post) (r : Option RunRecord) : h.rel (s.putRun p r) s := h.edit s p _ rfl rfl id

theorem removeRequest (p : Post) : h.rel (s.removeRequest p) s := by
  unfold State.removeRequest
  split
  · exact h.refl _
  · exact h.queue s _ _

/-- The part of the kit that findings need. -/
def finding : FindingKit fun _ => True where
  rel := h.rel
  refl := h.refl
  after := h.after
  edit s p f _ hf := h.editKey s p f hf.key
  output s p o _ := h.output s p o
  inForce s p a _ := h.inForce s p a
  item s p b _ := h.item s p b
  push s p c d k _ := h.push s p c d k
  unfile s p _ := h.removeRequest s p

theorem forEach {β : Type} (l : List β) (f : State → β → State) (hf : ∀ s b, h.rel (f s b) s) :
    h.rel (s.forEach l f) s :=
  h.finding.forEach s l f fun s b _ => hf s b

theorem createRun (q : Queue) (r : Request) : h.rel (s.createRun q r) s := by
  have joins (u : State) (c : SuspCause) (n : Nat) : h.rel (u.causeJoins r.post c n) u :=
    h.finding.causeJoins u trivial c n
  have started : h.rel ((s.putRun r.post (some (s.newRun q r))).item r.post
      (.defrostStarted r.cls q r.load r.cls.firstState)) s := (h.item _ _ _).trans (h.putRun s _ _)
  have doored (b : Prop) [Decidable b] {u : State} (hu : h.rel u s) :
      h.rel (if b then u.causeJoins r.post .door 0 else u) s := by
    split
    · exact (joins u _ _).trans hu
    · exact hu
  unfold State.createRun
  dsimp only
  split
  · exact (joins _ _ _).trans (doored _ started)
  · exact doored _ started

theorem grant (q : Queue) (r : Request) : h.rel (s.grant q r) s := (h.createRun _ q r).trans (h.load s q _)

theorem walk (q : Queue) : h.rel (s.walk q) s := by
  unfold State.walk
  split
  · exact (h.forEach _ _ _ fun s r => h.grant s q r).trans (h.queue s q _)
  · exact h.refl _

theorem joinQueue (q : Queue) (r : Request) : h.rel (s.joinQueue q r) s := h.queue s q _

theorem settleRun_key (t : TrailerRecord) (o : RunOutcome) (f0 : Nat) (now : Time) : t.SameKey (t.settleRun o f0 now) := by
  cases o <;> exact ⟨rfl, rfl, rfl, rfl, rfl⟩

theorem endRun (p : Post) (o : RunOutcome) (b : Bool) : h.rel (s.endRun p o b) s := by
  unfold State.endRun
  split
  · exact h.refl _
  · rename_i r _
    have settled := h.editKey s p (fun t => t.settleRun o r.f0 s.now) (settleRun_key _ _ _ _)
    exact (h.walk _ _).trans ((h.putRun _ p none).trans ((h.item _ p _).trans ((h.load _ _ _).trans settled)))

theorem upgradeRequest (p : Post) (c : RequestClass) : h.rel (s.upgradeRequest p c) s := by
  unfold State.upgradeRequest
  split
  · exact h.refl _
  · exact (h.joinQueue _ _ _).trans (h.removeRequest s p)

/-- No record has custody CLOSED once the breaking of custody has passed it (R144). -/
theorem custody_breakCustody (p : Post) (tag : List Byte) : ((s.breakCustody p).trailer p).custody ≠ .closed tag := by
  unfold State.breakCustody
  split
  · rename_i old _
    refine fun hc => ?_
    have produced := FindingKit.bulk.produce
      ((s.editTrailer p fun t => { t with custody := .broken old }).item p (.custodyChanged (.broken old)))
      (p := p) trivial .custodyBreak (if (s.trailer p).door.held = some .closed then 1 else 2) 0 p
    rw [produced.custody, State.item_trailer,
      State.field_editTrailer_self s p _ TrailerRecord.custody fun _ => rfl] at hc
    cases hc
  all_goals
    rename_i hc
    rw [hc]
    nofun

theorem breakCustody (p : Post) : h.rel (s.breakCustody p) s := by
  unfold State.breakCustody
  split
  · rename_i tag _
    have broken := h.edit s p (fun t => { t with custody := .broken tag }) rfl rfl fun ⟨⟨_, hc⟩, _⟩ => nomatch hc
    exact (h.finding.produce _ trivial _ _ _).trans ((h.item _ p _).trans broken)
  all_goals exact h.refl _

theorem opening (p : Post) : h.rel (s.opening p) s := by
  unfold State.opening
  dsimp only
  have marked := h.editKey s p (fun t => { t with door :=
    { t.door with
      openingTime := some s.now, ajarReported := false
      history := (historyAt t.door.history t.door.pn (periodOf s.now s.config.hp)).1
      pn := some (historyAt t.door.history t.door.pn (periodOf s.now s.config.hp)).2 } }) ⟨rfl, rfl, rfl, rfl, rfl⟩
  exact (h.edit _ p _ rfl rfl fun ⟨⟨tag, hc⟩, _⟩ => absurd hc (custody_breakCustody _ p tag)).trans
    ((h.breakCustody _ p).trans marked)

/-- The kit of an evaluation. -/
def kit : Kit fun _ => True where
  toFindingKit := h.finding
  editKey s p f _ hf := h.editKey s p f hf
  opening s p _ := h.opening s p
  shut s p f _ hf := h.edit s p _ rfl rfl fun ⟨_, hd⟩ => by rw [hf] at hd; cases hd
  walk := h.walk
  endRun s p o b _ := h.endRun s p o b
  upgrade s p c _ := h.upgradeRequest s p c
  file s p c n _ _ _ _ := (h.walk _ _).trans (h.joinQueue s _ _)

end LooseKit

/-! ## States and serials -/

/-- Every record keeps its state and its serial, and the directory stands. -/
structure SameIdentity (s t : State) : Prop where
  directory : t.directory = s.directory
  state : ∀ q, (t.trailer q).state = (s.trailer q).state
  serial : ∀ q, (t.trailer q).serial = (s.trailer q).serial

theorem SameIdentity.of_same {s t : State} (hd : t.directory = s.directory) (hr : t.records = s.records) :
    SameIdentity s t :=
  have e (q : Post) : t.trailer q = s.trailer q := congrArg (fun v : Vector TrailerRecord 240 => v.get q) hr
  ⟨hd, fun q => by rw [e q], fun q => by rw [e q]⟩

@[simp] theorem State.editTrailer_directory (s : State) (p : Post) (f : TrailerRecord → TrailerRecord) :
    (s.editTrailer p f).directory = s.directory := by
  obtain e | ⟨e, -⟩ := State.editTrailer_cases s p f <;> rw [e]
  rfl

/-- States and serials stand, as a kit. -/
def LooseKit.identity : LooseKit where
  rel t s := SameIdentity s t
  refl _ := .of_same rfl rfl
  after := fun x y => ⟨x.directory.trans y.directory, fun q => (x.state q).trans (y.state q),
    fun q => (x.serial q).trans (y.serial q)⟩
  edit s p f hst hse _ := ⟨State.editTrailer_directory s p f,
    State.field_editTrailer s p f TrailerRecord.state (fun _ => rfl) hst,
    State.field_editTrailer s p f TrailerRecord.serial (fun _ => rfl) hse⟩
  output _ _ _ := .of_same rfl rfl
  inForce _ _ _ := .of_same rfl rfl
  item s p b := .of_same (s.item_directory p b) (s.item_records p b)
  push _ _ _ _ _ := .of_same rfl rfl
  queue _ _ _ := .of_same rfl rfl
  load _ _ _ := .of_same rfl rfl

/-- States and serials stand, as the kit of an evaluation. -/
abbrev Kit.identity : Kit fun _ => True := LooseKit.identity.kit

/-! ## The evaluation -/

namespace Kit

variable {On : Post → Prop} (h : Kit On) {p : Post} (hp : On p)
include hp

theorem filing (s : State) (rep : StatusReport) (b : Bool) (he : (s.trailer p).state = .enrolled) :
    h.rel (s.filing p rep b) s := by
  have kept := h.removeUnitRequest s hp rep.mode
  have he' : ((s.removeUnitRequest p rep.mode).trailer p).state = .enrolled :=
    ((Kit.identity.removeUnitRequest s trivial rep.mode).state p).trans he
  unfold State.filing
  dsimp only
  split
  · exact kept
  · have upgraded := (Kit.identity.upgradeForced (s.removeUnitRequest p rep.mode) (p := p) trivial ‹_›).state p
    exact (h.filingTest _ hp _ _ _ (upgraded.trans he')).trans ((h.upgradeForced _ hp _).trans kept)

theorem evaluate (a : Arrival) (rep : StatusReport) (b : Bool) (he : (a.s.trailer p).state = .enrolled) :
    h.rel (a.evaluate p rep b) a.s := by
  have tests {On' : Post → Prop} (k : Kit On') (hp' : On' p) :
      k.rel ((((a.s.frostEvaluation p rep a.before).fuelEvaluation p rep a.before).doorEvaluation p
        rep).1.runEvaluation p rep (((a.s.frostEvaluation p rep a.before).fuelEvaluation p rep a.before).doorEvaluation
        p rep).2 b).1 a.s :=
    (k.runEvaluation _ hp' _ _ _).trans ((k.doorEvaluation _ hp' _).trans ((k.fuelEvaluation _ hp' _ _).trans
      (k.frostEvaluation _ hp' _ _)))
  have filed (e : Bool) := (h.filing hp _ rep e (((tests Kit.identity trivial).state p).trans he)).trans (tests h hp)
  unfold Arrival.evaluate
  dsimp only
  split
  · exact (h.walkForHours _).trans (filed _)
  · exact filed _

end Kit

end Sys2Proof.Machine


/-! # Every command as an effect

Every command is an effect on the state and then the transmitter's look for a frame. A `StepKit` is a preorder that
holds across the primitive updates of the whole module; it then holds across every command. -/

namespace Sys2Proof.Machine

/-! ## The effect of a command -/

/-- What a command does before the transmitter looks for a frame: a request row is the arrival of its frame (log entry
4). -/
def State.effect (s : State) (i : Instr) : State :=
  match i with
  | .roundStart l => s.startRound l
  | .status l bytes => s.frameEnds l bytes
  | .responseWindowExpiry l | .postFrameGapTimeout l => s.exchangeTimesOut l
  | .postLineStrayBytes _ _ => s
  | .startTimerExpiry p => s.startTimer p
  | .maxDurationExpiry p => s.durationTimer p
  | .suspensionLimitExpiry p => s.suspensionTimer p
  | .stuckTimerExpiry p => s.stuckTimer p
  | .gatherHoldExpiry p => s.holdExpires p
  | .hostFrame bytes => s.receiveBytes bytes
  | .hostFrameGapTimeout => s.receiveGap
  | .storeWriteComplete => s.completeWrite
  | .transmitComplete => s.transmitDone
  | .mainsLoss => s.loseMains
  | .imageBlockWritten => s.flushNext
  | .mainsReturn => s.returnMains
  | .supplyFail => s.failSupply
  | .powerOn good => s.powerUp good
  | .keySwitchChange k => { s with keySwitch := k }
  | .lineRateSwitchChange r => { s with rateSwitch := r }
  | .imageBlockErased => s.eraseNext
  | request =>
    match request.frame with
    | some f => s.receiveFrame f
    | none => s

theorem exec_eq_effect (i : Instr) (s : State) : exec i s = .next (s.effect i).pumpTx := by
  cases i <;> rfl

/-- A request row is the arrival of its frame. -/
theorem State.effect_of_frame {i : Instr} {f : HostFrame} (h : i.frame = some f) (s : State) :
    s.effect i = s.receiveFrame f := by
  cases i <;> cases h <;> rfl

/-- What a request row does. -/
theorem exec_of_frame {i : Instr} {f : HostFrame} (h : i.frame = some f) (s : State) :
    exec i s = .next (s.receiveFrame f).pumpTx := by
  rw [exec_eq_effect, State.effect_of_frame h]

theorem exec_next_iff {i : Instr} {s t : State} : exec i s = .next t ↔ t = (s.effect i).pumpTx := by
  rw [exec_eq_effect, Host.Outcome.next.injEq, eq_comm]

/-! ## What the trailer side leaves of the host line -/

/-- The part of a state that every frame of the trailer side keeps. -/
theorem State.of_framed {s t : State} (h : ∀ f : Framed, f.rel t s) {α : Type} (π : State → α)
    (hπ : ∀ u, π u.untouched = π u) : π t = π s := by
  have e : t.untouched = s.untouched := h .untouched
  rw [← hπ t, ← hπ s, e]

theorem State.replyRoom_of_framed {s t : State} (h : ∀ f : Framed, f.rel t s) : t.replyRoom = s.replyRoom :=
  State.of_framed h State.replyRoom fun _ => rfl

/-! ## The kit of the lines -/

/-- A preorder that the owners' work keeps, and every change of a line controller, an entry or a record at the table. -/
structure LineKit extends Kit fun _ => True where
  putLine : ∀ s l c, rel (State.putLine s l c) s
  putEntry : ∀ s p e, rel (State.putEntry s p e) s
  depart : ∀ s p, rel (State.depart s p) s
  status : ∀ s p rep b, rel (State.statusAtTable s p rep b) s

namespace LineKit

variable (h : LineKit) (s : State)

theorem walkForLine (l : Line) : h.rel (s.walkForLine l) s :=
  h.forEach s _ _ fun s q _ => by
    split
    · exact h.walk s q
    · exact h.refl _

/-! ## The lines (chapter 1) -/

theorem lineLeavesUp (l : Line) : h.rel (s.lineLeavesUp l) s :=
  h.forEach s _ _ fun s _ _ => h.causeJoins s trivial _ _

theorem lineEntersUp (l : Line) : h.rel (s.lineEntersUp l) s :=
  (h.walkForLine _ l).trans (h.forEach s _ _ fun s _ _ => h.causeLeaves s trivial _)

theorem changeLine (l : Line) (c : LineController) : h.rel (s.changeLine l c) s := by
  have changed := h.putLine s l c
  unfold State.changeLine
  dsimp only
  split
  · exact (h.lineLeavesUp _ l).trans changed
  · split
    · exact (h.lineEntersUp _ l).trans changed
    · exact changed

theorem beginExchange (l : Line) (p : Post) (b : Bool) (r : Round) : h.rel (s.beginExchange l p b r) s :=
  (h.putLine _ l _).trans (h.levelsFor s trivial _)

theorem departIfPresent (p : Post) : h.rel (s.departIfPresent p) s := by
  unfold State.departIfPresent
  split
  · exact h.refl _
  · exact h.depart s p

theorem installPost (p : Post) : h.rel (s.installPost p) s := (h.output _ p _ trivial).trans (h.putEntry s p _)

theorem takeSettings (l : Line) : h.rel (s.takeSettings l) s :=
  (h.forEach _ _ _ fun s p _ => h.departIfPresent s p).trans ((h.forEach _ _ _ fun s p _ => h.installPost s p).trans
    ((h.forEach _ _ _ fun s p _ => (h.output (s.putEntry p none) p none trivial).trans (h.putEntry s p none)).trans
      (h.putLine s l _)))

theorem goOff (l : Line) : h.rel (s.goOff l) s := h.changeLine s l _

theorem beginRound (l : Line) : h.rel (s.beginRound l) s := by
  have taken := h.takeSettings s l
  unfold State.beginRound
  dsimp only
  split
  · exact (h.goOff _ l).trans taken
  · exact (h.beginExchange _ l _ _ _).trans ((h.putLine _ l _).trans taken)

theorem wakeLine (l : Line) : h.rel (s.wakeLine l) s := by
  unfold State.wakeLine
  split
  · exact (h.beginRound _ l).trans (h.putLine s l _)
  · exact h.refl _

theorem startRound (l : Line) : h.rel (s.startRound l) s := by
  unfold State.startRound
  split
  · split
    · exact h.wakeLine s l
    · exact h.beginRound s l
  · exact h.refl _

theorem discardRestored (l : Line) : h.rel (s.discardRestored l) s :=
  h.forEach s _ _ fun s p _ => by
    split
    · exact h.depart s p
    · exact h.refl _

theorem endRound (l : Line) (r : Round) : h.rel (s.endRound l r) s := by
  have changed := h.changeLine s l ({ s.line l with round := none }.judged r).advanceUp
  unfold State.endRound
  dsimp only
  split
  · exact (h.discardRestored _ l).trans changed
  · exact changed

theorem nextAddress (l : Line) : h.rel (s.nextAddress l) s := by
  unfold State.nextAddress
  split
  · exact h.refl _
  · split
    · exact h.beginExchange s l _ _ _
    · exact h.endRound s l _

theorem settlePlugged (p : Post) (rep : StatusReport) : h.rel (s.settlePlugged p rep) s := by
  unfold State.settlePlugged
  split
  · exact h.refl _
  · exact h.putEntry s p _

theorem hearPost (l : Line) (p : Post) : h.rel (s.hearPost l p) s := by
  have heard := h.putEntry s p ((s.entry p).map fun e => e.good s.now)
  unfold State.hearPost
  dsimp only
  refine (h.changeLine _ l _).trans ((h.clearLinkLost _ trivial _).trans ?_)
  split
  · exact (h.causeLeaves _ trivial _).trans heard
  · exact heard

theorem goodResult (l : Line) (x : Exchange) (rep : StatusReport) : h.rel (s.goodResult l x rep) s :=
  (h.outputAtGood _ trivial _ _).trans ((h.settlePlugged _ _ _).trans ((h.status _ _ _ _).trans (h.hearPost s l _)))

theorem losePost (p : Post) : h.rel (s.losePost p) s := by
  have joined := h.causeJoins s (p := p) trivial .post 0
  unfold State.losePost
  dsimp only
  split
  · exact joined
  · exact (h.produce _ trivial _ _ _).trans joined

theorem missPost (l : Line) (p : Post) : h.rel (s.missPost l p) s := by
  unfold State.missPost
  split
  · exact h.refl _
  · rename_i e _
    have missed := h.putEntry s p (some e.miss)
    split
    · dsimp only
      split
      · exact (h.losePost _ p).trans missed
      · exact missed
    · exact h.refl _

theorem missResult (l : Line) (p : Post) : h.rel (s.missResult l p) s := by
  have missed := h.missPost s l p
  unfold State.missResult
  dsimp only
  split
  · exact (h.changeLine _ l _).trans missed
  · exact missed

theorem exchangeFailed (l : Line) (r : Round) : h.rel (s.exchangeFailed l r) s := by
  unfold State.exchangeFailed
  split
  · exact (h.nextAddress _ l).trans (h.missResult s l _)
  · exact h.beginExchange s l _ _ _

theorem exchangeTimesOut (l : Line) : h.rel (s.exchangeTimesOut l) s := by
  unfold State.exchangeTimesOut
  split
  · exact h.refl _
  · exact h.exchangeFailed s l _

/-! ### What a completed write does (R194) -/

theorem resetFuel (p : Post) : h.rel (s.resetFuel p) s :=
  (h.clearFinding _ trivial _ _).trans ((h.clearFinding _ trivial _ _).trans (h.putFuel s trivial _))

theorem resetFuelQuietly (p : Post) : h.rel (s.resetFuelQuietly p) s :=
  h.editKey s p _ trivial ⟨rfl, rfl, rfl, rfl, rfl⟩

theorem profileWritten (i : ProfileId) (b : Bool) : h.rel (s.profileWritten i b) s := by
  unfold State.profileWritten
  split
  · dsimp only
    split
    · exact (h.forEach _ _ _ fun s _ _ => h.walkForHours s).trans (h.forEach _ _ _ fun s p _ => h.resetFuel s p)
    · exact h.forEach _ _ _ fun s p _ => h.resetFuelQuietly s p
  · exact h.refl _

theorem settleTable : h.rel s.settleTable s :=
  h.forEach s _ _ fun s p _ => by
    split
    · exact h.refl _
    · exact h.settleActions s trivial

theorem walkFeeders : h.rel s.walkFeeders s := h.forEach s _ _ fun s q _ => h.walk s q

end LineKit

/-! ## The kit of a step -/

/-- A state with everything cleared that the laws do not read: of the rest, the laws and the commands that wait. -/
def State.lawful (s : State) : State :=
  { State.reset with
    records := s.records, directory := s.directory, queues := s.queues, committed := s.committed, stack := s.stack
    nextPush := s.nextPush, replies := s.replies, write := s.write, stations := s.stations, notices := s.notices
    discardedFrames := s.discardedFrames, overruns := s.overruns, pending := s.pending }

/-- A preorder that the primitive updates of every command keep. -/
structure StepKit extends Kit fun _ => True where
  free : ∀ {s t}, t.lawful = s.lawful → rel t s
  depart : ∀ s p, rel (State.depart s p) s
  status : ∀ s p rep b, rel (State.statusAtTable s p rep b) s
  enrol : ∀ s p i pr, (s.trailer p).state = .arriving → rel (State.enrol s p i pr) s
  declare : ∀ s p tag, (s.trailer p).door.held = some .closed →
    rel (State.editTrailer s p fun t => { t with custody := .closed tag }) s
  disclaim : ∀ s p, rel (State.editTrailer s p fun t => { t with custody := .none }) s
  remap : ∀ s, rel (State.remapRequests s) s
  start : ∀ s, rel (State.clearWorking s) s
  restore : ∀ s v, rel (State.restoreRecord s v) s
  flush : ∀ s p, rel (State.flushStation s p) s
  reply : ∀ s r, s.replyRoom = true → rel (State.formReply s r) s
  pump : ∀ s, rel (State.pumpTx s) s
  discard : ∀ s, rel (State.countDiscard s) s
  overrun : ∀ s : State, rel { s with overruns := min 65535 (s.overruns + 1) } s
  takeTop : ∀ (s : State) f rest, s.stack = f :: rest → rel { s with stack := rest } s
  beginWrite : ∀ (s : State) w, s.write = none → s.replyRoom = true → rel { s with write := some w } s
  endWrite : ∀ (s : State) w r, s.write = some w → rel (State.formReply { s with write := none } r) s

namespace StepKit

variable (h : StepKit) (s : State)

/-- The part of the kit that the lines need. -/
def lines : LineKit where
  toKit := h.toKit
  putLine _ l _ := h.free (by cases l <;> rfl)
  putEntry _ _ _ := h.free rfl
  depart := h.depart
  status := h.status

/-- After one operation, an update that the laws do not see. -/
theorem thenFree {s t u : State} (x : h.rel t s) (e : u.lawful = t.lawful) : h.rel u s := h.after (h.free e) x

/-! ## Hold-up, starts and power (11.3 to 11.5) -/

theorem flushAll (n : Nat) : h.rel (State.flushAll n s) s := by
  induction n generalizing s with
  | zero => exact h.refl s
  | succ n ih =>
    unfold State.flushAll
    split
    · exact h.refl _
    · exact (ih _).trans (h.flush s _)

theorem abandonWrite : h.rel s.abandonWrite s := by
  unfold State.abandonWrite
  split
  · exact h.refl _
  · rename_i w hw
    exact h.thenFree (h.endWrite s w { type := 0x15, tag := w.tag, status := .restarting, body := [] } hw) rfl

theorem recordRebuild : h.rel s.recordRebuild s := h.free <| by
  unfold State.recordRebuild
  dsimp only
  split
  · split <;> rfl
  · rfl

theorem beginFlush : h.rel s.beginFlush s :=
  h.thenFree (h.forEach s (s.flushOrder.filter fun p => !(s.trailer p).verifies) (fun s' _ => s'.recordRebuild)
    fun s _ _ => h.recordRebuild s) rfl

/-- Where a restart goes on to its flush. -/
theorem flushIf (b : Prop) [Decidable b] {t : State} (x : h.rel t s) : h.rel (if b then t.beginFlush else t) s := by
  split
  · exact (h.beginFlush t).trans x
  · exact x

theorem beginRestart (r : Reason) : h.rel (s.beginRestart r) s := by
  unfold State.beginRestart
  dsimp only
  refine h.flushIf s _ ?_
  have flushed := (h.flushAll { s with
    restartRecord := { primary := some r, secondary := none }, phase := .flushWaiting
    lineA := { s.lineA with round := none }, lineB := { s.lineB with round := none } } s.stations.length).trans
    (h.free (s := s) rfl)
  split
  · exact (h.abandonWrite _).trans flushed
  · exact flushed

theorem pendingCause (c : Reason) : h.rel (s.pendingCause c) s := by
  have recorded : h.rel { s with restartRecord := s.restartRecord.take c } s := h.free rfl
  unfold State.pendingCause
  dsimp only
  split
  · exact (h.beginFlush _).trans ((h.abandonWrite _).trans recorded)
  · exact recorded

theorem takeCause (c : Reason) : h.rel (s.takeCause c) s := by
  unfold State.takeCause
  split
  · exact h.beginRestart s c
  · exact h.pendingCause s c
  · exact h.pendingCause s c
  · exact h.pendingCause s c
  · exact h.free rfl
  · exact h.refl _

theorem settleCauses : h.rel s.settleCauses s :=
  (h.forEach _ (orderedCauses s.heldCauses) State.takeCause fun s c _ => h.takeCause s c).trans (h.free rfl)

theorem beginStart : h.rel s.beginStart s := by
  have cleared {t : State} (e : t.lawful = s.clearWorking.lawful) : h.rel t s := h.thenFree (h.start s) e
  unfold State.beginStart
  dsimp only
  split
  · exact (h.forEach _ _ _ fun s v _ => h.restore s v).trans (cleared rfl)
  · exact cleared rfl

theorem startLine (l : Line) : h.rel (s.startLine l) s :=
  (h.forEach _ _ _ fun s p _ => h.lines.installPost s p).trans (h.lines.putLine s l _)

theorem finishStart : h.rel s.finishStart s :=
  (h.settleCauses _).trans ((h.startLine _ _).trans ((h.startLine _ _).trans (h.free rfl)))

theorem eraseNext : h.rel s.eraseNext s := by
  unfold State.eraseNext
  split
  · dsimp only
    split
    · exact (h.finishStart _).trans (h.free rfl)
    · exact h.free rfl
  all_goals exact h.refl _

theorem mainsDip : h.rel s.mainsDip s := (h.beginStart _).trans (h.free rfl)

theorem flushEnded : h.rel s.flushEnded s := by
  unfold State.flushEnded
  split
  · split
    · exact h.mainsDip s
    · exact h.free rfl
  · exact h.beginStart s

theorem flushNext : h.rel s.flushNext s := by
  unfold State.flushNext
  split
  · dsimp only
    split
    · exact (h.flushEnded _).trans (h.free rfl)
    · exact h.free rfl
  · exact h.flushEnded s
  all_goals exact h.refl _

theorem loseMains : h.rel s.loseMains s := (h.takeCause _ _).trans (h.free rfl)

theorem returnMains : h.rel s.returnMains s := by
  unfold State.returnMains
  dsimp only
  split
  · exact (h.mainsDip _).trans (h.free rfl)
  all_goals exact h.free rfl

theorem spoilInFlight : h.rel s.spoilInFlight s := by
  unfold State.spoilInFlight
  split
  · exact h.free rfl
  · exact h.free rfl
  · exact h.free rfl
  · exact h.refl _

theorem failSupply : h.rel s.failSupply s := by
  have cleared {t : State} (e : t.lawful = s.spoilInFlight.clearWorking.lawful) : h.rel t s :=
    h.thenFree ((h.start _).trans (h.spoilInFlight s)) e
  unfold State.failSupply
  split
  · exact h.refl _
  all_goals exact cleared rfl

theorem powerUp (b : Bool) : h.rel (s.powerUp b) s := by
  unfold State.powerUp
  split
  · split
    · exact (h.beginStart _).trans (h.free rfl)
    · exact (h.beginStart _).trans (h.free rfl)
  all_goals exact h.refl _

/-! ## A status (R6, R29) -/

theorem exchangeGood (l : Line) (r : Round) (rep : StatusReport) : h.rel (s.exchangeGood l r rep) s :=
  (h.lines.nextAddress _ l).trans ((h.settleCauses _).trans (h.lines.goodResult s l _ _))

theorem frameEnds (l : Line) (bytes : List Byte) : h.rel (s.frameEnds l bytes) s := by
  unfold State.frameEnds
  split
  · exact h.refl _
  · split
    · exact h.exchangeGood s l _ _
    · exact h.lines.exchangeFailed s l _

/-! ## A completed write (R194) -/

theorem takeContent (c : BlockContent) : h.rel (s.takeContent c) s := by
  have put : h.rel { s with config := s.config.put c } s := h.free rfl
  have go {b : Bool} {t : State} (x : h.rel t { s with config := s.config.put c }) :
      h.rel (if b then t else { s with config := s.config.put c }) s := by
    split
    · exact x.trans put
    · exact put
  unfold State.takeContent
  dsimp only
  split
  · exact go ((h.lines.wakeLine _ _).trans (h.lines.wakeLine _ _))
  · exact go (h.remap _)
  · exact go (h.lines.walkFeeders _)
  · exact go (h.lines.settleTable _)
  · exact put
  · exact (h.lines.profileWritten _ _ _).trans put

theorem completeWrite : h.rel s.completeWrite s := by
  unfold State.completeWrite
  split
  · exact h.refl _
  · rename_i w hw
    dsimp only
    refine h.flushIf s _ ?_
    have replied {t : State} (e : t.lawful = (State.formReply { s with write := none }
        { type := 0x15, tag := w.tag, status := .ok, body := [] }).lawful) : h.rel t s :=
      h.thenFree (h.endWrite s w _ hw) e
    split
    · exact (h.takeContent _ _).trans (replied rfl)
    · exact replied rfl

/-! ## The requests (10.3) -/

section
variable {s} (room : s.replyRoom = true)
include room

theorem refuse (t : RequestType) (tag : Word16) (st : Status) : h.rel (s.refuse t tag st) s := h.reply s _ room

/-- A reply that is formed after an effect that leaves the reply queue its place. -/
theorem thenReply {u : State} (x : h.rel u s) (e : u.replyRoom = s.replyRoom) (r : Reply) : h.rel (u.formReply r) s :=
  (h.reply u r (e.trans room)).trans x

/-- A reply that is formed after an effect of the trailer side. -/
theorem answerAfter {u : State} (x : h.rel u s) (k : ∀ f : Framed, f.rel u s) (t : RequestType) (tag : Word16)
    (st : Status) (body : List Byte) : h.rel (u.answer t tag st body) s :=
  h.thenReply room x (State.replyRoom_of_framed k) _

theorem withPost {t : RequestType} {tag : Word16} {b : Byte} {f : Post → State} (hf : ∀ p, h.rel (f p) s) :
    h.rel (s.withPost t tag b f) s := by
  unfold State.withPost
  split
  · exact hf _
  · exact h.refuse room _ _ _

theorem withTrailer {t : RequestType} {tag : Word16} {p : Post} {f : TrailerRecord → State}
    (hf : h.rel (f (s.trailer p)) s) : h.rel (s.withTrailer t tag p f) s := by
  unfold State.withTrailer
  split
  · exact h.refuse room _ _ _
  · exact hf

theorem takeBindProfile (tag : Word16) (b n : Byte) : h.rel (s.takeBindProfile tag b n) s :=
  h.withPost room fun p => by
    split
    · exact h.refuse room _ _ _
    · refine h.withTrailer room ?_
      split
      · exact h.answerAfter room (h.enrol s p _ _ ‹_›) (fun f => f.enrol s p _ _) _ _ _ _
      · exact h.refuse room _ _ _

theorem takeReleasePost (tag : Word16) (b : Byte) : h.rel (s.takeReleasePost tag b) s :=
  h.withPost room fun p => h.withTrailer room
    (h.answerAfter room (h.depart s p) (fun f => f.depart s p) _ _ _ _)

omit room in
theorem askDefrost (p : Post) (he : (s.trailer p).state = .enrolled) (hr : s.run p = none) :
    h.rel (s.askDefrost p) s := by
  unfold State.askDefrost
  split
  · split
    · exact h.upgrade s p _ trivial
    · exact h.upgrade s p _ trivial
    · exact h.refl _
    · exact h.refl _
  · exact h.file s p _ _ trivial he hr ‹_›

omit h room in
theorem framed_askDefrost (f : Framed) (p : Post) : f.rel (s.askDefrost p) s := by
  unfold State.askDefrost
  split
  · split
    · exact f.upgradeRequest s p _
    · exact f.upgradeRequest s p _
    · exact f.refl _
    · exact f.refl _
  · exact f.fileRequest s p _ _

theorem takeDefrostNow (tag : Word16) (b : Byte) : h.rel (s.takeDefrostNow tag b) s :=
  h.withPost room fun p => h.withTrailer room <| by
    split
    · exact h.refuse room _ _ _
    · rename_i hno
      rw [not_or, not_not, Bool.not_eq_true, Option.isSome_eq_false_iff, Option.isNone_iff_eq_none] at hno
      split
      · exact h.reply s _ room
      · exact h.answerAfter room (h.askDefrost p hno.1 hno.2) (framed_askDefrost · p) _ _ _ _

theorem takeDefrostCancel (tag : Word16) (b : Byte) (m : Word16) : h.rel (s.takeDefrostCancel tag b m) s :=
  h.withPost room fun p => h.withTrailer room <| by
    split
    · exact h.refuse room _ _ _
    · exact h.answerAfter room
        ((h.edit _ p _ trivial ⟨rfl, rfl⟩).trans ((h.abortRun _ trivial _ _ _).trans (h.unfile s p trivial)))
        (fun f => (f.editTrailer _ _ _).trans ((f.abortRun _ _ _ _ _).trans (f.removeRequest s p))) _ _ _ _

theorem takeDefrostInhibit (tag : Word16) (b on : Byte) : h.rel (s.takeDefrostInhibit tag b on) s :=
  h.withPost room fun p => by
    have flagged (x : Bool) := h.editKey s p (fun t => { t with inhibit := x }) trivial ⟨rfl, rfl, rfl, rfl, rfl⟩
    split
    · exact h.refuse room _ _ _
    · refine h.withTrailer room ?_
      split
      · exact h.refuse room _ _ _
      · split
        · exact h.answerAfter room (flagged false) (fun f => f.editTrailer s p _) _ _ _ _
        · exact h.answerAfter room
            ((h.abortRun _ trivial _ _ _).trans ((h.unfile _ p trivial).trans (flagged true)))
            (fun f => (f.abortRun _ _ _ _ _).trans ((f.removeRequest _ p).trans (f.editTrailer s p _))) _ _ _ _

theorem takeDeclareCustody (tag : Word16) (b : Byte) (t : List Byte) : h.rel (s.takeDeclareCustody tag b t) s :=
  h.withPost room fun p => by
    split
    · refine h.withTrailer room ?_
      split
      · exact h.refuse room _ _ _
      · split
        · exact h.refuse room _ _ _
        · rename_i closed
          exact h.answerAfter room ((h.item _ p _ trivial).trans (h.declare s p t (not_not.mp closed)))
            (fun f => (f.item _ p _).trans (f.editTrailer s p _)) _ _ _ _
    · exact h.refuse room _ _ _

theorem takeClearCustody (tag : Word16) (b : Byte) : h.rel (s.takeClearCustody tag b) s :=
  h.withPost room fun p => h.withTrailer room <| by
    dsimp only
    split
    · exact h.answerAfter room (h.disclaim s p) (fun f => f.editTrailer s p _) _ _ _ _
    · exact h.answerAfter room ((h.item _ p _ trivial).trans (h.disclaim s p))
        (fun f => (f.item _ p _).trans (f.editTrailer s p _)) _ _ _ _

theorem takeSetRaiseMask (tag : Word16) (b : Byte) (m : Word16) : h.rel (s.takeSetRaiseMask tag b m) s :=
  h.withPost room fun p => h.withTrailer room
    (h.answerAfter room (h.editKey s p _ trivial ⟨rfl, rfl, rfl, rfl, rfl⟩) (fun f => f.editTrailer s p _) _ _ _ _)

theorem takeAckFinding (tag : Word16) (b c : Byte) : h.rel (s.takeAckFinding tag b c) s :=
  h.withPost room fun p => by
    split
    · exact h.refuse room _ _ _
    · refine h.withTrailer room ?_
      split
      · exact h.answerAfter room (h.clearFinding s trivial _ _) (fun f => f.clearFinding s p _ _) _ _ _ _
      · exact h.refuse room _ _ _

theorem takeTakeException (tag : Word16) : h.rel (s.takeTakeException tag) s := by
  unfold State.takeTakeException
  split
  · exact h.reply s _ room
  · refine h.thenReply room ?_ (by rfl) _
    exact h.takeTop s _ _ ‹_›

theorem takePostOutput (tag : Word16) (b c e f n : Byte) : h.rel (s.takePostOutput tag b c e f n) s :=
  h.withPost room fun p => by
    split
    · exact h.refuse room _ _ _
    · split
      · exact h.refuse room _ _ _
      · split
        · exact h.refuse room _ _ _
        · exact h.thenReply room (h.output s p _ trivial) (by rfl) _

theorem takeStoreRead (tag : Word16) (b : Byte) : h.rel (s.takeStoreRead tag b) s := by
  unfold State.takeStoreRead
  split
  · exact h.refuse room _ _ _
  · split
    · exact h.refuse room _ _ _
    · exact h.reply s _ room

omit h room in
/-- A write is taken only where none is in flight (R193, check 2). -/
theorem write_of_writeRefusal {b : Nat} {content : List Byte} (hr : s.writeRefusal b content = none) :
    s.write = none := by
  by_contra hw
  have busy : s.write.isSome = true := Option.isSome_iff_ne_none.mpr hw
  unfold State.writeRefusal at hr
  rw [if_pos busy] at hr
  split at hr <;> cases hr

theorem takeStoreWrite (tag : Word16) (b : Byte) (content : List Byte) : h.rel (s.takeStoreWrite tag b content) s := by
  unfold State.takeStoreWrite
  split
  · exact h.refuse room _ _ _
  · rename_i taken
    exact h.thenFree (h.beginWrite s { block := storePlace b, content := content, tag := tag }
      (write_of_writeRefusal taken) room) rfl

theorem ownerTakes (i : Instr) : h.rel (s.ownerTakes i) s := by
  have answers (r : Reply) := h.reply s r room
  have refuses (t : RequestType) (tag : Word16) (st : Status) := h.refuse room t tag st
  cases i with
  | yardStatus tag =>
    exact h.thenFree (answers { type := 0x01, tag := tag, status := .ok, body := s.yardStatusFields }) (by rfl)
  | lineQuery tag l =>
    change h.rel (s.takeLineQuery tag l) s
    unfold State.takeLineQuery
    split
    · exact answers _
    · exact refuses _ _ _
  | trailerQuery tag p => exact h.withPost room fun _ => h.withTrailer room (answers _)
  | trailerList tag f p =>
    change h.rel (s.takeTrailerList tag f p) s
    unfold State.takeTrailerList
    split
    · exact refuses _ _ _
    · exact h.withPost room fun _ => answers _
  | findUnit tag u =>
    change h.rel (s.takeFindUnit tag u) s
    unfold State.takeFindUnit
    dsimp only
    split
    · exact refuses _ _ _
    · split
      · exact refuses _ _ _
      · exact answers _
  | bindProfile tag p n => exact h.takeBindProfile room tag p n
  | releasePost tag p => exact h.takeReleasePost room tag p
  | setWeather tag rh ta => exact h.thenReply room (h.free (by rfl)) (by rfl) _
  | defrostNow tag p => exact h.takeDefrostNow room tag p
  | defrostCancel tag p m => exact h.takeDefrostCancel room tag p m
  | defrostInhibit tag p on => exact h.takeDefrostInhibit room tag p on
  | feederQuery tag q =>
    change h.rel (s.takeFeederQuery tag q) s
    unfold State.takeFeederQuery
    split
    · exact answers _
    · exact refuses _ _ _
  | declareCustody tag p t => exact h.takeDeclareCustody room tag p t
  | clearCustody tag p => exact h.takeClearCustody room tag p
  | setRaiseMask tag p m => exact h.takeSetRaiseMask room tag p m
  | ackFinding tag p c => exact h.takeAckFinding room tag p c
  | takeException tag => exact h.takeTakeException room tag
  | peekExceptions tag => exact answers _
  | postOutput tag p c b f n => exact h.takePostOutput room tag p c b f n
  | storeRead tag b => exact h.takeStoreRead room tag b
  | storeWrite tag b c => exact h.takeStoreWrite room tag b c
  | setClock tag w => exact h.thenReply room (h.free (by rfl)) (by rfl) _
  | restart tag => exact (h.takeCause _ _).trans (answers _)
  | _ => exact h.refl _

theorem takeRequest (f : HostFrame) : h.rel (s.takeRequest f) s := by
  unfold State.takeRequest
  split
  · exact h.reply s _ room
  · exact h.reply s _ room
  · split
    · exact h.reply s _ room
    · exact h.ownerTakes room _

end

/-! ## The host line (10.1, 10.2) -/

theorem serveHolding : h.rel s.serveHolding s := by
  unfold State.serveHolding
  split
  · exact h.refl _
  · split
    · rename_i served
      exact (h.takeRequest (s := { s with held := none }) served.2 _).trans (h.free rfl)
    · exact h.refl _

theorem offerFrame (f : HostFrame) : h.rel (s.offerFrame f) s := by
  unfold State.offerFrame
  split
  · exact (h.pump _).trans ((h.serveHolding _).trans (h.free rfl))
  · exact h.overrun s

theorem receiveFrame (f : HostFrame) : h.rel (s.receiveFrame f) s := by
  unfold State.receiveFrame
  split
  · exact h.refl _
  · split
    · exact h.discard s
    · exact h.offerFrame s f

theorem discardTo (rx : RxState) : h.rel (State.countDiscard { s with rx := rx }) s :=
  (h.discard _).trans (h.free rfl)

theorem addContents (contents : List Byte) : h.rel (s.addContents contents) s := by
  unfold State.addContents
  split
  · exact h.discardTo s _
  · split
    · split
      · exact (h.offerFrame _ _).trans (h.free rfl)
      · exact h.discardTo s _
    · exact h.free rfl

theorem receiveByte (b : Byte) : h.rel (s.receiveByte b) s := by
  unfold State.receiveByte
  split
  · split
    · exact h.free rfl
    · exact h.refl _
  · split
    · exact h.discardTo s _
    · split
      · exact h.addContents s _
      · split
        · exact h.free rfl
        · exact h.addContents s _

theorem receiveBytes (bytes : List Byte) : h.rel (s.receiveBytes bytes) s := by
  unfold State.receiveBytes
  split
  · exact h.forEach s _ _ fun s b _ => h.receiveByte s b
  · exact h.refl _

theorem receiveGap : h.rel s.receiveGap s := by
  unfold State.receiveGap
  split
  · exact h.refl _
  · exact h.discardTo s _

theorem transmitDone : h.rel s.transmitDone s := (h.serveHolding _).trans ((h.pump _).trans (h.free rfl))

theorem holdExpires (p : Post) : h.rel (s.holdExpires p) s := by
  unfold State.holdExpires
  split
  · exact h.refl _
  · split
    · exact h.flush s p
    · exact h.refl _

/-! ## Every command -/

theorem effect (i : Instr) : h.rel (s.effect i) s := by
  cases i with
  | roundStart l => exact h.lines.startRound s l
  | status l bytes => exact h.frameEnds s l bytes
  | responseWindowExpiry l => exact h.lines.exchangeTimesOut s l
  | postFrameGapTimeout l => exact h.lines.exchangeTimesOut s l
  | postLineStrayBytes l bytes => exact h.refl s
  | startTimerExpiry p => exact h.startTimer s trivial
  | maxDurationExpiry p => exact h.durationTimer s trivial
  | suspensionLimitExpiry p => exact h.suspensionTimer s trivial
  | stuckTimerExpiry p => exact h.stuckTimer s trivial
  | gatherHoldExpiry p => exact h.holdExpires s p
  | hostFrame bytes => exact h.receiveBytes s bytes
  | hostFrameGapTimeout => exact h.receiveGap s
  | storeWriteComplete => exact h.completeWrite s
  | transmitComplete => exact h.transmitDone s
  | mainsLoss => exact h.loseMains s
  | imageBlockWritten => exact h.flushNext s
  | mainsReturn => exact h.returnMains s
  | supplyFail => exact h.failSupply s
  | powerOn good => exact h.powerUp s good
  | keySwitchChange k => exact h.free rfl
  | lineRateSwitchChange r => exact h.free rfl
  | imageBlockErased => exact h.eraseNext s
  | _ => exact h.receiveFrame s _

theorem exec {s t : State} {i : Instr} (e : Machine.exec i s = .next t) : h.rel t s := by
  rw [exec_next_iff.mp e]
  exact (h.pump _).trans (h.effect s i)

end StepKit

/-! ## Laws that a kit of a step keeps -/

/-- A law of the state that every command keeps and that does not read the clock or the commands that wait is kept by
every step. -/
theorem step_keeps (law : State → Prop) (h : StepKit) (hrel : ∀ {s t}, h.rel t s → law s → law t)
    (hpending : ∀ (s : State) l, law s → law { s with pending := l }) (htick : ∀ s : State, law s → law s.tick)
    {s t : State} (hs : law s) (e : step s = .next t) : law t := by
  unfold step at e
  split at e
  · exact hrel (h.exec e) (hpending s _ hs)
  · cases e
    exact htick s hs

end Sys2Proof.Machine


/-! # The gather stations and the notice transmit queue (R184 to R188)

What an item does in each case of R186 and R187 where the stations keep within their bounds, the flush of every station,
the statement O15 and that an item keeps the bounds of the buffers. -/

namespace Sys2Proof.Machine

/-! ## Offering a notice -/

section
variable (s : State) (n : Notice)

@[simp] theorem State.offerNotice_stations : (s.offerNotice n).stations = s.stations := by
  rw [State.offerNotice_changes]
  unfold State.offerNotice
  split
  · rfl
  · split <;> rfl

/-- Offering a notice does not read the stations. -/
theorem State.offerNotice_withStations (l : List Station) :
    State.offerNotice { s with stations := l } n = { s.offerNotice n with stations := l } := by
  unfold State.offerNotice
  change (if s.txFree then _ else _) = _
  split
  · rfl
  · dsimp only
    split <;> rfl

theorem State.txFree_iff : s.txFree = true ↔ s.tx = none ∧ s.replies = [] ∧ s.notices = [] := by
  simp [State.txFree, and_assoc]

/-- Every BufferLaw bound that an offered notice can reach is the queue's (R188). -/
theorem State.notices_offerNotice_le (h : s.notices.length ≤ 24) : (s.offerNotice n).notices.length ≤ 24 := by
  obtain ⟨-, e⟩ | ⟨-, room, e⟩ | ⟨-, -, e⟩ := State.offerNotice_cases s n <;> rw [e]
  · exact h
  · simpa using room
  · exact h

end

/-! ## Lists of stations with one station for a post -/

section
variable {l : List Station} {p : Post}

theorem find_station_eq_none : (l.find? fun st => decide (st.post = p)) = none ↔ ∀ st ∈ l, st.post ≠ p := by simp

theorem filter_stations_eq_self (h : ∀ st ∈ l, st.post ≠ p) : (l.filter fun st => decide (st.post ≠ p)) = l := by
  simpa [List.filter_eq_self] using h

/-- A station found is of its post and stands in the list. -/
theorem find_station_spec {st : Station} (h : (l.find? fun x => decide (x.post = p)) = some st) :
    st.post = p ∧ st ∈ l :=
  ⟨by simpa using List.find?_some h, List.mem_of_find?_eq_some h⟩

variable {before after : List Station} {e : Station}

/-- Where no post has two stations, those around a station are of other posts. -/
theorem other_posts (h : ((before ++ e :: after).map (·.post)).Nodup) : ∀ st ∈ before ++ after, st.post ≠ e.post := by
  intro st hst same
  simp only [List.map_append, List.map_cons, List.nodup_append, List.nodup_cons, List.mem_map, List.mem_cons] at h
  obtain ⟨-, ⟨notAfter, -⟩, apart⟩ := h
  obtain hb | ha := List.mem_append.mp hst
  · exact apart st.post ⟨st, hb, rfl⟩ e.post (.inl rfl) same
  · exact notAfter ⟨st, ha, same⟩

theorem find_station_middle (h : ((before ++ e :: after).map (·.post)).Nodup) :
    ((before ++ e :: after).find? fun st => decide (st.post = e.post)) = some e := by
  have none : (before.find? fun st => decide (st.post = e.post)) = none :=
    find_station_eq_none.mpr fun st hst => other_posts h st (List.mem_append_left _ hst)
  rw [List.find?_append, none]
  simp

theorem filter_stations_middle (h : ((before ++ e :: after).map (·.post)).Nodup) :
    ((before ++ e :: after).filter fun st => decide (st.post ≠ e.post)) = before ++ after := by
  have others := other_posts h
  rw [List.filter_append, List.filter_cons_of_neg (by simp),
    filter_stations_eq_self fun st hst => others st (List.mem_append_left _ hst),
    filter_stations_eq_self fun st hst => others st (List.mem_append_right _ hst)]

end

/-- The earliest station (R186) stands before every later one and before its equals. -/
theorem earliestStation_split (l : List Station) (hl : l ≠ []) : ∃ before e after,
    earliestStation l = some e ∧ l = before ++ e :: after ∧ (∀ x ∈ before, e.opened < x.opened) ∧
      ∀ x ∈ after, e.opened ≤ x.opened := by
  induction l with
  | nil => exact absurd rfl hl
  | cons st rest ih =>
    cases rest with
    | nil => exact ⟨[], st, [], rfl, rfl, nofun, nofun⟩
    | cons y ys =>
      obtain ⟨before, e, after, found, split, earlier, later⟩ := ih (List.cons_ne_nil _ _)
      by_cases h : e.opened < st.opened
      · refine ⟨st :: before, e, after, ?_, by rw [split]; rfl, ?_, later⟩
        · rw [earliestStation, found]
          exact if_pos h
        · exact List.forall_mem_cons.mpr ⟨h, earlier⟩
      · refine ⟨[], st, y :: ys, ?_, rfl, nofun, ?_⟩
        · rw [earliestStation, found]
          exact if_neg h
        · rw [split]
          intro x hx
          obtain hb | he | ha := (List.mem_append.mp hx).imp_right List.mem_cons.mp
          · exact (not_lt.mp h).trans (earlier x hb).le
          · exact he ▸ not_lt.mp h
          · exact (not_lt.mp h).trans (later x ha)

/-! ## Flushing a station (R187) -/

theorem State.flushStation_of_station {s : State} {p : Post} {st : Station} (h : s.stationOf p = some st) :
    s.flushStation p
      = State.offerNotice { s with stations := s.stations.filter fun x => decide (x.post ≠ p) }
          { post := p, items := st.items } := by
  have hp : st.post = p := (find_station_spec h).1
  subst hp
  unfold State.flushStation
  rw [h]

theorem State.flushStation_of_none {s : State} {p : Post} (h : s.stationOf p = none) : s.flushStation p = s := by
  rw [State.flushStation, h]

/-- The flush of one station of several. -/
theorem State.flushStation_middle {s : State} {before after : List Station} {e : Station}
    (hs : s.stations = before ++ e :: after) (nodup : (s.stations.map (·.post)).Nodup) :
    s.flushStation e.post
      = State.offerNotice { s with stations := before ++ after } { post := e.post, items := e.items } := by
  rw [hs] at nodup
  have found : s.stationOf e.post = some e := by
    rw [State.stationOf, hs]
    exact find_station_middle nodup
  rw [State.flushStation_of_station found, hs, filter_stations_middle nodup]

/-! ## Placing an item (R186) and the flush triggers (R187) -/

/-- The item of a production made now (R185). -/
def State.itemNow (s : State) (b : ItemBody) : NoticeItem := { yardTime := s.yardNow, body := b }

/-- The station that an item opens. -/
def State.newStation (s : State) (p : Post) (b : ItemBody) : Station :=
  { post := p, opened := s.now, items := [s.itemNow b] }

section
variable {s : State} {p : Post} (b : ItemBody)

/-- What an item does once its station is known: it stays, or the station flushes. -/
theorem State.item_of_placed {st : Station}
    (placed : (s.placeItem p (s.itemNow b)).stationOf p = some st) :
    s.item p b = if b.flushes || decide (6 ≤ st.items.length) then (s.placeItem p (s.itemNow b)).flushStation p
      else s.placeItem p (s.itemNow b) := by
  unfold State.item
  change (match (s.placeItem p (s.itemNow b)).stationOf p with
    | none => _
    | some st => _) = _
  rw [placed]
  rfl

theorem stationOf_append_new (u : State) {l : List Station} (hl : ∀ st ∈ l, st.post ≠ p) :
    (State.stationOf { u with stations := l ++ [s.newStation p b] } p) = some (s.newStation p b) := by
  unfold State.stationOf
  rw [List.find?_append, find_station_eq_none.mpr hl]
  simp [State.newStation]

/-- An item that opens a station over the stations of `u`, once room has been made. -/
theorem State.item_of_opened {u : State} (hu : ∀ st ∈ u.stations, st.post ≠ p)
    (placed : s.placeItem p (s.itemNow b) = { u with stations := u.stations ++ [s.newStation p b] }) :
    s.item p b = if b.flushes then u.offerNotice { post := p, items := [s.itemNow b] }
      else { u with stations := u.stations ++ [s.newStation p b] } := by
  have found := stationOf_append_new (s := s) b u hu
  rw [State.item_of_placed b (by rw [placed]; exact found), placed]
  have short : decide (6 ≤ (s.newStation p b).items.length) = false := rfl
  rw [short, Bool.or_false, State.flushStation_of_station found]
  congr 1
  have others : ((u.stations ++ [s.newStation p b]).filter fun x => decide (x.post ≠ p)) = u.stations := by
    rw [List.filter_append, filter_stations_eq_self hu]
    simp [State.newStation]
  dsimp only
  rw [others]
  rfl

/-- A station is open: the item joins it. -/
theorem State.item_of_room (h : s.stationOf p = none) (room : s.stations.length < 12) :
    s.item p b = if b.flushes then s.offerNotice { post := p, items := [s.itemNow b] }
      else { s with stations := s.stations ++ [s.newStation p b] } := by
  refine State.item_of_opened b (find_station_eq_none.mp h) ?_
  unfold State.placeItem
  rw [h]
  dsimp only
  rw [if_pos (show s.stations.length < Config.stationCount from room)]
  rfl

/-- All stations are open: the earliest flushes first. -/
theorem State.item_of_full {before after : List Station} {e : Station} (h : s.stationOf p = none)
    (full : s.stations.length = 12) (nodup : (s.stations.map (·.post)).Nodup)
    (earliest : earliestStation s.stations = some e) (hs : s.stations = before ++ e :: after) :
    s.item p b
      = if b.flushes then
          (State.offerNotice { s with stations := before ++ after } { post := e.post, items := e.items }).offerNotice
            { post := p, items := [s.itemNow b] }
        else
          { State.offerNotice { s with stations := before ++ after } { post := e.post, items := e.items } with
            stations := before ++ after ++ [s.newStation p b] } := by
  have others : ∀ st ∈ before ++ after, st.post ≠ p := fun st hst => by
    refine find_station_eq_none.mp h st ?_
    rw [hs]
    exact List.mem_append.mpr ((List.mem_append.mp hst).imp_right (List.mem_cons_of_mem _))
  rw [State.item_of_opened b (u := State.offerNotice { s with stations := before ++ after }
    { post := e.post, items := e.items }) (by simpa using others)]
  · rw [State.offerNotice_stations]
  · unfold State.placeItem
    rw [h]
    dsimp only
    rw [if_neg (show ¬ s.stations.length < Config.stationCount by rw [full]; decide), earliest]
    dsimp only
    rw [State.flushStation_middle hs nodup]
    rfl

/-- The stations after an item has joined its post's. -/
def State.joinedStations (s : State) (p : Post) (b : ItemBody) : List Station :=
  s.stations.map fun st => if st.post = p then { st with items := st.items ++ [s.itemNow b] } else st

theorem find_joined_self (l : List Station) (i : NoticeItem) {st : Station}
    (h : (l.find? fun x => decide (x.post = p)) = some st) :
    ((l.map fun x => if x.post = p then { x with items := x.items ++ [i] } else x).find? fun x =>
      decide (x.post = p)) = some { st with items := st.items ++ [i] } := by
  induction l with
  | nil => cases h
  | cons y ys ih =>
    by_cases hy : y.post = p
    · rw [List.find?_cons_of_pos (by simpa using hy)] at h
      cases h
      simp [hy]
    · rw [List.find?_cons_of_neg (by simpa using hy)] at h
      simpa [hy] using ih h

theorem find_joined_other (l : List Station) (i : NoticeItem) {q : Post} (hq : q ≠ p) :
    ((l.map fun x => if x.post = p then { x with items := x.items ++ [i] } else x).find? fun x =>
      decide (x.post = q)) = l.find? fun x => decide (x.post = q) := by
  induction l with
  | nil => rfl
  | cons y ys ih =>
    by_cases hy : y.post = p
    · have hyq : y.post ≠ q := fun e => hq (e ▸ hy)
      simpa [hy, hyq, Ne.symm hq] using ih
    · by_cases hyq : y.post = q
      · simp [hyq, hq]
      · simpa [hy, hyq] using ih

theorem filter_joined (l : List Station) (i : NoticeItem) :
    ((l.map fun x => if x.post = p then { x with items := x.items ++ [i] } else x).filter fun x =>
      decide (x.post ≠ p)) = l.filter fun x => decide (x.post ≠ p) := by
  induction l with
  | nil => rfl
  | cons y ys ih => by_cases hy : y.post = p <;> simpa [hy] using ih

theorem State.item_of_station {st : Station} (h : s.stationOf p = some st) :
    s.item p b = if b.flushes || decide (5 ≤ st.items.length) then
        State.offerNotice { s with stations := s.stations.filter fun x => decide (x.post ≠ p) }
          { post := p, items := st.items ++ [s.itemNow b] }
      else { s with stations := s.joinedStations p b } := by
  have placed : s.placeItem p (s.itemNow b) = { s with stations := s.joinedStations p b } := by
    unfold State.placeItem
    rw [h]
    rfl
  have found : (State.stationOf { s with stations := s.joinedStations p b } p)
      = some { st with items := st.items ++ [s.itemNow b] } := find_joined_self _ _ h
  rw [State.item_of_placed b (by rw [placed]; exact found), placed, State.flushStation_of_station found]
  have count : decide (6 ≤ (st.items ++ [s.itemNow b]).length) = decide (5 ≤ st.items.length) := by simp
  have others : ((s.joinedStations p b).filter fun x => decide (x.post ≠ p))
      = s.stations.filter fun x => decide (x.post ≠ p) := filter_joined _ _
  dsimp only
  rw [count, others]

end

/-! ## The flush of every station (R188) -/

theorem flushAll_spec (n : Nat) (s : State) (hn : s.stations.length = n) (nodup : (s.stations.map (·.post)).Nodup) :
    (State.flushAll n s).stations = [] ∧ FlushesAll s (State.flushAll n s) := by
  induction n generalizing s with
  | zero =>
    have nil : s.stations = [] := List.length_eq_zero_iff.mp hn
    exact ⟨nil, [], by rw [nil], List.Pairwise.nil, nil, rfl, rfl, rfl⟩
  | succ n ih =>
    obtain ⟨before, e, after, found, hs, earlier, later⟩ := earliestStation_split s.stations
      (by rw [← List.length_pos_iff, hn]; omega)
    have rest : ((before ++ after).map (·.post)).Nodup := by
      rw [hs] at nodup
      refine nodup.sublist (List.Sublist.map _ ?_)
      exact (List.Sublist.refl before).append (List.sublist_cons_self e after)
    have count : (before ++ after).length = n := by
      have total : (before ++ e :: after).length = n + 1 := by rw [← hs, hn]
      simp only [List.length_append, List.length_cons] at total ⊢
      omega
    have step : State.flushAll (n + 1) s
        = State.flushAll n (State.offerNotice { s with stations := before ++ after } e.notice) := by
      rw [State.flushAll, found]
      dsimp only
      rw [State.flushStation_middle hs nodup]
      rfl
    have open' : (State.offerNotice { s with stations := before ++ after } e.notice).stations = before ++ after :=
      State.offerNotice_stations _ _
    obtain ⟨done, order, perm, sorted, same⟩ :=
      ih (State.offerNotice { s with stations := before ++ after } e.notice) (by rw [open', count]) (by rw [open']; exact rest)
    rw [step]
    refine ⟨done, e :: order, ?_, ?_, ?_⟩
    · rw [hs]
      rw [open'] at perm
      exact (perm.cons e).trans List.perm_middle.symm
    · refine List.pairwise_cons.mpr ⟨fun x hx => ?_, sorted⟩
      have hx' : x ∈ before ++ after := open' ▸ perm.mem_iff.mp hx
      obtain hb | ha := List.mem_append.mp hx'
      · exact le_of_lt (earlier x hb)
      · exact later x ha
    · have first : State.offerNotice { s with stations := [] } e.notice
          = { State.offerNotice { s with stations := before ++ after } e.notice with stations := [] } := by
        rw [State.offerNotice_withStations s e.notice [], State.offerNotice_withStations s e.notice (before ++ after)]
      change SameNotices (State.forEach (State.offerNotice { s with stations := [] } e.notice) order _) _
      rw [first]
      exact same

/-! ## The bounds of the buffers -/

section
variable {s : State} (h : s.BufferLaw)
include h

theorem State.BufferLaw.withStations {l : List Station} (count : l.length ≤ 12) (nodup : (l.map (·.post)).Nodup)
    (items : ∀ st ∈ l, 1 ≤ st.items.length ∧ st.items.length ≤ 5) : State.BufferLaw { s with stations := l } := by
  obtain ⟨replies, -, -, -, notices, discards, overruns⟩ := h
  exact ⟨replies, count, nodup, items, notices, discards, overruns⟩

theorem State.BufferLaw.ofSublist {l : List Station} (sub : List.Sublist l s.stations) :
    State.BufferLaw { s with stations := l } := by
  have ⟨_, count, nodup, items, _⟩ := h
  exact h.withStations (sub.length_le.trans count) (nodup.sublist (sub.map _)) fun st hst => items st (sub.subset hst)

theorem State.BufferLaw.offerNotice (n : Notice) : (s.offerNotice n).BufferLaw := by
  obtain ⟨replies, count, nodup, items, notices, discards, overruns⟩ := h
  have room := State.notices_offerNotice_le s n notices
  obtain ⟨-, e⟩ | ⟨-, -, e⟩ | ⟨-, -, e⟩ := State.offerNotice_cases s n <;> rw [e] at room ⊢
  all_goals exact ⟨replies, count, nodup, items, room, discards, overruns⟩

theorem State.BufferLaw.flushStation (p : Post) : (s.flushStation p).BufferLaw := by
  cases found : s.stationOf p with
  | none =>
    rw [State.flushStation_of_none found]
    exact h
  | some st =>
    rw [State.flushStation_of_station found]
    exact (h.ofSublist List.filter_sublist).offerNotice _

/-- One station is opened over others of other posts. -/
theorem State.BufferLaw.openStation (s' : State) {p : Post} (b : ItemBody) (room : s.stations.length < 12)
    (others : ∀ st ∈ s.stations, st.post ≠ p) :
    State.BufferLaw { s with stations := s.stations ++ [s'.newStation p b] } := by
  have ⟨_, _, nodup, items, _⟩ := h
  refine h.withStations ?_ ?_ ?_
  · simp only [List.length_append, List.length_singleton]
    omega
  · rw [List.map_append, List.nodup_append]
    refine ⟨nodup, List.nodup_singleton _, ?_⟩
    intro q hq r hr
    obtain ⟨st, hst, rfl⟩ := List.mem_map.mp hq
    rw [List.map_singleton, List.mem_singleton] at hr
    subst hr
    exact others st hst
  · intro st hst
    obtain old | new := List.mem_append.mp hst
    · exact items st old
    · rw [List.mem_singleton.mp new]
      exact ⟨le_refl 1, show 1 ≤ 5 by decide⟩

theorem State.BufferLaw.item (p : Post) (b : ItemBody) : (s.item p b).BufferLaw := by
  have ⟨_, count, nodup, items, _⟩ := h
  cases found : s.stationOf p with
  | none =>
    have others := find_station_eq_none.mp found
    by_cases room : s.stations.length < 12
    · rw [State.item_of_room b found room]
      split
      · exact h.offerNotice _
      · exact h.openStation s b room others
    · have full : s.stations.length = 12 := by omega
      obtain ⟨before, e, after, earliest, hs, -, -⟩ := earliestStation_split s.stations
        (by rw [← List.length_pos_iff]; omega)
      have sub : List.Sublist (before ++ after) s.stations := by
        rw [hs]
        exact (List.Sublist.refl before).append (List.sublist_cons_self e after)
      have flushed := (h.ofSublist sub).offerNotice { post := e.post, items := e.items }
      rw [State.item_of_full b found full nodup earliest hs]
      split
      · exact flushed.offerNotice _
      · have open' : (State.offerNotice { s with stations := before ++ after }
            { post := e.post, items := e.items }).stations = before ++ after := State.offerNotice_stations _ _
        have opened := flushed.openStation s (p := p) b (by
          rw [open']
          rw [hs] at full
          simp only [List.length_append, List.length_cons] at full ⊢
          omega) (by rw [open']; exact fun st hst => others st (sub.subset hst))
        rw [open'] at opened
        exact opened
  | some st =>
    obtain ⟨hst, mem⟩ := find_station_spec found
    rw [State.item_of_station b found]
    split
    · exact (h.ofSublist List.filter_sublist).offerNotice _
    · rename_i stays
      simp only [Bool.or_eq_true, decide_eq_true_eq, not_or] at stays
      refine h.withStations ?_ ?_ ?_
      · simpa [State.joinedStations] using count
      · have posts : (s.joinedStations p b).map (·.post) = s.stations.map (·.post) := by
          simp only [State.joinedStations, List.map_map]
          refine List.map_congr_left fun x _ => ?_
          simp only [Function.comp]
          split <;> rfl
        rw [posts]
        exact nodup
      · intro x hx
        obtain ⟨y, hy, rfl⟩ := List.mem_map.mp hx
        have bound := items y hy
        split
        · rename_i hyp
          have : y = st := by
            by_contra ne
            exact ne (List.inj_on_of_nodup_map nodup hy mem (hyp.trans hst.symm))
          subst this
          simp only [List.length_append, List.length_singleton]
          omega
        · exact bound

end

/-! ## The statement -/

/-- Settles O15: each clause is the equation of `item`, of `offerNotice` or of a flush for its case. -/
theorem stationsGatherAndFlush : Obligations.StationsGatherAndFlush := by
  intro s p law
  have ⟨_, _, nodup, items, _⟩ := law
  refine ⟨fun n => ⟨fun tx replies notices => ?begun, fun busy room => ?waits, fun full => ?lost⟩,
    fun b free room => ⟨fun stays => ?opens, fun flushes => ?passes⟩,
    fun b free full => ?overflow, fun b st found => ⟨fun stays short => ?joins, fun flushes => ?sixth⟩,
    fun st found => ⟨fun due => ?expires, fun early => ?stands⟩, fun free => ?nothing, ?all⟩
  case begun => exact if_pos ((State.txFree_iff s).mpr ⟨tx, replies, notices⟩)
  case waits =>
    have notFree : ¬ s.txFree = true := fun free => by
      obtain ⟨tx, replies, notices⟩ := (State.txFree_iff s).mp free
      obtain h | h | h := busy
      exacts [h tx, h replies, h notices]
    exact (if_neg notFree).trans (if_pos room)
  case lost =>
    have notFree : ¬ s.txFree = true := fun free => by
      rw [((State.txFree_iff s).mp free).2.2] at full
      exact absurd full (by decide)
    exact (if_neg notFree).trans (if_neg (Nat.not_lt.mpr full))
  case opens => rw [State.item_of_room b free room, stays]; rfl
  case passes => rw [State.item_of_room b free room, flushes]; rfl
  case overflow =>
    obtain ⟨before, e, after, earliest, hs, earlier, later⟩ := earliestStation_split s.stations
      (by rw [← List.length_pos_iff]; omega)
    refine ⟨before, e, after, hs, earlier, later, fun stays => ?_, fun flushes => ?_⟩
    · rw [State.item_of_full b free full nodup earliest hs, stays]; rfl
    · rw [State.item_of_full b free full nodup earliest hs, flushes]; rfl
  case joins =>
    have e : s.item p b = { s with stations := s.joinedStations p b } := by
      rw [State.item_of_station b found, stays, if_neg]
      simpa using short
    rw [e]
    exact ⟨rfl, find_joined_self _ _ found, fun q hq => find_joined_other _ _ hq⟩
  case sixth =>
    rw [State.item_of_station b found, if_pos]
    · rfl
    · simpa using flushes.imp_right fun five => five.ge
  case expires =>
    rw [exec_eq_effect]
    change Host.Outcome.next (s.holdExpires p).pumpTx = _
    rw [State.holdExpires, found]
    dsimp only
    rw [if_pos (show st.opened + Config.gatherHold ≤ s.now from due), State.flushStation_of_station found]
  case stands =>
    rw [exec_eq_effect]
    change Host.Outcome.next (s.holdExpires p).pumpTx = _
    rw [State.holdExpires, found]
    dsimp only
    rw [if_neg (show ¬ st.opened + Config.gatherHold ≤ s.now from not_le.mpr early)]
  case nothing =>
    rw [exec_eq_effect]
    change Host.Outcome.next (s.holdExpires p).pumpTx = _
    rw [State.holdExpires, free]
  case all =>
    obtain ⟨empty, flushed⟩ := flushAll_spec s.stations.length s rfl nodup
    refine ⟨flushed, ?_, FramedTable.transmitter.flushAll _ _⟩
    rw [← empty]
    exact State.flushAll_changes _ _

end Sys2Proof.Machine


/-! # The Trailer Table in a kit, and the laws of the buffers and of custody

A `PutKit` holds across every record given whole, as long as that breaches R142 no further, and across every change of
the directory; a `TableKit` across the rebuild history too, so that it holds across a status at the table and makes a
`StepKit`. The statements O4 (R157, R179, R186,
R188), O5 (R142) and O2 (R184) are put together from three such kits. -/

namespace Sys2Proof.Machine

/-- A preorder to which only the buffers, the stack, the commands that wait and the breaches of R142 can matter. -/
structure PutKit where
  rel : State → State → Prop
  refl : ∀ s, rel s s
  after : ∀ {a b c}, rel a b → rel b c → rel a c
  put : ∀ s p r, (r.Breaches → ∃ q, (s.trailer q).Breaches) → rel (State.putTrailer s p r) s
  output : ∀ s p o, rel (State.putOutput s p o) s
  inForce : ∀ s p a, rel (State.putInForce s p a) s
  item : ∀ s p b, rel (State.item s p b) s
  push : ∀ s p c d k, rel (State.pushFrame s p c d k) s
  queue : ∀ s q l, rel (State.putQueue s q l) s
  load : ∀ s q n, rel (State.putLoad s q n) s
  directory : ∀ (s : State) d, rel { s with directory := d } s

/-- A preorder that an entry in the rebuild history keeps too, with the cause that it can hand (R29). -/
structure TableKit extends PutKit where
  rebuilds : ∀ (s : State) l m, (∀ c ∈ m, c ∈ s.heldCauses ∨ c = .tableFault) → rel { s with rebuilds := l, heldCauses := m } s

theorem PutKit.rel.trans {h : PutKit} {a b c : State} (x : h.rel a b) (y : h.rel b c) : h.rel a c := h.after x y

theorem TrailerRecord.Breaches.of_same {t u : TrailerRecord} (hc : u.custody = t.custody)
    (hd : u.door.held = t.door.held) (h : u.Breaches) : t.Breaches := by
  obtain ⟨⟨tag, declared⟩, opened⟩ := h
  exact ⟨⟨tag, hc ▸ declared⟩, hd ▸ opened⟩

/-- A record with no declared custody breaches nothing. -/
theorem TrailerRecord.not_breaches_of_custody {t : TrailerRecord} (h : ∀ tag, t.custody ≠ .closed tag) : ¬ t.Breaches :=
  fun ⟨⟨tag, hc⟩, _⟩ => h tag hc

/-! ## The parts of a status at the table (R26) -/

/-- The status once the lifecycle step has been taken and the record stamped. -/
def State.stamped (s : State) (p : Post) (rep : StatusReport) : Arrival :=
  ((s.verifyAt p).lifecycle p rep).on fun u => u.stampStatus p

/-- The evaluation, where the record is ENROLLED and the status reports its unit. -/
def Arrival.handled (a : Arrival) (p : Post) (rep : StatusReport) (wasHeating : Bool) : State :=
  if (a.s.trailer p).state = .enrolled ∧ rep.unit = .unit then a.evaluate p rep wasHeating else a.s

/-- RECORD-REBUILT follows once the status has been handled (R28). -/
theorem State.statusAtTable_eq (s : State) (p : Post) (rep : StatusReport) (b : Bool) :
    s.statusAtTable p rep b = match (s.stamped p rep).rebuilt with
      | some n => if (((s.stamped p rep).handled p rep b).trailer p).state = .vacant then (s.stamped p rep).handled p rep b
        else ((s.stamped p rep).handled p rep b).produce p .recordRebuilt n 0
      | none => (s.stamped p rep).handled p rep b := rfl

namespace PutKit

variable (h : PutKit) (s : State)

theorem edit (p : Post) (f : TrailerRecord → TrailerRecord)
    (hf : (f (s.trailer p)).Breaches → (s.trailer p).Breaches) : h.rel (s.editTrailer p f) s := by
  obtain e | ⟨e, -⟩ := State.editTrailer_cases s p f <;> rw [e]
  · exact h.put s p _ fun b => ⟨p, hf b⟩
  · exact h.refl s

/-- The kit without the records given whole and the directory. -/
def loose : LooseKit where
  rel := h.rel
  refl := h.refl
  after := h.after
  edit s p f _ _ hf := h.edit s p f hf
  output := h.output
  inForce := h.inForce
  item := h.item
  push := h.push
  queue := h.queue
  load := h.load

/-- The kit of an evaluation. -/
abbrev kit : Kit fun _ => True := h.loose.kit

/-- A record with no declared custody is given whole. -/
theorem putUndeclared (p : Post) {r : TrailerRecord} (hr : ∀ tag, r.custody ≠ .closed tag) :
    h.rel (s.putTrailer p r) s :=
  h.put s p r fun b => absurd b (TrailerRecord.not_breaches_of_custody hr)

theorem putVacant (p : Post) : h.rel (s.putTrailer p .vacant) s := h.putUndeclared s p (r := .vacant) nofun

theorem putFresh (p : Post) (u : Word32) (m : Word16) (now : Time) : h.rel (s.putTrailer p (.fresh u m now)) s :=
  h.putUndeclared s p (r := .fresh u m now) nofun

theorem dirInsert (u : Word32) (p : Post) : h.rel (s.dirInsert u p) s := h.directory s _

theorem dirRemove (p : Post) : h.rel (s.dirRemove p) s := h.directory s _

theorem dirRepoint (u : Word32) (p : Post) : h.rel (s.dirRepoint u p) s := h.directory s _

theorem cutShort (p : Post) (c : AbortCause) : h.rel (s.cutShort p c) s :=
  (h.kit.unfile _ p trivial).trans (h.kit.endRun s p _ _ trivial)

theorem depart (p : Post) : h.rel (s.depart p) s :=
  (h.putVacant _ p).trans ((h.dirRemove _ p).trans ((h.item _ _ _).trans
    ((h.kit.emptySets _ trivial).trans (h.cutShort s p _))))

theorem announceEnrolment (p : Post) (i : ProfileId) : h.rel (s.announceEnrolment p i) s :=
  (h.kit.clearFinding _ trivial _ _).trans (h.item s p _)

theorem enrol (p : Post) (i : ProfileId) (pr : Profile) : h.rel (s.enrol p i pr) s :=
  (h.announceEnrolment _ p i).trans (h.edit s p _ fun ⟨⟨_, hc⟩, _⟩ => nomatch hc)

theorem tryMatch (p : Post) (b : Bool) : h.rel (s.tryMatch p b) s := by
  unfold State.tryMatch
  split
  · split
    · exact (h.announceEnrolment _ p _).trans (h.edit s p _ (.of_same rfl rfl))
    · exact h.enrol s p _ _
  · exact h.kit.produce s trivial _ _ _

theorem settleBinding (p : Post) : h.rel (s.settleBinding p).1 s := by
  unfold State.settleBinding
  split
  · dsimp only
    exact h.edit s p _ (.of_same rfl rfl)
  · dsimp only
    exact h.edit s p _ (.of_same rfl rfl)

theorem arriveRebuilt (p : Post) (rep : StatusReport) : h.rel (s.arriveRebuilt p rep) s := by
  have placed : h.rel ((s.putTrailer p (.rebuilt rep.serial rep.model s.now (s.matching rep.model))).dirInsert
      rep.serial p) s := (h.dirInsert _ _ _).trans (h.putUndeclared s p (by
        unfold TrailerRecord.rebuilt
        split <;> nofun))
  unfold State.arriveRebuilt
  dsimp only
  split
  · exact (h.kit.produce _ trivial _ _ _).trans placed
  · exact placed

theorem arriveUnknown (p : Post) (rep : StatusReport) : h.rel (s.arriveUnknown p rep) s :=
  (h.tryMatch _ p _).trans ((h.item _ _ _).trans ((h.dirInsert _ _ _).trans (h.putFresh s p _ _ _)))

theorem hold (o p : Post) (rep : StatusReport) : h.rel (s.hold o p rep) s :=
  (h.kit.produce _ trivial _ _ _).trans (h.putUndeclared s p
    (r := { TrailerRecord.fresh rep.serial rep.model s.now with state := .held }) nofun)

theorem carry (o p : Post) (rep : StatusReport) : h.rel (s.carry o p rep) s := by
  have placed : h.rel (((s.cutShort o .move).withdrawActions p).putTrailer p
      (((s.cutShort o .move).trailer o).carried rep.model s.now)) s := by
    refine (h.put _ p _ fun b => ⟨o, ?_⟩).trans ((h.kit.withdrawActions _ trivial).trans (h.cutShort s o _))
    have kept := (FindingKit.bulk.withdrawActions (s.cutShort o .move) (p := p) trivial o).key
    obtain ⟨⟨tag, hc⟩, hd⟩ := b
    exact ⟨⟨tag, kept.custody.trans hc⟩, kept.heldDoor.trans hd⟩
  unfold State.carry
  dsimp only
  refine (h.item _ _ _).trans ?_
  have left := (h.dirRepoint _ rep.serial p).trans ((h.kit.withdrawActions _ (p := o) trivial).trans ((h.putVacant _ o).trans ((h.kit.clearFinding _ (p := p) trivial .linkLost false).trans
      ((h.kit.settleActions _ (p := p) trivial).trans placed))))
  split
  · exact (h.settleBinding _ _).trans left
  · exact (h.tryMatch _ _ _).trans ((h.settleBinding _ _).trans left)

theorem countAbsent (p : Post) : h.rel (s.countAbsent p) s := by
  have counted := h.edit s p (fun t => { t with unitAbsent := min 3 ((s.trailer p).unitAbsent + 1) }) id
  unfold State.countAbsent
  dsimp only
  split
  · exact (h.kit.produce _ trivial _ _ _).trans counted
  · exact counted

theorem stampStatus (p : Post) : h.rel (s.stampStatus p) s := by
  unfold State.stampStatus
  split
  · exact h.refl _
  · exact h.edit s p _ (.of_same rfl rfl)

theorem restoreRecord (v : Saved) : h.rel (s.restoreRecord v) s := by
  have placed : h.rel ((s.putTrailer v.post (v.record s.now s.config.hp)).dirInsert (BitVec.ofNat 32 v.serial) v.post)
      s := (h.dirInsert _ _ _).trans (h.put s v.post _ fun ⟨_, hd⟩ => nomatch hd)
  unfold State.restoreRecord
  dsimp only
  split
  · exact h.refl _
  · exact (h.kit.settleActions _ trivial).trans placed

theorem remapRequests : h.rel s.remapRequests s :=
  (h.kit.forEach _ _ _ fun s q _ => h.kit.walk s q).trans
    (h.kit.forEach s _ _ fun s m _ => (h.queue _ m.1 _).trans (h.kit.unfile s m.2.post trivial))

/-- A same-serial status of a record that is not HELD (R39, R40). -/
theorem sameUnheld (a : Arrival) (p : Post) (rep : StatusReport) (unheld : (a.s.trailer p).state ≠ .held) :
    h.rel (a.same p rep).s a.s := by
  unfold Arrival.same
  split
  · exact h.refl _
  · unfold Arrival.on
    dsimp only
    exact (h.kit.clearLinkLost _ trivial _).trans (h.edit _ p _ (.of_same rfl rfl))
  · unfold Arrival.on
    dsimp only
    exact (h.tryMatch _ p _).trans (h.edit _ p _ (.of_same rfl rfl))
  · exact absurd ‹_› unheld
  · have bound := (h.settleBinding (a.s.editTrailer p fun t => { t with model := rep.model }) p).trans
      (h.edit a.s p _ (.of_same rfl rfl))
    unfold Arrival.on
    dsimp only
    split
    · split
      · exact (h.item _ p _).trans bound
      · exact bound
    · exact (h.tryMatch _ p _).trans bound

end PutKit

namespace TableKit

variable (h : TableKit) (s : State)

theorem recordRebuild : h.rel s.recordRebuild s := by
  have kept : ∀ c ∈ s.heldCauses, c ∈ s.heldCauses ∨ c = .tableFault := fun _ => .inl
  unfold State.recordRebuild
  dsimp only
  split
  · split
    · exact h.rebuilds s _ _ fun c hc => (List.mem_append.mp hc).imp_right List.mem_singleton.mp
    · exact h.rebuilds s _ s.heldCauses kept
  · exact h.rebuilds s _ s.heldCauses kept

theorem rebuildAway (p : Post) : h.rel (s.rebuildAway p) s :=
  (h.recordRebuild _).trans ((h.putVacant _ p).trans ((h.kit.emptySets _ trivial).trans
    ((h.dirRemove _ p).trans (h.cutShort s p _))))

theorem verifyAt (p : Post) : h.rel (s.verifyAt p).s s := by
  unfold State.verifyAt
  dsimp only
  split
  · exact h.refl _
  · split
    · dsimp only
      exact (h.recordRebuild _).trans (h.putVacant s p)
    · dsimp only
      exact h.rebuildAway s p

variable (a : Arrival)

theorem move (o p : Post) (rep : StatusReport) : h.rel (a.move o p rep).s a.s := by
  unfold Arrival.move
  dsimp only
  split
  · dsimp only
    exact h.carry _ _ _ _
  · dsimp only
    exact (h.arriveRebuilt _ _ _).trans ((h.kit.emptySets _ trivial).trans (h.rebuildAway _ _))

theorem arrive (p : Post) (rep : StatusReport) : h.rel (a.arrive p rep).s a.s := by
  unfold Arrival.arrive
  split
  · split
    · exact h.move a _ p rep
    · exact h.hold _ _ _ _
  · unfold Arrival.on
    dsimp only
    split
    · exact h.arriveRebuilt _ _ _
    · exact h.arriveUnknown _ _ _

theorem retryHeld (p : Post) (rep : StatusReport) : h.rel (a.retryHeld p rep).s a.s := by
  unfold Arrival.retryHeld
  split
  · unfold Arrival.on
    dsimp only
    exact (h.tryMatch _ p _).trans ((h.dirInsert _ _ _).trans ((h.putFresh _ p _ _ _).trans
      ((h.kit.emptySets _ trivial).trans ((h.kit.clearFinding _ trivial _ _).trans (h.item _ p _)))))
  · split
    · unfold Arrival.on
      exact (h.move _ _ _ _).trans (h.kit.clearFinding _ trivial _ _)
    · exact h.refl _

theorem same (p : Post) (rep : StatusReport) : h.rel (a.same p rep).s a.s := by
  by_cases held : (a.s.trailer p).state = .held
  · unfold Arrival.same
    rw [held]
    exact h.retryHeld a p rep
  · exact h.sameUnheld a p rep held

theorem lifecycle (p : Post) (rep : StatusReport) : h.rel (a.lifecycle p rep).s a.s := by
  have reported : h.rel (if a.rebuilt.isSome then a.on fun s => s.item p (.departed 0) else a).s a.s := by
    split
    · exact h.item _ p _
    · exact h.refl _
  unfold Arrival.lifecycle
  dsimp only
  split
  · split
    · exact h.depart _ p
    · exact reported
  · split
    · exact h.countAbsent _ p
    · exact reported
  · split
    · exact h.arrive a p rep
    · split
      · exact h.same a p rep
      · exact (h.arrive _ p rep).trans (h.depart _ p)

theorem statusAtTable (p : Post) (rep : StatusReport) (b : Bool) : h.rel (s.statusAtTable p rep b) s := by
  have stamped : h.rel (s.stamped p rep).s s :=
    (h.stampStatus _ p).trans ((h.lifecycle _ p rep).trans (h.verifyAt s p))
  have handled : h.rel ((s.stamped p rep).handled p rep b) s := by
    unfold Arrival.handled
    split
    · rename_i enrolled
      exact (h.kit.evaluate trivial _ rep b enrolled.1).trans stamped
    · exact stamped
  rw [State.statusAtTable_eq]
  split
  · split
    · exact handled
    · exact (h.kit.produce _ trivial _ _ _).trans handled
  · exact handled

end TableKit

/-- What a law asks of the host line and of a start. -/
structure HostKit extends TableKit where
  free : ∀ {s t}, t.lawful = s.lawful → rel t s
  start : ∀ s, rel (State.clearWorking s) s
  flush : ∀ s p, rel (State.flushStation s p) s
  reply : ∀ s r, s.replyRoom = true → rel (State.formReply s r) s
  pump : ∀ s, rel (State.pumpTx s) s
  discard : ∀ s, rel (State.countDiscard s) s
  overrun : ∀ s : State, rel { s with overruns := min 65535 (s.overruns + 1) } s
  takeTop : ∀ (s : State) f rest, s.stack = f :: rest → rel { s with stack := rest } s
  beginWrite : ∀ (s : State) w, s.write = none → s.replyRoom = true → rel { s with write := some w } s
  endWrite : ∀ (s : State) w r, s.write = some w → rel (State.formReply { s with write := none } r) s

/-- The kit of a step from its two parts. -/
def HostKit.step (h : HostKit) : StepKit where
  toKit := h.kit
  free := h.free
  depart := h.depart
  status := h.statusAtTable
  enrol s p i pr _ := h.enrol s p i pr
  declare s p _ closed := h.edit s p _ fun ⟨_, hd⟩ => by rw [closed] at hd; cases hd
  disclaim s p := h.edit s p _ fun ⟨⟨_, hc⟩, _⟩ => nomatch hc
  remap := h.remapRequests
  start := h.start
  restore := h.restoreRecord
  flush := h.flush
  reply := h.reply
  pump := h.pump
  discard := h.discard
  overrun := h.overrun
  takeTop := h.takeTop
  beginWrite := h.beginWrite
  endWrite := h.endWrite

/-! ## The commands that wait -/

theorem State.pumpTx_pending (s : State) : s.pumpTx.pending = s.pending := by rw [State.pumpTx_changes]

/-- The commands that wait stand, as a kit. -/
def HostKit.pending : HostKit where
  rel t s := t.pending = s.pending
  refl _ := rfl
  after x y := x.trans y
  put _ _ _ _ := rfl
  output _ _ _ := rfl
  inForce _ _ _ := rfl
  item s p b := by rw [State.item_changes]; rfl
  push _ _ _ _ _ := rfl
  queue _ _ _ := rfl
  load _ _ _ := rfl
  directory _ _ := rfl
  rebuilds _ _ _ _ := rfl
  free := fun {s t} e => show t.lawful.pending = s.lawful.pending by rw [e]
  start _ := rfl
  flush s p := by rw [State.flushStation_changes]; rfl
  reply _ _ _ := rfl
  pump := State.pumpTx_pending
  discard _ := rfl
  overrun _ := rfl
  takeTop _ _ _ _ := rfl
  beginWrite _ _ _ _ := rfl
  endWrite _ _ _ _ := rfl

/-- The transmitter is not left idle over a waiting frame (R184). -/
theorem State.pumpTx_idle (s : State) (h : s.pumpTx.tx = none) : s.pumpTx.replies = [] ∧ s.pumpTx.notices = [] := by
  unfold State.pumpTx at h ⊢
  split at h
  · rename_i x hx
    rw [hx] at h
    cases h
  · split at h
    · cases h
    · split at h
      · cases h
      · exact ⟨‹_›, ‹_›⟩

/-- Settles O2: every command is an effect and the transmitter's look for a frame. -/
theorem everyCommandEnds : Obligations.EveryCommandEnds := fun i s =>
  ⟨(s.effect i).pumpTx, exec_eq_effect i s,
    (State.pumpTx_pending _).trans (HostKit.pending.step.effect s i), State.pumpTx_idle _⟩

/-! ## The exception stack and the buffers -/

theorem length_markBottom (l : List ExceptionFrame) : (markBottom l).length = l.length := by
  fun_induction markBottom l with
  | case1 => rfl
  | case2 => rfl
  | case3 f g rest ih => simpa using ih

theorem length_pushOnto (l : List ExceptionFrame) (f : ExceptionFrame) (h : l.length ≤ 8) :
    (pushOnto l f).length ≤ 8 := by
  unfold pushOnto
  have frames : Config.stackFrames = 8 := rfl
  split
  · simp only [List.length_cons]
    omega
  · rw [length_markBottom]
    simp only [List.length_cons, List.length_take]
    omega

theorem State.StackLaw.push {s : State} (h : s.StackLaw) (p : Post) (c : FindingClass) (d k : Nat) :
    (s.pushFrame p c d k).StackLaw := by
  obtain ⟨frames, low, high⟩ := h
  refine ⟨length_pushOnto _ _ frames, ?_⟩
  change 1 ≤ nextPushNumber s.nextPush ∧ nextPushNumber s.nextPush ≤ 65535
  unfold nextPushNumber
  split <;> omega

/-- The bounds of the exception stack and of the buffers. -/
def State.Bounded (s : State) : Prop := s.StackLaw ∧ s.BufferLaw

/-- The reply queue's bound with another reply queue and another write in flight (R179). -/
theorem State.BufferLaw.withReplies {s : State} (h : s.BufferLaw) {l : List Reply} {w : Option StoreWrite}
    (places : l.length + (if w.isSome then 1 else 0) ≤ 4) : State.BufferLaw { s with replies := l, write := w } :=
  ⟨places, h.2⟩

theorem State.replyRoom_iff (s : State) :
    s.replyRoom = true ↔ s.replies.length + (if s.write.isSome then 1 else 0) < 4 := decide_eq_true_iff

theorem State.BufferLaw.pump {s : State} (h : s.BufferLaw) : s.pumpTx.BufferLaw := by
  have ⟨places, count, nodup, items, notices, discards, overruns⟩ := h
  unfold State.pumpTx
  split
  · exact h
  · split
    · rename_i r rest hr
      refine ⟨?_, count, nodup, items, notices, discards, overruns⟩
      rw [hr, List.length_cons] at places
      dsimp only
      omega
    · split
      · rename_i n rest hn
        refine ⟨places, count, nodup, items, ?_, discards, overruns⟩
        rw [hn, List.length_cons] at notices
        exact (Nat.le_succ _).trans notices
      · exact h

theorem State.StackLaw.of_same {s t : State} (h : s.StackLaw) (hs : t.stack = s.stack) (hn : t.nextPush = s.nextPush) :
    t.StackLaw := by
  rw [State.StackLaw, hs, hn]
  exact h

theorem State.reset_bounded : State.reset.Bounded :=
  ⟨⟨by decide, by decide, by decide⟩, by decide, by decide, List.nodup_nil, nofun, by decide, by decide, by decide⟩

/-- The bounds are kept, as a kit. -/
def HostKit.bounds : HostKit where
  rel t s := s.Bounded → t.Bounded
  refl _ := id
  after x y := x ∘ y
  put _ _ _ _ := id
  output _ _ _ := id
  inForce _ _ _ := id
  item s p b := fun ⟨stack, buffers⟩ =>
    ⟨stack.of_same (s.item_stack p b) (s.item_nextPush p b), buffers.item p b⟩
  push s p c d k := fun ⟨stack, buffers⟩ => ⟨stack.push p c d k, buffers⟩
  queue _ _ _ := id
  load _ _ _ := id
  directory _ _ := id
  rebuilds _ _ _ _ := id
  free {s t} e := fun hs => by
    have lawful : t.lawful.Bounded := by
      rw [e]
      exact hs
    exact lawful
  start _ _ := State.reset_bounded
  flush s p := fun ⟨stack, buffers⟩ =>
    ⟨stack.of_same (by rw [State.flushStation_changes]; rfl) (by rw [State.flushStation_changes]; rfl),
      buffers.flushStation p⟩
  reply s r room := fun ⟨stack, buffers⟩ => ⟨stack, buffers.withReplies (w := s.write) (by
    have := s.replyRoom_iff.mp room
    simp only [List.length_append, List.length_singleton]
    omega)⟩
  pump s := fun ⟨stack, buffers⟩ =>
    ⟨stack.of_same (by rw [State.pumpTx_changes]) (by rw [State.pumpTx_changes]), buffers.pump⟩
  discard s := fun ⟨stack, replies, count, nodup, items, notices, _, overruns⟩ =>
    ⟨stack, replies, count, nodup, items, notices, min_le_left _ _, overruns⟩
  overrun s := fun ⟨stack, replies, count, nodup, items, notices, discards, _⟩ =>
    ⟨stack, replies, count, nodup, items, notices, discards, min_le_left _ _⟩
  takeTop s f rest hs := fun ⟨⟨frames, push⟩, buffers⟩ => by
    rw [hs, List.length_cons] at frames
    exact ⟨⟨(Nat.le_succ _).trans frames, push⟩, buffers⟩
  beginWrite s w none' room := fun ⟨stack, buffers⟩ => ⟨stack, buffers.withReplies (l := s.replies) (by
    have := s.replyRoom_iff.mp room
    rw [none'] at this
    simpa using this)⟩
  endWrite s w r hw := fun ⟨stack, buffers⟩ => ⟨stack, buffers.withReplies (by
    have := buffers.1
    rw [hw] at this
    simpa using this)⟩

/-- Settles O4: the bounds are a law that every command keeps. -/
theorem buffersStayBounded : Obligations.BuffersStayBounded := fun _ _ stack buffers e =>
  step_keeps State.Bounded HostKit.bounds.step (fun x => x) (fun _ _ => id) (fun _ => id) ⟨stack, buffers⟩ e

/-! ## Custody -/

theorem State.custodyLaw_iff (s : State) : s.CustodyLaw ↔ ∀ q, ¬ (s.trailer q).Breaches :=
  ⟨fun h q ⟨⟨tag, hc⟩, hd⟩ => h q tag hc hd, fun h q tag hc hd => h q ⟨⟨tag, hc⟩, hd⟩⟩

theorem State.CustodyLaw.of_records {s t : State} (e : t.records = s.records) (h : s.CustodyLaw) : t.CustodyLaw := by
  unfold State.CustodyLaw State.trailer at h ⊢
  rw [e]
  exact h

theorem State.CustodyLaw.put {s : State} (h : s.CustodyLaw) (p : Post) {r : TrailerRecord} (hr : ¬ r.Breaches) :
    (s.putTrailer p r).CustodyLaw := by
  rw [State.custodyLaw_iff] at h ⊢
  intro q
  by_cases hq : q = p
  · subst hq
    rw [State.trailer_putTrailer_self]
    exact fun b => hr ((TrailerRecord.SameKey.sealed r).breaches b)
  · rw [State.trailer_putTrailer_other s p q r hq]
    exact h q

/-- The law of R142 is kept, as a kit. -/
def HostKit.custody : HostKit where
  rel t s := s.CustodyLaw → t.CustodyLaw
  refl _ := id
  after x y := x ∘ y
  put s p r hr := fun law => law.put p fun b => by
    obtain ⟨q, hq⟩ := hr b
    exact s.custodyLaw_iff.mp law q hq
  output _ _ _ := id
  inForce _ _ _ := id
  item s p b := .of_records (s.item_records p b)
  push _ _ _ _ _ := id
  queue _ _ _ := id
  load _ _ _ := id
  directory _ _ := id
  rebuilds _ _ _ _ := id
  free := fun {s t} e => .of_records (show t.lawful.records = s.lawful.records by rw [e])
  start s := fun _ p tag hc => by
    have vacant : (s.clearWorking.trailer p) = .vacant := Vector.getElem_replicate p.isLt
    rw [vacant] at hc
    cases hc
  flush s p := .of_records (by rw [State.flushStation_changes]; rfl)
  reply _ _ _ := id
  pump s := .of_records (by rw [State.pumpTx_changes])
  discard _ := id
  overrun _ := id
  takeTop _ _ _ _ := id
  beginWrite _ _ _ _ := id
  endWrite _ _ _ _ := id

/-- Settles O5: the law of R142 is one that every command keeps. -/
theorem custodyStaysLawful : Obligations.CustodyStaysLawful := fun _ _ law e =>
  step_keeps State.CustodyLaw HostKit.custody.step (fun x => x) (fun _ _ => id) (fun _ => id) law e

end Sys2Proof.Machine


/-! # The unit directory (R25)

How each record event of chapter 2 changes the records' states and serials with the directory, as relations of states,
and the law of the directory under each of them; then the statement O7. -/

namespace Sys2Proof.Machine

/-! ## Looking up and inserting -/

section
variable {s : State} {u : Word32} {o : Post}

theorem State.mem_of_dirLookup (h : s.dirLookup u = some o) : (u, o) ∈ s.directory := by
  unfold State.dirLookup at h
  obtain ⟨e, he, rfl⟩ := Option.map_eq_some_iff.mp h
  have hu : e.1 = u := by simpa using List.find?_some he
  exact hu ▸ List.mem_of_find?_eq_some he

theorem State.ne_of_dirLookup_none (h : s.dirLookup u = none) : ∀ e ∈ s.directory, e.1 ≠ u := by
  simpa [State.dirLookup] using h

theorem State.dirLookup_eq_none (h : ∀ e ∈ s.directory, e.1 ≠ u) : s.dirLookup u = none := by
  simpa [State.dirLookup] using h

end

theorem mem_insertEntry {u : Word32} {p : Post} {l : List (Word32 × Post)} {e : Word32 × Post} :
    e ∈ insertEntry u p l ↔ e = (u, p) ∨ e ∈ l := by
  induction l with
  | nil => simp [insertEntry]
  | cons x xs ih =>
    unfold insertEntry
    split
    · simp
    · simp only [List.mem_cons, ih]
      tauto

theorem rising_insertEntry {u : Word32} {p : Post} {l : List (Word32 × Post)}
    (h : l.Pairwise fun a b => a.1.toNat < b.1.toNat) (fresh : ∀ e ∈ l, e.1 ≠ u) :
    (insertEntry u p l).Pairwise fun a b => a.1.toNat < b.1.toNat := by
  induction l with
  | nil => exact List.pairwise_singleton _ _
  | cons x xs ih =>
    obtain ⟨first, rest⟩ := List.pairwise_cons.mp h
    unfold insertEntry
    split
    · rename_i lt
      refine List.pairwise_cons.mpr ⟨List.forall_mem_cons.mpr ⟨lt, fun e he => ?_⟩, h⟩
      exact lt.trans (first e he)
    · rename_i nlt
      have ne : x.1.toNat ≠ u.toNat := fun e => fresh x List.mem_cons_self (BitVec.eq_of_toNat_eq e)
      refine List.pairwise_cons.mpr ⟨fun e he => ?_, ih rest fun e he => fresh e (List.mem_cons_of_mem _ he)⟩
      obtain rfl | old := mem_insertEntry.mp he
      · dsimp only
        omega
      · exact first e old

/-! ## Events of the table, as the directory sees them -/

/-- Every record but those of some posts keeps its state and its serial. -/
def KeepsIdentity (except : Post → Prop) (s t : State) : Prop :=
  ∀ q, ¬ except q → (t.trailer q).state = (s.trailer q).state ∧ (t.trailer q).serial = (s.trailer q).serial

theorem SameIdentity.keeps {s t : State} (h : SameIdentity s t) (except : Post → Prop) : KeepsIdentity except s t :=
  fun q _ => ⟨h.state q, h.serial q⟩

theorem KeepsIdentity.trans {except : Post → Prop} {s t u : State} (x : KeepsIdentity except s t)
    (y : KeepsIdentity except t u) : KeepsIdentity except s u :=
  fun q hq => ⟨(y q hq).1.trans (x q hq).1, (y q hq).2.trans (x q hq).2⟩

theorem KeepsIdentity.put (s : State) {p : Post} (r : TrailerRecord) {except : Post → Prop} (hp : except p) :
    KeepsIdentity except s (s.putTrailer p r) := fun q hq => by
  rw [State.trailer_putTrailer_other s p q r fun e => hq (e ▸ hp)]
  exact ⟨rfl, rfl⟩

/-- The directory stands, and so do the listed records with their serials. -/
structure SameListing (s t : State) : Prop where
  directory : t.directory = s.directory
  listed : ∀ q, (t.trailer q).state.listed = (s.trailer q).state.listed
  serial : ∀ q, (s.trailer q).state.listed = true → (t.trailer q).serial = (s.trailer q).serial

/-- The record of a post has left the table (R30). -/
structure Vacated (p : Post) (s t : State) : Prop where
  directory : t.directory = s.directory.filter fun e => decide (e.2 ≠ p)
  vacant : (t.trailer p).state = .vacant
  others : KeepsIdentity (· = p) s t

/-- A record has come to the table with its entry (R33). -/
structure Inserted (u : Word32) (p : Post) (s t : State) : Prop where
  directory : t.directory = insertEntry u p s.directory
  listed : (t.trailer p).state.listed = true
  serial : (t.trailer p).serial = u
  others : KeepsIdentity (· = p) s t

/-- A record has gone from one post to another with its entry (R36). -/
structure Repointed (u : Word32) (o p : Post) (s t : State) : Prop where
  directory : t.directory = s.directory.map fun e => if e.1 = u then (e.1, p) else e
  vacant : (t.trailer o).state = .vacant
  listed : (t.trailer p).state.listed = true
  serial : (t.trailer p).serial = u
  others : KeepsIdentity (fun q => q = o ∨ q = p) s t

theorem SameIdentity.listing {s t : State} (h : SameIdentity s t) : SameListing s t :=
  ⟨h.directory, fun q => by rw [h.state q], fun q _ => h.serial q⟩

namespace State.DirectoryLaw

variable {s t : State} (law : s.DirectoryLaw)
include law

theorem of_listing (h : SameListing s t) : t.DirectoryLaw where
  rising := by rw [h.directory]; exact law.rising
  sound e he := by
    rw [h.directory] at he
    obtain ⟨listed, serial⟩ := law.sound e he
    exact ⟨(h.listed _).trans listed, (h.serial _ listed).trans serial⟩
  complete p hp := by
    rw [h.listed] at hp
    rw [h.directory, h.serial p hp]
    exact law.complete p hp

theorem of_identity (h : SameIdentity s t) : t.DirectoryLaw := law.of_listing h.listing

/-- No entry is of a post whose record is not listed. -/
theorem entry_ne {p : Post} (h : (s.trailer p).state.listed = false) : ∀ e ∈ s.directory, e.2 ≠ p := by
  rintro e he rfl
  rw [(law.sound e he).1] at h
  cases h

/-- A serial has one entry. -/
theorem unique {u : Word32} {o q : Post} (ho : (u, o) ∈ s.directory) (hq : (u, q) ∈ s.directory) : o = q := by
  have apart : (s.directory.map (·.1)).Nodup :=
    List.pairwise_map.mpr (law.rising.imp fun {a b} lt e => by
      rw [e] at lt
      exact absurd lt (lt_irrefl _))
  exact congrArg Prod.snd (List.inj_on_of_nodup_map apart ho hq rfl)

theorem vacated {p : Post} (h : Vacated p s t) : t.DirectoryLaw where
  rising := by rw [h.directory]; exact law.rising.filter _
  sound e he := by
    rw [h.directory, List.mem_filter, decide_eq_true_eq] at he
    obtain ⟨state, serial⟩ := h.others e.2 he.2
    rw [state, serial]
    exact law.sound e he.1
  complete q hq := by
    by_cases hqp : q = p
    · subst hqp
      rw [h.vacant] at hq
      cases hq
    · obtain ⟨state, serial⟩ := h.others q hqp
      rw [state] at hq
      rw [h.directory, serial, List.mem_filter, decide_eq_true_eq]
      exact ⟨law.complete q hq, hqp⟩

theorem inserted {u : Word32} {p : Post} (h : Inserted u p s t) (free : (s.trailer p).state.listed = false)
    (fresh : ∀ e ∈ s.directory, e.1 ≠ u) : t.DirectoryLaw where
  rising := by rw [h.directory]; exact rising_insertEntry law.rising fresh
  sound e he := by
    rw [h.directory] at he
    obtain rfl | old := mem_insertEntry.mp he
    · exact ⟨h.listed, h.serial⟩
    · obtain ⟨state, serial⟩ := h.others e.2 (law.entry_ne free e old)
      rw [state, serial]
      exact law.sound e old
  complete q hq := by
    rw [h.directory, mem_insertEntry]
    by_cases hqp : q = p
    · subst hqp
      rw [h.serial]
      exact .inl rfl
    · obtain ⟨state, serial⟩ := h.others q hqp
      rw [state] at hq
      rw [serial]
      exact .inr (law.complete q hq)

theorem repointed {u : Word32} {o p : Post} (h : Repointed u o p s t) (free : (s.trailer p).state.listed = false)
    (owner : (u, o) ∈ s.directory) : t.DirectoryLaw where
  rising := by
    rw [h.directory, List.pairwise_map]
    refine law.rising.imp fun {a b} lt => ?_
    split <;> split <;> exact lt
  sound e he := by
    rw [h.directory] at he
    obtain ⟨x, hx, rfl⟩ := List.mem_map.mp he
    by_cases hxu : x.1 = u
    · rw [if_pos hxu]
      exact ⟨h.listed, h.serial.trans hxu.symm⟩
    · rw [if_neg hxu]
      have notOwner : x.2 ≠ o := by
        rintro rfl
        exact hxu ((law.sound x hx).2.symm.trans (law.sound _ owner).2)
      obtain ⟨state, serial⟩ := h.others x.2 (not_or.mpr ⟨notOwner, law.entry_ne free x hx⟩)
      rw [state, serial]
      exact law.sound x hx
  complete q hq := by
    rw [h.directory]
    by_cases hqp : q = p
    · subst hqp
      rw [h.serial]
      exact List.mem_map.mpr ⟨(u, o), owner, if_pos rfl⟩
    · by_cases hqo : q = o
      · subst hqo
        rw [h.vacant] at hq
        cases hq
      · obtain ⟨state, serial⟩ := h.others q (not_or.mpr ⟨hqo, hqp⟩)
        rw [state] at hq
        rw [serial]
        have entry := law.complete q hq
        refine List.mem_map.mpr ⟨_, entry, if_neg fun e => hqo ?_⟩
        dsimp only at e
        rw [e] at entry
        exact law.unique entry owner

end State.DirectoryLaw

/-! ## Every record event -/

section
variable (s : State) (p : Post)

theorem SameIdentity.trans {s t u : State} (x : SameIdentity s t) (y : SameIdentity t u) : SameIdentity s u :=
  Kit.identity.after y x

theorem identity_item (b : ItemBody) : SameIdentity s (s.item p b) := Kit.identity.item s p b trivial

theorem identity_edit (f : TrailerRecord → TrailerRecord) (hst : (f (s.trailer p)).state = (s.trailer p).state)
    (hse : (f (s.trailer p)).serial = (s.trailer p).serial) : SameIdentity s (s.editTrailer p f) where
  directory := State.editTrailer_directory s p f
  state := State.field_editTrailer s p f TrailerRecord.state (fun _ => rfl) hst
  serial := State.field_editTrailer s p f TrailerRecord.serial (fun _ => rfl) hse

theorem identity_produce (c : FindingClass) (d k : Nat) : SameIdentity s (s.produce p c d k) :=
  Kit.identity.produce s trivial c d k

theorem identity_clearFinding (c : FindingClass) (b : Bool) : SameIdentity s (s.clearFinding p c b) :=
  Kit.identity.clearFinding s trivial c b

theorem identity_settleActions : SameIdentity s (s.settleActions p) := Kit.identity.settleActions s trivial

theorem identity_withdrawActions : SameIdentity s (s.withdrawActions p) := Kit.identity.withdrawActions s trivial

theorem identity_emptySets : SameIdentity s (s.emptySets p) := Kit.identity.emptySets s trivial

theorem identity_cutShort (c : AbortCause) : SameIdentity s (s.cutShort p c) :=
  SameIdentity.trans (Kit.identity.endRun s p _ _ trivial) (Kit.identity.unfile _ p trivial)

theorem identity_recordRebuild : SameIdentity s s.recordRebuild := by
  unfold State.recordRebuild
  dsimp only
  split
  · split <;> exact .of_same rfl rfl
  · exact .of_same rfl rfl

theorem Vacated.of_parts {s u v t : State} {p : Post} (before : SameIdentity s u)
    (removed : SameIdentity (u.dirRemove p) v) (after : SameIdentity (v.putTrailer p .vacant) t) : Vacated p s t where
  directory := by
    rw [after.directory]
    change v.directory = _
    rw [removed.directory, ← before.directory]
    rfl
  vacant := by
    rw [after.state, State.trailer_putTrailer_self]
    rfl
  others := ((before.keeps _).trans (removed.keeps _)).trans ((KeepsIdentity.put v _ (except := (· = p)) rfl).trans
    (after.keeps _))

theorem vacated_depart : Vacated p s (s.depart p) :=
  .of_parts (((identity_cutShort s p .departure).trans (identity_emptySets _ p)).trans
    (identity_item _ p _)) (Kit.identity.refl _) (Kit.identity.refl _)

theorem vacated_rebuildAway : Vacated p s (s.rebuildAway p) :=
  .of_parts (identity_cutShort s p .rebuild) (identity_emptySets _ p) (identity_recordRebuild _)

/-- An edit of a listed record that leaves it listed with its serial. -/
theorem SameListing.edit (f : TrailerRecord → TrailerRecord) (hl : (s.trailer p).state.listed = true)
    (hf : (f (s.trailer p)).state.listed = true) (hu : (f (s.trailer p)).serial = (s.trailer p).serial) :
    SameListing s (s.editTrailer p f) where
  directory := State.editTrailer_directory s p f
  listed q := State.field_editTrailer s p f (fun t => t.state.listed) (fun _ => rfl) (hf.trans hl.symm) q
  serial q _ := State.field_editTrailer s p f TrailerRecord.serial (fun _ => rfl) hu q

theorem SameListing.trans {s t u : State} (x : SameListing s t) (y : SameListing t u) : SameListing s u where
  directory := y.directory.trans x.directory
  listed q := (y.listed q).trans (x.listed q)
  serial q hq := (y.serial q ((x.listed q).trans hq)).trans (x.serial q hq)

theorem identity_announceEnrolment (i : ProfileId) : SameIdentity s (s.announceEnrolment p i) :=
  (identity_item s p (.enrolled i)).trans (identity_clearFinding _ p .unknownModel false)

section
variable (hl : (s.trailer p).state.listed = true)
include hl

theorem listing_enrol (i : ProfileId) (pr : Profile) : SameListing s (s.enrol p i pr) :=
  (SameListing.edit s p (fun t => t.enrolled i pr) hl rfl rfl).trans (identity_announceEnrolment _ p i).listing

theorem listing_bindKeeping (i : ProfileId) : SameListing s (s.bindKeeping p i) :=
  (SameListing.edit s p (fun t => { t with state := .enrolled, profile := some i }) hl rfl rfl).trans
    (identity_announceEnrolment _ p i).listing

theorem listing_tryMatch (b : Bool) : SameListing s (s.tryMatch p b) := by
  unfold State.tryMatch
  split
  · split
    · exact listing_bindKeeping s p hl _
    · exact listing_enrol s p hl _ _
  · exact (identity_produce s p _ _ _).listing

theorem listing_settleBinding : SameListing s (s.settleBinding p).1 := by
  unfold State.settleBinding
  split
  · exact SameListing.edit s p (fun t => { t with state := .enrolled }) hl rfl rfl
  · exact SameListing.edit s p (fun t => { t with state := .arriving, profile := none }) hl rfl rfl

end

theorem Inserted.listing {s t v : State} {u : Word32} {p : Post} (x : Inserted u p s t) (y : SameIdentity t v) :
    Inserted u p s v where
  directory := y.directory.trans x.directory
  listed := by rw [y.state]; exact x.listed
  serial := (y.serial p).trans x.serial
  others := x.others.trans (y.keeps _)

/-- A listed record given whole with its entry. -/
theorem Inserted.put {r : TrailerRecord} (hr : r.state.listed = true) :
    Inserted r.serial p s ((s.putTrailer p r).dirInsert r.serial p) where
  directory := rfl
  listed := by
    change ((s.putTrailer p r).trailer p).state.listed = true
    rw [State.trailer_putTrailer_self]
    exact hr
  serial := by
    change ((s.putTrailer p r).trailer p).serial = r.serial
    rw [State.trailer_putTrailer_self]
    rfl
  others := KeepsIdentity.put s r rfl

end

theorem TrailerRecord.rebuilt_state_listed (u : Word32) (m : Word16) (now : Time) (b : Option (ProfileId × Profile)) :
    (TrailerRecord.rebuilt u m now b).state.listed = true := by
  unfold TrailerRecord.rebuilt
  split <;> rfl

theorem TrailerRecord.rebuilt_serial (u : Word32) (m : Word16) (now : Time) (b : Option (ProfileId × Profile)) :
    (TrailerRecord.rebuilt u m now b).serial = u := by
  unfold TrailerRecord.rebuilt
  split <;> rfl

section
variable (s : State) (u : Word32) (p q : Post)

@[simp] theorem State.dirInsert_trailer : (s.dirInsert u p).trailer q = s.trailer q := rfl
@[simp] theorem State.dirRemove_trailer : (s.dirRemove p).trailer q = s.trailer q := rfl
@[simp] theorem State.dirRepoint_trailer : (s.dirRepoint u p).trailer q = s.trailer q := rfl

theorem State.dirRepoint_directory :
    (s.dirRepoint u p).directory = s.directory.map fun e => if e.1 = u then (e.1, p) else e := rfl

end

/-! ## A move (R36) in its parts -/

/-- Steps 1 to 3 of a move: the owner's run and request are gone and the record stands at the arriving post. -/
def State.placedCarried (s : State) (owner p : Post) (rep : StatusReport) : State :=
  ((s.cutShort owner .move).withdrawActions p).putTrailer p
    (((s.cutShort owner .move).trailer owner).carried rep.model s.now)

/-- The record's actions settled and LINK-LOST cleared at the arriving post. -/
def State.actingCarried (s : State) (owner p : Post) (rep : StatusReport) : State :=
  ((s.placedCarried owner p rep).settleActions p).clearFinding p .linkLost false

/-- Step 4 of a move: the owner's record is vacant and the entry is the arriving post's. -/
def State.leftBehind (s : State) (owner p : Post) (rep : StatusReport) : State :=
  (((s.actingCarried owner p rep).putTrailer owner .vacant).withdrawActions owner).dirRepoint rep.serial p

/-- A move goes on with the binding and ends with MOVED (R36, steps 5 and 6). -/
theorem State.carry_eq (s : State) (owner p : Post) (rep : StatusReport) :
    s.carry owner p rep
      = (if ((s.leftBehind owner p rep).settleBinding p).2 then ((s.leftBehind owner p rep).settleBinding p).1
          else ((s.leftBehind owner p rep).settleBinding p).1.tryMatch p true).item p (.moved owner p) := rfl

theorem identity_actingCarried (s : State) (o p : Post) (rep : StatusReport) :
    SameIdentity (s.placedCarried o p rep) (s.actingCarried o p rep) :=
  (identity_settleActions _ p).trans (identity_clearFinding _ p .linkLost false)

theorem keeps_placedCarried (s : State) (o p : Post) (rep : StatusReport) :
    KeepsIdentity (fun q => q = o ∨ q = p) s (s.placedCarried o p rep) :=
  (((identity_cutShort s o .move).trans (identity_withdrawActions _ p)).keeps _).trans
    (KeepsIdentity.put _ _ (.inr rfl))

theorem repointed_leftBehind (s : State) (o p : Post) (rep : StatusReport) (serial : (s.trailer o).serial = rep.serial)
    (apart : o ≠ p) : Repointed rep.serial o p s (s.leftBehind o p rep) := by
  have cut := identity_cutShort s o .move
  have acting := identity_actingCarried s o p rep
  have ended := identity_withdrawActions ((s.actingCarried o p rep).putTrailer o .vacant) o
  have carried : ((s.placedCarried o p rep).trailer p).state = .arriving ∧
      ((s.placedCarried o p rep).trailer p).serial = rep.serial := by
    unfold State.placedCarried
    rw [State.trailer_putTrailer_self]
    exact ⟨rfl, (cut.serial o).trans serial⟩
  have moved : ((s.leftBehind o p rep).trailer p).state = .arriving ∧
      ((s.leftBehind o p rep).trailer p).serial = rep.serial := by
    unfold State.leftBehind
    rw [State.dirRepoint_trailer, ended.state, ended.serial, State.trailer_putTrailer_other _ _ _ _ apart.symm, acting.state, acting.serial]
    exact carried
  refine ⟨?_, ?_, by rw [moved.1]; rfl, moved.2, ?_⟩
  · unfold State.leftBehind
    rw [State.dirRepoint_directory, ended.directory, State.putTrailer_directory, acting.directory]
    unfold State.placedCarried
    rw [State.putTrailer_directory, (identity_withdrawActions _ p).directory, cut.directory]
  · unfold State.leftBehind
    rw [State.dirRepoint_trailer, ended.state, State.trailer_putTrailer_self]
    rfl
  · have put : KeepsIdentity (fun q => q = o ∨ q = p) (s.actingCarried o p rep)
        ((s.actingCarried o p rep).putTrailer o .vacant) := KeepsIdentity.put _ _ (.inl rfl)
    have emptied := ((keeps_placedCarried s o p rep).trans (acting.keeps _)).trans (put.trans (ended.keeps _))
    intro q hq
    rw [State.leftBehind, State.dirRepoint_trailer]
    exact emptied q hq

namespace State.DirectoryLaw

variable {s : State} (law : s.DirectoryLaw) {p : Post}
include law

theorem depart (p : Post) : (s.depart p).DirectoryLaw := law.vacated (vacated_depart s p)

/-- The law of an Inserted record goes on through a match tried on it. -/
theorem tryMatch (hl : (s.trailer p).state.listed = true) (b : Bool) : (s.tryMatch p b).DirectoryLaw :=
  law.of_listing (listing_tryMatch s p hl b)

section
variable (free : (s.trailer p).state.listed = false)
include free

theorem hold (o : Post) (rep : StatusReport) : (s.hold o p rep).DirectoryLaw := by
  have put : SameListing s (s.putTrailer p
      { TrailerRecord.fresh rep.serial rep.model s.now with state := .held }) := by
    have self := s.trailer_putTrailer_self p { TrailerRecord.fresh rep.serial rep.model s.now with state := .held }
    refine ⟨rfl, fun q => ?_, fun q hq => ?_⟩
    · by_cases hqp : q = p
      · subst hqp
        rw [self, free]
        rfl
      · rw [State.trailer_putTrailer_other s p q _ hqp]
    · rw [State.trailer_putTrailer_other s p q]
      rintro rfl
      rw [free] at hq
      cases hq
  exact (law.of_listing put).of_identity (identity_produce _ p .duplicateUnit o.val 0)

variable {rep : StatusReport} (fresh : ∀ e ∈ s.directory, e.1 ≠ rep.serial)
include fresh

theorem arriveRebuilt : (s.arriveRebuilt p rep).DirectoryLaw := by
  have placed := Inserted.put s p (TrailerRecord.rebuilt_state_listed rep.serial rep.model s.now (s.matching rep.model))
  rw [TrailerRecord.rebuilt_serial] at placed
  unfold State.arriveRebuilt
  dsimp only
  split
  · exact law.inserted (placed.listing (identity_produce _ p _ _ _)) free fresh
  · exact law.inserted placed free fresh

theorem arriveFresh {t : State} (h : Inserted rep.serial p s t) (b : Bool) : (t.tryMatch p b).DirectoryLaw :=
  (law.inserted h free fresh).tryMatch h.listed b

theorem arriveUnknown : (s.arriveUnknown p rep).DirectoryLaw :=
  law.arriveFresh free fresh ((Inserted.put s p (r := .fresh rep.serial rep.model s.now) rfl).listing
    (identity_item _ p (.arrived rep.serial rep.model))) false

end

section
variable (free : (s.trailer p).state.listed = false) {rep : StatusReport} {o : Post}
  (owner : (rep.serial, o) ∈ s.directory)
include free owner

theorem carry : (s.carry o p rep).DirectoryLaw := by
  have left := repointed_leftBehind s o p rep (law.sound _ owner).2 (law.entry_ne free _ owner)
  have leftLaw := law.repointed left free owner
  have bound := listing_settleBinding (s.leftBehind o p rep) p left.listed
  have settled := leftLaw.of_listing bound
  rw [State.carry_eq]
  refine State.DirectoryLaw.of_identity ?_ (identity_item _ p (.moved o p))
  split
  · exact settled
  · exact settled.tryMatch ((bound.listed p).trans left.listed) true

end

end State.DirectoryLaw

/-! ## A status at the table -/

section
variable {a : Arrival} (law : a.s.DirectoryLaw) {p : Post} (rep : StatusReport)
include law

theorem DirectoryLaw.move (free : (a.s.trailer p).state.listed = false) {o : Post}
    (owner : (rep.serial, o) ∈ a.s.directory) : (a.move o p rep).s.DirectoryLaw := by
  unfold Arrival.move
  dsimp only
  split
  · dsimp only
    exact law.carry free owner
  · dsimp only
    have gone := vacated_rebuildAway a.s o
    have apart : p ≠ o := (law.entry_ne free _ owner).symm
    have emptied := identity_emptySets (a.s.rebuildAway o) p
    refine ((law.vacated gone).of_identity emptied).arriveRebuilt ?_ ?_
    · rw [emptied.state, (gone.others p apart).1]
      exact free
    · intro e he same
      rw [emptied.directory, gone.directory, List.mem_filter, decide_eq_true_eq] at he
      exact he.2 (law.unique (u := rep.serial) (same ▸ he.1) owner)

theorem DirectoryLaw.arrive (free : (a.s.trailer p).state.listed = false) : (a.arrive p rep).s.DirectoryLaw := by
  unfold Arrival.arrive
  split
  · split
    · exact DirectoryLaw.move law rep free (State.mem_of_dirLookup ‹_›)
    · exact law.hold free _ _
  · have fresh := State.ne_of_dirLookup_none ‹_›
    unfold Arrival.on
    dsimp only
    split
    · exact law.arriveRebuilt free fresh
    · exact law.arriveUnknown free fresh

theorem DirectoryLaw.retryHeld (held : (a.s.trailer p).state = .held) : (a.retryHeld p rep).s.DirectoryLaw := by
  have free : (a.s.trailer p).state.listed = false := by rw [held]; rfl
  unfold Arrival.retryHeld
  split
  · have cleared := ((identity_item a.s p (.arrived rep.serial rep.model)).trans
      (identity_clearFinding _ p .duplicateUnit false)).trans (identity_emptySets _ p)
    have fresh := State.ne_of_dirLookup_none ‹_›
    unfold Arrival.on
    dsimp only
    refine (law.of_identity cleared).arriveFresh (rep := rep) ?_ ?_
      (Inserted.put _ p (r := .fresh rep.serial rep.model a.s.now) rfl) false
    · rw [cleared.state]
      exact free
    · rw [cleared.directory]
      exact fresh
  · rename_i o ho
    split
    · have cleared := identity_clearFinding a.s p .duplicateUnit false
      unfold Arrival.on
      refine DirectoryLaw.move (law.of_identity cleared) rep ?_ (o := o) ?_
      · dsimp only
        rw [cleared.state]
        exact free
      · dsimp only
        rw [cleared.directory]
        exact State.mem_of_dirLookup ho
    · exact law

theorem DirectoryLaw.same : (a.same p rep).s.DirectoryLaw := by
  unfold Arrival.same
  split
  · exact law
  · unfold Arrival.on
    dsimp only
    exact (law.of_identity (identity_edit a.s p _ rfl rfl)).of_identity
      (Kit.identity.clearLinkLost _ trivial 2)
  · rename_i arriving
    unfold Arrival.on
    dsimp only
    have edited := identity_edit a.s p
      (fun t => { t with model := if rep.model = 0 then t.model else rep.model }) rfl rfl
    refine (law.of_identity edited).tryMatch ?_ false
    rw [edited.state, arriving]
    rfl
  · exact DirectoryLaw.retryHeld law rep ‹_›
  · rename_i restored
    have edited := identity_edit a.s p (fun t => { t with model := rep.model }) rfl rfl
    have listed : ((a.s.editTrailer p fun t => { t with model := rep.model }).trailer p).state.listed = true := by
      rw [edited.state, restored]
      rfl
    have bound := listing_settleBinding _ p listed
    have settled := (law.of_identity edited).of_listing bound
    unfold Arrival.on
    dsimp only
    split
    · split
      · exact settled.of_identity (identity_item _ p _)
      · exact settled
    · exact settled.tryMatch ((bound.listed p).trans listed) true

theorem DirectoryLaw.lifecycle : (a.lifecycle p rep).s.DirectoryLaw := by
  have reported : (if a.rebuilt.isSome then a.on fun s => s.item p (.departed 0) else a).s.DirectoryLaw := by
    split
    · exact law.of_identity (identity_item a.s p (.departed 0))
    · exact law
  unfold Arrival.lifecycle
  dsimp only
  split
  · split
    · exact law.depart p
    · exact reported
  · split
    · have counted := identity_edit a.s p
        (fun t => { t with unitAbsent := min 3 ((a.s.trailer p).unitAbsent + 1) }) rfl rfl
      unfold Arrival.on State.countAbsent
      dsimp only
      split
      · exact (law.of_identity counted).of_identity (identity_produce _ p _ _ _)
      · exact law.of_identity counted
    · exact reported
  · split
    · rename_i vacant
      exact DirectoryLaw.arrive law rep (by rw [vacant]; rfl)
    · split
      · exact DirectoryLaw.same law rep
      · refine DirectoryLaw.arrive (a := { a with s := a.s.depart p, before := _ }) (law.depart p) rep ?_
        rw [(vacated_depart a.s p).vacant]
        rfl

end

theorem DirectoryLaw.verifyAt {s : State} (law : s.DirectoryLaw) (p : Post) : (s.verifyAt p).s.DirectoryLaw := by
  unfold State.verifyAt
  dsimp only
  split
  · exact law
  · split
    · rename_i vacant
      have put : SameListing s (s.putTrailer p .vacant) := by
        refine ⟨rfl, fun q => ?_, fun q hq => ?_⟩
        · by_cases hqp : q = p
          · subst hqp
            rw [State.trailer_putTrailer_self, vacant]
            rfl
          · rw [State.trailer_putTrailer_other s p q _ hqp]
        · rw [State.trailer_putTrailer_other s p q]
          rintro rfl
          rw [vacant] at hq
          cases hq
      dsimp only
      exact (law.of_listing put).of_identity (identity_recordRebuild _)
    · dsimp only
      exact law.vacated (vacated_rebuildAway s p)

theorem DirectoryLaw.statusAtTable {s : State} (law : s.DirectoryLaw) (p : Post) (rep : StatusReport) (b : Bool) :
    (s.statusAtTable p rep b).DirectoryLaw := by
  have stamped : (s.stamped p rep).s.DirectoryLaw := by
    refine (DirectoryLaw.lifecycle (DirectoryLaw.verifyAt law p) (p := p) rep).of_identity ?_
    change SameIdentity _ (State.stampStatus _ p)
    unfold State.stampStatus
    split
    · exact Kit.identity.refl _
    · exact identity_edit _ p _ rfl rfl
  have handled : ((s.stamped p rep).handled p rep b).DirectoryLaw := by
    unfold Arrival.handled
    split
    · rename_i enrolled
      exact stamped.of_identity (Kit.identity.evaluate trivial _ rep b enrolled.1)
    · exact stamped
  rw [State.statusAtTable_eq]
  split
  · split
    · exact handled
    · exact handled.of_identity (identity_produce _ p _ _ _)
  · exact handled

theorem DirectoryLaw.restoreRecord {s : State} (law : s.DirectoryLaw) (v : Saved) : (s.restoreRecord v).DirectoryLaw := by
  unfold State.restoreRecord
  dsimp only
  split
  · exact law
  · rename_i taken
    simp only [Bool.or_eq_true, not_or, Bool.not_eq_true, Option.isSome_eq_false_iff, Option.isNone_iff_eq_none,
      decide_eq_true_eq, not_not] at taken
    obtain ⟨⟨-, fresh⟩, vacant⟩ := taken
    refine State.DirectoryLaw.of_identity (law.inserted
      (Inserted.put s v.post (r := v.record s.now s.config.hp) rfl) ?_ (State.ne_of_dirLookup_none fresh))
      (identity_settleActions _ _)
    rw [vacant]
    rfl

theorem State.DirectoryLaw.of_empty {s : State} (records : ∀ p, (s.trailer p).state = .vacant) (directory : s.directory = []) :
    s.DirectoryLaw where
  rising := by rw [directory]; exact List.Pairwise.nil
  sound e he := by rw [directory] at he; cases he
  complete p hp := by rw [records p] at hp; cases hp

/-! ## Every step -/

/-- A loose kit whose relation gives another preorder is a loose kit of that. -/
def LooseKit.weaken (h : LooseKit) (rel : State → State → Prop) (refl : ∀ s, rel s s)
    (after : ∀ {a b c}, rel a b → rel b c → rel a c) (of : ∀ {t s}, h.rel t s → rel t s) : LooseKit where
  rel := rel
  refl := refl
  after := after
  edit s p f x y z := of (h.edit s p f x y z)
  output s p o := of (h.output s p o)
  inForce s p a := of (h.inForce s p a)
  item s p b := of (h.item s p b)
  push s p c d k := of (h.push s p c d k)
  queue s q l := of (h.queue s q l)
  load s q n := of (h.load s q n)

/-- The law of the directory, as the kit of an evaluation. -/
def LooseKit.directory : LooseKit :=
  LooseKit.identity.weaken (fun t s => s.DirectoryLaw → t.DirectoryLaw) (fun _ => id) (fun x y => x ∘ y)
    fun x law => law.of_identity x

/-- The law of the directory is kept, as a kit. -/
def StepKit.directory : StepKit where
  toKit := LooseKit.directory.kit
  free := fun {s t} e law => law.of_identity
    (.of_same (show t.lawful.directory = s.lawful.directory by rw [e]) (show t.lawful.records = s.lawful.records by rw [e]))
  depart _ p law := law.depart p
  status _ p rep b law := DirectoryLaw.statusAtTable law p rep b
  enrol s p i pr arriving law := law.of_listing (listing_enrol s p (by rw [arriving]; rfl) i pr)
  declare s p _ _ law := law.of_listing
    ⟨State.editTrailer_directory s p _, State.field_editTrailer s p _ (fun t => t.state.listed) (fun _ => rfl) rfl,
      fun q _ => State.field_editTrailer s p _ TrailerRecord.serial (fun _ => rfl) rfl q⟩
  disclaim s p law := law.of_listing
    ⟨State.editTrailer_directory s p _, State.field_editTrailer s p _ (fun t => t.state.listed) (fun _ => rfl) rfl,
      fun q _ => State.field_editTrailer s p _ TrailerRecord.serial (fun _ => rfl) rfl q⟩
  remap s := by
    have moved := LooseKit.directory.kit.forEach s s.movedRequests
      (fun s' m => (s'.removeRequest m.2.post).joinQueue m.1 m.2) fun s m _ =>
        (LooseKit.directory.joinQueue _ m.1 _).trans (LooseKit.directory.kit.unfile s m.2.post trivial)
    exact (LooseKit.directory.kit.forEach _ _ _ fun s q _ => LooseKit.directory.kit.walk s q).trans moved
  start s _ := .of_empty (fun p => congrArg TrailerRecord.state (Vector.getElem_replicate p.isLt)) rfl
  restore _ v law := DirectoryLaw.restoreRecord law v
  flush s p law := law.of_identity (.of_same (by rw [State.flushStation_changes]; rfl)
    (by rw [State.flushStation_changes]; rfl))
  reply _ _ _ law := law.of_identity (.of_same rfl rfl)
  pump s law := law.of_identity (.of_same (by rw [State.pumpTx_changes]) (by rw [State.pumpTx_changes]))
  discard _ law := law.of_identity (.of_same rfl rfl)
  overrun _ law := law.of_identity (.of_same rfl rfl)
  takeTop _ _ _ _ law := law.of_identity (.of_same rfl rfl)
  beginWrite _ _ _ _ law := law.of_identity (.of_same rfl rfl)
  endWrite _ _ _ _ law := law.of_identity (.of_same rfl rfl)

/-- Settles O7: every record event keeps the directory in agreement with the records. -/
theorem directoryStaysLawful : Obligations.DirectoryStaysLawful := fun _ _ law e =>
  step_keeps State.DirectoryLaw StepKit.directory (fun x => x) (fun _ _ law => law.of_identity (.of_same rfl rfl))
    (fun _ law => law.of_identity (.of_same rfl rfl)) law e

end Sys2Proof.Machine


/-! # Requests and queues (R74, R75, R81, R82, R84, R85)

The order of a queue, what a trailer's request is, and what the operations on queues and the walk do to the requests of
every queue. -/

namespace Sys2Proof.Machine

/-! ## The one order of a queue (R75) -/

theorem Request.before_iff (a b : Request) : a.before b = true ↔
    a.cls.code < b.cls.code ∨ (a.cls.code = b.cls.code ∧
      (a.filed < b.filed ∨ (a.filed = b.filed ∧ a.post.val < b.post.val))) := by
  simp [Request.before]

theorem Request.before_trans {a b c : Request} (x : a.before b = true) (y : b.before c = true) : a.before c = true := by
  rw [Request.before_iff] at *
  unfold Time at *
  omega

/-- Of two requests of different posts one stands before the other. -/
theorem Request.before_total {a b : Request} (h : a.post ≠ b.post) (nb : ¬ a.before b = true) : b.before a = true := by
  have apart : a.post.val ≠ b.post.val := fun e => h (Fin.ext e)
  rw [Request.before_iff] at *
  unfold Time at *
  omega

theorem mem_insertRequest {r x : Request} {l : List Request} : x ∈ insertRequest r l ↔ x = r ∨ x ∈ l := by
  induction l with
  | nil => simp [insertRequest]
  | cons y ys ih =>
    unfold insertRequest
    split
    · simp
    · simp only [List.mem_cons, ih]
      tauto

theorem insertRequest_perm (r : Request) (l : List Request) : (insertRequest r l).Perm (r :: l) := by
  induction l with
  | nil => exact .refl _
  | cons y ys ih =>
    unfold insertRequest
    split
    · exact .refl _
    · exact (ih.cons y).trans (.swap r y ys)

theorem ordered_insertRequest {r : Request} {l : List Request} (h : ordered l) (apart : ∀ x ∈ l, x.post ≠ r.post) :
    ordered (insertRequest r l) := by
  induction l with
  | nil => exact List.pairwise_singleton _ _
  | cons y ys ih =>
    obtain ⟨first, rest⟩ := List.pairwise_cons.mp h
    unfold insertRequest
    split
    · rename_i lt
      exact List.pairwise_cons.mpr ⟨List.forall_mem_cons.mpr ⟨lt, fun x hx => Request.before_trans lt (first x hx)⟩, h⟩
    · rename_i nlt
      have above := Request.before_total (apart y List.mem_cons_self).symm nlt
      refine List.pairwise_cons.mpr ⟨fun x hx => ?_, ih rest fun x hx => apart x (List.mem_cons_of_mem _ hx)⟩
      obtain rfl | old := mem_insertRequest.mp hx
      · exact above
      · exact first x old

/-! ## The request of a trailer (R74) -/

/-- No queue holds a request of a post. -/
def State.Unfiled (s : State) (p : Post) : Prop := ∀ q, ∀ r ∈ s.queue q, r.post ≠ p

theorem mem_allQueues (q : Queue) : q ∈ allQueues := List.mem_finRange q

theorem mem_allPosts (p : Post) : p ∈ allPosts := List.mem_finRange p

section
variable {s : State} {p : Post}

theorem State.requestOf_eq_none_iff : s.requestOf p = none ↔ s.Unfiled p := by
  simp [State.requestOf, State.Unfiled, List.findSome?_eq_none_iff, mem_allQueues]

/-- A trailer's request stands in its queue. -/
theorem State.requestOf_spec {q : Queue} {r : Request} (h : s.requestOf p = some (q, r)) :
    r ∈ s.queue q ∧ r.post = p := by
  obtain ⟨q', -, found⟩ := List.exists_of_findSome?_eq_some h
  obtain ⟨x, hx, e⟩ := Option.map_eq_some_iff.mp found
  cases e
  exact ⟨List.mem_of_find?_eq_some hx, by simpa using List.find?_some hx⟩

/-- The queues are shorter, or the same, each in its order. -/
def Shrinks (s t : State) : Prop := ∀ q, (t.queue q).Sublist (s.queue q)

theorem State.Unfiled.shrinks {t : State} (h : s.Unfiled p) (x : Shrinks s t) : t.Unfiled p :=
  fun q r hr => h q r ((x q).subset hr)

theorem State.putQueue_shrinks {q : Queue} {l : List Request} (h : l.Sublist (s.queue q)) :
    Shrinks s (s.putQueue q l) := fun q' => by
  by_cases hq : q' = q
  · subst hq
    rw [State.queue_putQueue_self]
    exact h
  · rw [State.queue_putQueue_other s q q' l hq]

end

theorem State.removeRequest_shrinks (s : State) (p : Post) : Shrinks s (s.removeRequest p) := by
  unfold State.removeRequest
  split
  · exact fun _ => .refl _
  · exact State.putQueue_shrinks List.filter_sublist

/-! ## The walk's entries (R84, R85) -/

/-- What a walk never changes of an entry: all but its pass count. -/
def Request.key (r : Request) : Post × RequestClass × Time × Nat := (r.post, r.cls, r.filed, r.load)

theorem bumpPassed_key (left : List (Request × Bool)) :
    (bumpPassed left).map (fun e => e.1.key) = left.map fun e => e.1.key := by
  simp only [bumpPassed, List.map_map]
  refine List.map_congr_left fun e _ => ?_
  simp only [Function.comp]
  split <;> rfl

/-- A walk divides its entries: those granted and those that stay, each in the order it stood in. -/
structure WalkDivides (before rest : List Request) (w : List Request × List Request) : Prop where
  granted : w.1.Sublist rest
  left : (w.2.map Request.key).Sublist ((before ++ rest).map Request.key)
  all : ((w.1 ++ w.2).map Request.key).Perm ((before ++ rest).map Request.key)

theorem walkFrom_divides (capacity : Option Nat) (eligible : Request → Bool) (committed : Nat)
    (left : List (Request × Bool)) (rest : List Request) :
    WalkDivides (left.map (·.1)) rest (walkFrom capacity eligible committed left rest) := by
  have stays {left : List (Request × Bool)} {e : Request} {b : Bool} {rest : List Request}
      {w : List Request × List Request} (h : WalkDivides ((left ++ [(e, b)]).map (·.1)) rest w) :
      WalkDivides (left.map (·.1)) (e :: rest) w := by
    have same : (left ++ [(e, b)]).map (·.1) ++ rest = left.map (·.1) ++ e :: rest := by simp
    exact ⟨h.granted.cons e, same ▸ h.left, same ▸ h.all⟩
  have bumped (left : List (Request × Bool)) (rest : List Request) :
      ((bumpPassed left).map (·.1) ++ rest).map Request.key = (left.map (·.1) ++ rest).map Request.key := by
    have := bumpPassed_key left
    simp only [List.map_append, List.map_map, Function.comp_def]
    rw [this]
  have shorter (left : List Request) (e : Request) (rest : List Request) :
      ((left ++ rest).map Request.key).Sublist ((left ++ e :: rest).map Request.key) :=
    ((List.Sublist.refl left).append (List.sublist_cons_self e rest)).map _
  induction rest generalizing committed left with
  | nil => exact ⟨.refl _, by simp [walkFrom], by simp [walkFrom]⟩
  | cons e rest ih =>
    unfold walkFrom
    split
    · exact stays (ih committed _)
    · split
      · dsimp only
        split
        · refine ⟨List.Sublist.cons_cons e (List.nil_sublist rest), ?_, ?_⟩
          · rw [bumped]
            exact shorter _ e rest
          · rw [List.map_append, bumped]
            simp only [List.map_append, List.map_cons, List.map_nil, List.singleton_append]
            exact List.perm_middle.symm
        · have later := ih (committed + e.load) (bumpPassed left)
          refine ⟨later.granted.cons_cons e, ?_, ?_⟩
          · refine later.left.trans ?_
            rw [bumped]
            exact shorter _ e rest
          · rw [List.cons_append, List.map_cons]
            refine (later.all.cons _).trans ?_
            rw [bumped, List.map_append, List.map_append]
            exact List.perm_middle.symm
      · split
        · exact stays (ih committed _)
        · exact ⟨List.nil_sublist _, .refl _, .refl _⟩

/-- The walk of a queue from its head. -/
def State.walked (s : State) (q : Queue) : List Request × List Request :=
  walkFrom (s.capacityOf q) (fun r => (s.ineligible q r.post).isNone) (s.load q) [] (s.queue q)

theorem State.walk_of_running {s : State} (h : s.running = true) (q : Queue) :
    s.walk q = (s.putQueue q (s.walked q).2).forEach (s.walked q).1 fun s' r => s'.grant q r := if_pos h

theorem State.walk_of_not_running {s : State} (h : s.running = false) (q : Queue) : s.walk q = s := by
  unfold State.walk
  rw [h]
  rfl

theorem State.walked_divides (s : State) (q : Queue) : WalkDivides [] (s.queue q) (s.walked q) :=
  walkFrom_divides _ _ _ [] _

/-- What a walk keeps of the entries in a queue. -/
theorem WalkDivides.keys {queue : List Request} {w : List Request × List Request} (h : WalkDivides [] queue w) :
    (w.2.map Request.key).Sublist (queue.map Request.key) := h.left

/-- Every post of an entry that stays had an entry. -/
theorem WalkDivides.post_of_left {queue : List Request} {w : List Request × List Request} (h : WalkDivides [] queue w)
    {r : Request} (hr : r ∈ w.2) : ∃ r₀ ∈ queue, r₀.key = r.key := by
  obtain ⟨r₀, h₀, e⟩ := List.mem_map.mp (h.keys.subset (List.mem_map_of_mem hr))
  exact ⟨r₀, h₀, e⟩

theorem map_post_of_key (l : List Request) : l.map (·.post) = (l.map Request.key).map Prod.fst := by simp [Request.key]

/-- Of a queue with one entry for a post, no post granted stays. -/
theorem WalkDivides.apart {queue : List Request} {w : List Request × List Request} (h : WalkDivides [] queue w)
    (nodup : (queue.map (·.post)).Nodup) : ∀ g ∈ w.1, ∀ r ∈ w.2, r.post ≠ g.post := by
  have all : ((w.1 ++ w.2).map (·.post)).Nodup := by
    rw [map_post_of_key] at nodup ⊢
    exact (h.all.map Prod.fst).nodup_iff.mpr nodup
  rw [List.map_append] at all
  intro g hg r hr e
  exact (List.disjoint_of_nodup_append all) (List.mem_map_of_mem hg) (List.mem_map.mpr ⟨r, hr, e⟩)

/-! ## What a grant leaves alone -/

section
variable (s : State) (p : Post) (f : TrailerRecord → TrailerRecord)

/-- An edit of a record changes the records alone. -/
theorem State.editTrailer_changes : s.editTrailer p f = { s with records := (s.editTrailer p f).records } := by
  unfold State.editTrailer
  split <;> rfl

@[simp] theorem State.editTrailer_queues : (s.editTrailer p f).queues = s.queues := by
  rw [State.editTrailer_changes]

@[simp] theorem State.editTrailer_committed : (s.editTrailer p f).committed = s.committed := by
  rw [State.editTrailer_changes]

end

section
variable (s : State)

theorem State.causeJoins_changes (p : Post) (c : SuspCause) (n : Nat) :
    s.causeJoins p c n = { s with records := (s.causeJoins p c n).records } := by
  unfold State.causeJoins
  split
  · rfl
  · exact State.editTrailer_changes s p _

theorem State.causeLeaves_changes (p : Post) (c : SuspCause) :
    s.causeLeaves p c = { s with records := (s.causeLeaves p c).records } := by
  unfold State.causeLeaves
  split
  · rfl
  · exact State.editTrailer_changes s p _

theorem State.causeJoins_queues (p : Post) (c : SuspCause) (n : Nat) : (s.causeJoins p c n).queues = s.queues := by
  rw [State.causeJoins_changes]

theorem State.causeJoins_committed (p : Post) (c : SuspCause) (n : Nat) :
    (s.causeJoins p c n).committed = s.committed := by
  rw [State.causeJoins_changes]

end

/-- A preorder between states that reads a queue's grants: of the records at some posts and the queues and loads. -/
structure SameArbiter (s t : State) : Prop where
  queues : t.queues = s.queues
  committed : t.committed = s.committed

theorem SameArbiter.trans {s t u : State} (x : SameArbiter s t) (y : SameArbiter t u) : SameArbiter s u :=
  ⟨y.queues.trans x.queues, y.committed.trans x.committed⟩

theorem SameArbiter.queue {s t : State} (x : SameArbiter s t) (q : Queue) : t.queue q = s.queue q :=
  congrArg (fun v : Vector (List Request) 9 => v.get q) x.queues

theorem SameArbiter.load {s t : State} (x : SameArbiter s t) (q : Queue) : t.load q = s.load q :=
  congrArg (fun v : Vector Nat 9 => v.get q) x.committed

/-- The run that a grant creates, with its share and nothing of the queues, the loads and the other records. -/
structure CreatesRun (q : Queue) (r : Request) (s t : State) : Prop where
  arbiter : SameArbiter s t
  share : (t.trailer r.post).share = some (q, r.load)
  bulk : (t.trailer r.post).bulk = (s.trailer r.post).bulk
  others : ∀ p, p ≠ r.post → t.trailer p = s.trailer p

theorem createRun_creates (s : State) (q : Queue) (r : Request) : CreatesRun q r s (s.createRun q r) := by
  have joins {u : State} (h : CreatesRun q r s u) (c : SuspCause) (n : Nat) :
      CreatesRun q r s (u.causeJoins r.post c n) := by
    have kept := FindingKit.bulk.causeJoins u (p := r.post) trivial c n r.post
    refine ⟨h.arbiter.trans ⟨u.causeJoins_queues _ _ _, u.causeJoins_committed _ _ _⟩, kept.share.trans h.share,
      kept.bulk.trans h.bulk, fun p hp => ?_⟩
    rw [← h.others p hp]
    unfold State.causeJoins State.putRun
    split
    · rfl
    · exact State.trailer_editTrailer_other _ _ _ _ hp
  have started : CreatesRun q r s ((s.putRun r.post (some (s.newRun q r))).item r.post
      (.defrostStarted r.cls q r.load r.cls.firstState)) := by
    refine ⟨⟨?_, ?_⟩, ?_, ?_, fun p hp => ?_⟩
    · rw [State.item_queues]
      exact State.editTrailer_queues _ _ _
    · rw [State.item_committed]
      exact State.editTrailer_committed _ _ _
    · rw [State.item_trailer]
      exact State.field_editTrailer_self s r.post _ TrailerRecord.share fun _ => rfl
    · rw [State.item_trailer]
      exact State.field_editTrailer_self s r.post _ TrailerRecord.bulk fun _ => rfl
    · rw [State.item_trailer]
      exact State.trailer_editTrailer_other _ _ _ _ hp
  have doored (b : Prop) [Decidable b] {u : State} (h : CreatesRun q r s u) :
      CreatesRun q r s (if b then u.causeJoins r.post .door 0 else u) := by
    split
    · exact joins h _ _
    · exact h
  unfold State.createRun
  dsimp only
  split
  · exact joins (doored _ started) _ _
  · exact doored _ started

end Sys2Proof.Machine


/-! # Runs, requests and committed loads (R71, R74, R75)

The law of the grants under each operation of the arbiter and each record event, and the statement O6. -/

namespace Sys2Proof.Machine

/-! ## What the law reads -/

/-- The load of a share on a queue. -/
def shareLoad (q : Queue) : Option (Queue × Nat) → Nat
  | some (q', n) => if q' = q then n else 0
  | none => 0

theorem State.grantedLoad_eq_sum (s : State) (q : Queue) :
    s.grantedLoad q = ∑ p : Post, shareLoad q (s.trailer p).share := by
  rw [Fin.sum_univ_def]
  unfold State.grantedLoad allPosts
  congr 1
  refine List.map_congr_left fun p _ => ?_
  unfold TrailerRecord.share State.run
  cases (s.trailer p).run <;> rfl

theorem TrailerRecord.run_isSome_iff (t : TrailerRecord) : t.run.isSome = t.share.isSome := by
  unfold TrailerRecord.share
  cases t.run <;> rfl

theorem TrailerRecord.run_eq_none_iff {t : TrailerRecord} : t.run = none ↔ t.share = none := by
  unfold TrailerRecord.share
  cases t.run <;> simp

/-- What the law of the grants reads of the records stands, and so do the loads; the queues may be shorter. -/
structure KeepsGrants (s t : State) : Prop where
  state : ∀ p, (t.trailer p).state = (s.trailer p).state
  share : ∀ p, (t.trailer p).share = (s.trailer p).share
  shrinks : Shrinks s t
  committed : t.committed = s.committed

theorem KeepsGrants.of_same {s t : State} (hr : t.records = s.records) (hq : t.queues = s.queues)
    (hc : t.committed = s.committed) : KeepsGrants s t :=
  have e (q : Post) : t.trailer q = s.trailer q := congrArg (fun v : Vector TrailerRecord 240 => v.get q) hr
  ⟨fun p => by rw [e], fun p => by rw [e], fun q => by
    have : t.queue q = s.queue q := congrArg (fun v : Vector (List Request) 9 => v.get q) hq
    rw [this], hc⟩

theorem KeepsGrants.trans {s t u : State} (x : KeepsGrants s t) (y : KeepsGrants t u) : KeepsGrants s u :=
  ⟨fun p => (y.state p).trans (x.state p), fun p => (y.share p).trans (x.share p),
    fun q => (y.shrinks q).trans (x.shrinks q), y.committed.trans x.committed⟩

/-- A trailer with no run and no request. -/
structure State.Idle (s : State) (p : Post) : Prop where
  share : (s.trailer p).share = none
  unfiled : s.Unfiled p

theorem State.Idle.keeps {s t : State} {p : Post} (h : s.Idle p) (x : KeepsGrants s t) : t.Idle p :=
  ⟨(x.share p).trans h.share, h.unfiled.shrinks x.shrinks⟩

/-! ## Findings and actions keep the grants -/

theorem keepsGrants_edit (s : State) (p : Post) (f : TrailerRecord → TrailerRecord)
    (hst : (f (s.trailer p)).state = (s.trailer p).state) (hsh : (f (s.trailer p)).share = (s.trailer p).share) :
    KeepsGrants s (s.editTrailer p f) where
  state := State.field_editTrailer s p f TrailerRecord.state (fun _ => rfl) hst
  share := State.field_editTrailer s p f TrailerRecord.share (fun _ => rfl) hsh
  shrinks q := by
    have : (s.editTrailer p f).queue q = s.queue q :=
      congrArg (fun v : Vector (List Request) 9 => v.get q) (State.editTrailer_queues s p f)
    rw [this]
  committed := State.editTrailer_committed s p f

@[simp] theorem State.removeRequest_committed (s : State) (p : Post) : (s.removeRequest p).committed = s.committed := by
  unfold State.removeRequest
  split <;> rfl

theorem keepsGrants_removeRequest (s : State) (p : Post) : KeepsGrants s (s.removeRequest p) :=
  have same (q : Post) : (s.removeRequest p).trailer q = s.trailer q := by
    unfold State.trailer
    rw [State.removeRequest_records]
  ⟨fun q => by rw [same], fun q => by rw [same], s.removeRequest_shrinks p, s.removeRequest_committed p⟩

/-- Findings and actions keep the grants, as a kit. -/
def FindingKit.grants : FindingKit fun _ => True where
  rel t s := KeepsGrants s t
  refl _ := .of_same rfl rfl rfl
  after x y := y.trans x
  edit s p f _ hf := keepsGrants_edit s p f hf.key.state hf.share
  output _ _ _ _ := .of_same rfl rfl rfl
  inForce _ _ _ _ := .of_same rfl rfl rfl
  item s p b _ := .of_same (s.item_records p b) (s.item_queues p b) (s.item_committed p b)
  push _ _ _ _ _ _ := .of_same rfl rfl rfl
  unfile s p _ := keepsGrants_removeRequest s p

section
variable (s : State) (p : Post)

theorem keepsGrants_item (b : ItemBody) : KeepsGrants s (s.item p b) := FindingKit.grants.item s p b trivial

theorem keepsGrants_produce (c : FindingClass) (d k : Nat) : KeepsGrants s (s.produce p c d k) :=
  FindingKit.grants.produce s trivial c d k

theorem keepsGrants_clearFinding (c : FindingClass) (b : Bool) : KeepsGrants s (s.clearFinding p c b) :=
  FindingKit.grants.clearFinding s trivial c b

theorem keepsGrants_clearLinkLost (d : Nat) : KeepsGrants s (s.clearLinkLost p d) :=
  FindingKit.grants.clearLinkLost s trivial d

theorem keepsGrants_settleActions : KeepsGrants s (s.settleActions p) := FindingKit.grants.settleActions s trivial

theorem keepsGrants_withdrawActions : KeepsGrants s (s.withdrawActions p) := FindingKit.grants.withdrawActions s trivial

theorem keepsGrants_emptySets : KeepsGrants s (s.emptySets p) := FindingKit.grants.emptySets s trivial

theorem keepsGrants_dirRemove : KeepsGrants s (s.dirRemove p) := .of_same rfl rfl rfl

theorem keepsGrants_dirInsert (u : Word32) : KeepsGrants s (s.dirInsert u p) := .of_same rfl rfl rfl

theorem keepsGrants_dirRepoint (u : Word32) : KeepsGrants s (s.dirRepoint u p) := .of_same rfl rfl rfl

theorem keepsGrants_recordRebuild : KeepsGrants s s.recordRebuild := by
  unfold State.recordRebuild
  dsimp only
  split
  · split <;> exact .of_same rfl rfl rfl
  · exact .of_same rfl rfl rfl

end

/-- An opening under a kit that any edit keeps which leaves a record's state and share. -/
theorem FindingKit.opening (h : FindingKit fun _ => True)
    (edit : ∀ s p f, (f (s.trailer p)).state = (s.trailer p).state → (f (s.trailer p)).share = (s.trailer p).share →
      h.rel (State.editTrailer s p f) s) (s : State) (p : Post) : h.rel (s.opening p) s := by
  have broken (u : State) : h.rel (u.breakCustody p) u := by
    unfold State.breakCustody
    split
    · rename_i tag _
      have marked := edit u p (fun t => { t with custody := .broken tag }) rfl rfl
      exact (h.produce _ trivial _ _ _).trans ((h.item _ p _ trivial).trans marked)
    all_goals exact h.refl _
  unfold State.opening
  dsimp only
  exact (edit _ p _ rfl rfl).trans ((broken _).trans (edit s p _ rfl rfl))

theorem keepsGrants_opening (s : State) (p : Post) : KeepsGrants s (s.opening p) :=
  FindingKit.grants.opening keepsGrants_edit s p

namespace State.GrantLaw

variable {s t : State} (law : s.GrantLaw)
include law

theorem of_keeps (h : KeepsGrants s t) : t.GrantLaw where
  runEnrolled p hr := by
    unfold State.run at hr
    rw [TrailerRecord.run_isSome_iff, h.share, ← TrailerRecord.run_isSome_iff] at hr
    exact (h.state p).trans (law.runEnrolled p hr)
  requestEnrolled q r hr := by
    obtain ⟨enrolled, noRun⟩ := law.requestEnrolled q r ((h.shrinks q).subset hr)
    exact ⟨(h.state _).trans enrolled, TrailerRecord.run_eq_none_iff.mpr ((h.share _).trans
      (TrailerRecord.run_eq_none_iff.mp noRun))⟩
  onePerQueue q := (law.onePerQueue q).sublist ((h.shrinks q).map _)
  oneQueue q q' hq r hr r' hr' := law.oneQueue q q' hq r ((h.shrinks q).subset hr) r' ((h.shrinks q').subset hr')
  inOrder q := (law.inOrder q).sublist (h.shrinks q)
  committed q := by
    have load : t.load q = s.load q := congrArg (fun v : Vector Nat 9 => v.get q) h.committed
    rw [load, law.committed, State.grantedLoad_eq_sum, State.grantedLoad_eq_sum]
    simp only [h.share]

/-- A trailer with a run has no request. -/
theorem unfiled_of_run {p : Post} (h : s.run p ≠ none) : s.Unfiled p := by
  rintro q r hr rfl
  exact h (law.requestEnrolled q r hr).2

/-- A record that is not ENROLLED has neither run nor request. -/
theorem idle_of_not_enrolled {p : Post} (h : (s.trailer p).state ≠ .enrolled) : s.Idle p := by
  refine ⟨?_, ?_⟩
  · by_contra hr
    refine h (law.runEnrolled p ?_)
    unfold State.run
    rw [TrailerRecord.run_isSome_iff]
    exact Option.isSome_iff_ne_none.mpr hr
  · rintro q r hr rfl
    exact h (law.requestEnrolled q r hr).1

/-- A record with neither run nor request may change its state and take another that has no run. -/
theorem of_idle {p : Post} (idle : s.Idle p) (others : ∀ q, q ≠ p → t.trailer q = s.trailer q)
    (noShare : (t.trailer p).share = none) (same : SameArbiter s t) : t.GrantLaw where
  runEnrolled q hr := by
    by_cases hq : q = p
    · subst hq
      unfold State.run at hr
      rw [TrailerRecord.run_isSome_iff, noShare] at hr
      cases hr
    · unfold State.run at hr
      rw [others q hq] at hr ⊢
      exact law.runEnrolled q hr
  requestEnrolled q r hr := by
    rw [same.queue] at hr
    unfold State.run
    rw [others r.post (idle.unfiled q r hr)]
    exact law.requestEnrolled q r hr
  onePerQueue q := by rw [same.queue]; exact law.onePerQueue q
  oneQueue q q' hq := by rw [same.queue, same.queue]; exact law.oneQueue q q' hq
  inOrder q := by rw [same.queue]; exact law.inOrder q
  committed q := by
    rw [same.load, law.committed, State.grantedLoad_eq_sum, State.grantedLoad_eq_sum]
    refine Finset.sum_congr rfl fun p' _ => ?_
    by_cases hp : p' = p
    · subst hp
      rw [noShare, idle.share]
    · rw [others p' hp]

theorem put {p : Post} (idle : s.Idle p) {r : TrailerRecord} (hr : r.run = none) : (s.putTrailer p r).GrantLaw :=
  law.of_idle idle (fun q hq => State.trailer_putTrailer_other s p q r hq)
    (by rw [State.trailer_putTrailer_self]; exact TrailerRecord.run_eq_none_iff.mp hr) ⟨rfl, rfl⟩

theorem edit {p : Post} (idle : s.Idle p) {f : TrailerRecord → TrailerRecord}
    (hf : (f (s.trailer p)).share = (s.trailer p).share) : (s.editTrailer p f).GrantLaw :=
  law.of_idle idle (fun q hq => State.trailer_editTrailer_other s p q f hq)
    ((State.field_editTrailer s p f TrailerRecord.share (fun _ => rfl) hf p).trans idle.share)
    ⟨s.editTrailer_queues p f, s.editTrailer_committed p f⟩

/-- A trailer that has lost its one request has none. -/
theorem unfiled_removeRequest (p : Post) : (s.removeRequest p).Unfiled p := by
  cases found : s.requestOf p with
  | none =>
    have unfiled := State.requestOf_eq_none_iff.mp found
    exact unfiled.shrinks (s.removeRequest_shrinks p)
  | some e =>
    obtain ⟨q, r⟩ := e
    obtain ⟨hr, hp⟩ := State.requestOf_spec found
    have removed : s.removeRequest p = s.putQueue q ((s.queue q).filter fun r => decide (r.post ≠ p)) := by
      unfold State.removeRequest
      rw [found]
    rw [removed]
    intro q' r' hr'
    by_cases hq : q' = q
    · subst hq
      rw [State.queue_putQueue_self] at hr'
      simpa using (List.mem_filter.mp hr').2
    · rw [State.queue_putQueue_other _ _ _ _ hq] at hr'
      rw [← hp]
      exact (law.oneQueue q q' (Ne.symm hq) r hr r' hr').symm

/-- A request of an idle ENROLLED trailer joins a queue. -/
theorem joinQueue (q : Queue) {r : Request} (idle : s.Idle r.post) (enrolled : (s.trailer r.post).state = .enrolled) :
    (s.joinQueue q r).GrantLaw := by
  have noRun : s.run r.post = none := TrailerRecord.run_eq_none_iff.mpr idle.share
  have self : (s.joinQueue q r).queue q = insertRequest r (s.queue q) := State.queue_putQueue_self _ _ _
  have other (q' : Queue) (hq : q' ≠ q) : (s.joinQueue q r).queue q' = s.queue q' :=
    State.queue_putQueue_other _ _ _ _ hq
  have member {q' : Queue} {x : Request} (hx : x ∈ (s.joinQueue q r).queue q') :
      (q' = q ∧ x = r) ∨ x ∈ s.queue q' := by
    by_cases hq : q' = q
    · subst hq
      rw [self] at hx
      exact (mem_insertRequest.mp hx).imp_left fun e => ⟨rfl, e⟩
    · rw [other q' hq] at hx
      exact .inr hx
  refine ⟨law.runEnrolled, ?_, ?_, ?_, ?_, law.committed⟩
  · intro q' x hx
    obtain ⟨-, rfl⟩ | old := member hx
    · exact ⟨enrolled, noRun⟩
    · exact law.requestEnrolled q' x old
  · intro q'
    by_cases hq : q' = q
    · subst hq
      rw [self, ((insertRequest_perm r _).map _).nodup_iff, List.map_cons, List.nodup_cons]
      refine ⟨fun hm => ?_, law.onePerQueue q'⟩
      obtain ⟨x, hx, e⟩ := List.mem_map.mp hm
      exact idle.unfiled q' x hx e
    · rw [other q' hq]
      exact law.onePerQueue q'
  · intro q₁ q₂ hq x hx y hy
    obtain ⟨h₁, rfl⟩ | old₁ := member hx <;> obtain ⟨h₂, rfl⟩ | old₂ := member hy
    · exact absurd (h₁.trans h₂.symm) hq
    · exact (idle.unfiled q₂ y old₂).symm
    · exact idle.unfiled q₁ x old₁
    · exact law.oneQueue q₁ q₂ hq x old₁ y old₂
  · intro q'
    by_cases hq : q' = q
    · subst hq
      rw [self]
      exact ordered_insertRequest (law.inOrder q') fun x hx => idle.unfiled q' x hx
    · rw [other q' hq]
      exact law.inOrder q'

end State.GrantLaw

/-! ## A grant (R86) -/

theorem grant_creates (s : State) (q : Queue) (r : Request) :
    CreatesRun q r (s.putLoad q (s.load q + r.load)) (s.grant q r) := createRun_creates _ q r

theorem TrailerRecord.state_of_bulk {t u : TrailerRecord} (h : t.bulk = u.bulk) : t.state = u.state :=
  have e : t.bulk.state = u.bulk.state := by rw [h]
  e

theorem queue_grant (s : State) (q : Queue) (r : Request) (q' : Queue) : (s.grant q r).queue q' = s.queue q' := by
  rw [(grant_creates s q r).arbiter.queue q']
  rfl

/-- The sum of the loads after one share has come. -/
theorem grantedLoad_of_creates {s t : State} {q : Queue} {r : Request} (h : CreatesRun q r s t)
    (idle : (s.trailer r.post).share = none) (q' : Queue) :
    t.grantedLoad q' = s.grantedLoad q' + if q = q' then r.load else 0 := by
  rw [State.grantedLoad_eq_sum, State.grantedLoad_eq_sum,
    ← Finset.add_sum_erase _ (fun p => shareLoad q' (t.trailer p).share) (Finset.mem_univ r.post),
    ← Finset.add_sum_erase _ (fun p => shareLoad q' (s.trailer p).share) (Finset.mem_univ r.post), h.share, idle]
  have rest : ∑ p ∈ Finset.univ.erase r.post, shareLoad q' (t.trailer p).share
      = ∑ p ∈ Finset.univ.erase r.post, shareLoad q' (s.trailer p).share :=
    Finset.sum_congr rfl fun p hp => by rw [h.others p (Finset.ne_of_mem_erase hp)]
  rw [rest]
  simp only [shareLoad]
  omega

theorem State.GrantLaw.grant {s : State} (law : s.GrantLaw) (q : Queue) {r : Request} (idle : s.Idle r.post)
    (enrolled : (s.trailer r.post).state = .enrolled) : (s.grant q r).GrantLaw := by
  have h := grant_creates s q r
  have queues (q' : Queue) : (s.grant q r).queue q' = s.queue q' := queue_grant s q r q'
  have state : ((s.grant q r).trailer r.post).state = .enrolled :=
    (TrailerRecord.state_of_bulk h.bulk).trans enrolled
  have others (p : Post) (hp : p ≠ r.post) : (s.grant q r).trailer p = s.trailer p := h.others p hp
  refine ⟨fun p hr => ?_, fun q' x hx => ?_, fun q' => ?_, fun q₁ q₂ hq => ?_, fun q' => ?_, fun q' => ?_⟩
  · by_cases hp : p = r.post
    · rw [hp]
      exact state
    · unfold State.run at hr
      rw [others p hp] at hr ⊢
      exact law.runEnrolled p hr
  · rw [queues] at hx
    unfold State.run
    rw [others x.post (idle.unfiled q' x hx)]
    exact law.requestEnrolled q' x hx
  · rw [queues]
    exact law.onePerQueue q'
  · rw [queues, queues]
    exact law.oneQueue q₁ q₂ hq
  · rw [queues]
    exact law.inOrder q'
  · have base : (s.putLoad q (s.load q + r.load)).grantedLoad q' = s.grantedLoad q' := rfl
    rw [h.arbiter.load q', grantedLoad_of_creates h idle.share, base, ← law.committed]
    by_cases hq : q' = q
    · subst hq
      rw [State.load_putLoad_self, if_pos rfl]
    · rw [State.load_putLoad_other _ _ _ _ hq, if_neg (Ne.symm hq)]
      rfl

/-- A grant to one trailer leaves another idle one idle. -/
theorem State.Idle.grant {s : State} {p : Post} (h : s.Idle p) (q : Queue) {r : Request} (hp : p ≠ r.post) :
    (s.grant q r).Idle p := by
  have c := grant_creates s q r
  refine ⟨?_, fun q' x hx => ?_⟩
  · rw [c.others p hp]
    exact h.share
  · rw [queue_grant] at hx
    exact h.unfiled q' x hx

/-! ## A walk (R84 to R86) -/

/-- The grants of a walk, one after another, each to an idle ENROLLED trailer. -/
theorem State.GrantLaw.grants {s : State} (law : s.GrantLaw) (q : Queue) {l : List Request}
    (nodup : (l.map (·.post)).Nodup)
    (ready : ∀ r ∈ l, s.Idle r.post ∧ (s.trailer r.post).state = .enrolled) :
    (s.forEach l fun s' r => s'.grant q r).GrantLaw := by
  induction l generalizing s with
  | nil => exact law
  | cons r l ih =>
    obtain ⟨fresh, nodup⟩ := List.nodup_cons.mp nodup
    obtain ⟨idle, enrolled⟩ := ready r List.mem_cons_self
    refine ih (law.grant q idle enrolled) nodup fun x hx => ?_
    have apart : x.post ≠ r.post := fun e => fresh (List.mem_map.mpr ⟨x, hx, e⟩)
    obtain ⟨xIdle, xEnrolled⟩ := ready x (List.mem_cons_of_mem _ hx)
    refine ⟨xIdle.grant q apart, ?_⟩
    rw [(grant_creates s q r).others x.post apart]
    exact xEnrolled

/-- The entries that stay in a walked queue stand in its order: pass counts are no part of it. -/
theorem ordered_of_keys {l l' : List Request} (h : (l'.map Request.key).Sublist (l.map Request.key)) (hl : ordered l) :
    ordered l' := by
  let before (a b : Post × RequestClass × Time × Nat) : Prop :=
    a.2.1.code < b.2.1.code ∨ (a.2.1.code = b.2.1.code ∧
      (a.2.2.1 < b.2.2.1 ∨ (a.2.2.1 = b.2.2.1 ∧ a.1.val < b.1.val)))
  have iff (a b : Request) : a.before b = true ↔ before a.key b.key := Request.before_iff a b
  have keys : (l.map Request.key).Pairwise before := List.pairwise_map.mpr (hl.imp fun {a b} x => (iff a b).mp x)
  exact (List.pairwise_map.mp (keys.sublist h)).imp fun {a b} x => (iff a b).mpr x

/-- Before its grants a walk has taken the granted entries from the queue. -/
theorem State.GrantLaw.walkedQueue {s : State} (law : s.GrantLaw) (q : Queue) :
    (s.putQueue q (s.walked q).2).GrantLaw ∧
      ∀ r ∈ (s.walked q).1, (s.putQueue q (s.walked q).2).Idle r.post ∧ (s.trailer r.post).state = .enrolled := by
  have divides := s.walked_divides q
  have self : (s.putQueue q (s.walked q).2).queue q = (s.walked q).2 := State.queue_putQueue_self _ _ _
  have other (q' : Queue) (hq : q' ≠ q) : (s.putQueue q (s.walked q).2).queue q' = s.queue q' :=
    State.queue_putQueue_other _ _ _ _ hq
  have was {q' : Queue} {r : Request} (hr : r ∈ (s.putQueue q (s.walked q).2).queue q') :
      ∃ r₀ ∈ s.queue q', r₀.post = r.post := by
    by_cases hq : q' = q
    · subst hq
      rw [self] at hr
      obtain ⟨r₀, h₀, e⟩ := divides.post_of_left hr
      exact ⟨r₀, h₀, congrArg Prod.fst e⟩
    · rw [other q' hq] at hr
      exact ⟨r, hr, rfl⟩
  have posts : ((s.walked q).2.map (·.post)).Sublist ((s.queue q).map (·.post)) := by
    rw [map_post_of_key, map_post_of_key]
    exact divides.keys.map _
  refine ⟨⟨law.runEnrolled, fun q' r hr => ?_, fun q' => ?_, fun q₁ q₂ hq x hx y hy => ?_, fun q' => ?_,
    law.committed⟩, fun r hr => ?_⟩
  · obtain ⟨r₀, h₀, e⟩ := was hr
    rw [← e]
    exact law.requestEnrolled q' r₀ h₀
  · by_cases hq : q' = q
    · subst hq
      rw [self]
      exact (law.onePerQueue q').sublist posts
    · rw [other q' hq]
      exact law.onePerQueue q'
  · obtain ⟨x₀, hx₀, ex⟩ := was hx
    obtain ⟨y₀, hy₀, ey⟩ := was hy
    rw [← ex, ← ey]
    exact law.oneQueue q₁ q₂ hq x₀ hx₀ y₀ hy₀
  · by_cases hq : q' = q
    · subst hq
      rw [self]
      exact ordered_of_keys divides.keys (law.inOrder q')
    · rw [other q' hq]
      exact law.inOrder q'
  · have mem := divides.granted.subset hr
    obtain ⟨enrolled, noRun⟩ := law.requestEnrolled q r mem
    refine ⟨⟨TrailerRecord.run_eq_none_iff.mp noRun, fun q' x hx => ?_⟩, enrolled⟩
    by_cases hq : q' = q
    · subst hq
      rw [self] at hx
      exact divides.apart (law.onePerQueue q') r hr x hx
    · rw [other q' hq] at hx
      exact law.oneQueue q' q hq x hx r mem

theorem State.GrantLaw.granted_nodup {s : State} (law : s.GrantLaw) (q : Queue) :
    ((s.walked q).1.map (·.post)).Nodup :=
  (law.onePerQueue q).sublist ((s.walked_divides q).granted.map _)

theorem State.GrantLaw.walk {s : State} (law : s.GrantLaw) (q : Queue) : (s.walk q).GrantLaw := by
  cases running : s.running with
  | false =>
    rw [State.walk_of_not_running running]
    exact law
  | true =>
    rw [State.walk_of_running running]
    obtain ⟨taken, ready⟩ := law.walkedQueue q
    exact taken.grants q (law.granted_nodup q) ready

/-- A walk leaves an idle trailer idle. -/
theorem State.Idle.walk {s : State} {p : Post} (h : s.Idle p) (q : Queue) : (s.walk q).Idle p := by
  have divides := s.walked_divides q
  cases running : s.running with
  | false =>
    rw [State.walk_of_not_running running]
    exact h
  | true =>
    rw [State.walk_of_running running]
    have grants (l : List Request) (hl : ∀ r ∈ l, p ≠ r.post) (u : State) (hu : u.Idle p) :
        (u.forEach l fun s' r => s'.grant q r).Idle p := by
      induction l generalizing u with
      | nil => exact hu
      | cons r l ih =>
        exact ih (fun x hx => hl x (List.mem_cons_of_mem _ hx)) _ (hu.grant q (hl r List.mem_cons_self))
    refine grants _ (fun r hr => (h.unfiled q r (divides.granted.subset hr)).symm) _ ⟨h.share, fun q' r hr => ?_⟩
    by_cases hq : q' = q
    · subst hq
      rw [State.queue_putQueue_self] at hr
      obtain ⟨r₀, h₀, e⟩ := divides.post_of_left hr
      have same : r₀.post = r.post := congrArg Prod.fst e
      rw [← same]
      exact h.unfiled q' r₀ h₀
    · rw [State.queue_putQueue_other _ _ _ _ hq] at hr
      exact h.unfiled q' r hr

/-! ## The end of a run (R109) -/

/-- The end of a run before its walk: the record has no run and its load is free. -/
def State.releaseRun (s : State) (p : Post) (r : RunRecord) (o : RunOutcome) (stuck : Bool) : State :=
  let settled := s.editTrailer p fun t => t.settleRun o r.f0 s.now
  let released := settled.putLoad r.queue (settled.load r.queue - r.load)
  (released.item p (.defrostEnded o r.f0 (r.heatingAt s.now) (r.suspendedAt s.now) stuck)).putRun p none

theorem State.endRun_of_run {s : State} {p : Post} {r : RunRecord} (h : s.run p = some r) (o : RunOutcome) (b : Bool) :
    s.endRun p o b = (s.releaseRun p r o b).walk r.queue := by
  unfold State.endRun
  rw [h]
  rfl

theorem State.endRun_of_none {s : State} {p : Post} (h : s.run p = none) (o : RunOutcome) (b : Bool) :
    s.endRun p o b = s := by
  unfold State.endRun
  rw [h]

/-- What the release of a run does to records, queues and loads. -/
structure ReleasesRun (p : Post) (r : RunRecord) (s t : State) : Prop where
  queues : t.queues = s.queues
  load : t.load r.queue = s.load r.queue - r.load
  otherLoads : ∀ q, q ≠ r.queue → t.load q = s.load q
  share : (t.trailer p).share = none
  state : (t.trailer p).state = (s.trailer p).state
  others : ∀ q, q ≠ p → t.trailer q = s.trailer q

theorem releaseRun_releases (s : State) (p : Post) (r : RunRecord) (o : RunOutcome) (b : Bool) :
    ReleasesRun p r s (s.releaseRun p r o b) := by
  have settledLoad (q : Queue) : (s.editTrailer p fun t => t.settleRun o r.f0 s.now).load q = s.load q :=
    congrArg (fun v : Vector Nat 9 => v.get q) (State.editTrailer_committed _ _ _)
  have loads (q : Queue) : (s.releaseRun p r o b).load q
      = ((s.editTrailer p fun t => t.settleRun o r.f0 s.now).putLoad r.queue
          ((s.editTrailer p fun t => t.settleRun o r.f0 s.now).load r.queue - r.load)).load q :=
    congrArg (fun v : Vector Nat 9 => v.get q) ((State.editTrailer_committed _ _ _).trans (State.item_committed _ _ _))
  refine ⟨?_, ?_, fun q hq => ?_, ?_, ?_, fun q hq => ?_⟩
  · unfold State.releaseRun State.putRun
    dsimp only
    rw [State.editTrailer_queues, State.item_queues, State.putLoad_queues, State.editTrailer_queues]
  · rw [loads, State.load_putLoad_self, settledLoad]
  · rw [loads, State.load_putLoad_other _ _ _ _ hq, settledLoad]
  · exact TrailerRecord.run_eq_none_iff.mp (State.run_putRun_self _ p none)
  · unfold State.releaseRun
    dsimp only
    refine (State.field_editTrailer _ p _ TrailerRecord.state (fun _ => rfl) rfl p).trans ?_
    rw [State.item_trailer]
    refine (State.field_editTrailer s p _ TrailerRecord.state (fun _ => rfl) ?_ p)
    exact (LooseKit.settleRun_key _ _ _ _).state
  · unfold State.releaseRun State.putRun
    dsimp only
    rw [State.trailer_editTrailer_other _ p q _ hq, State.item_trailer]
    exact State.trailer_editTrailer_other _ p q _ hq

theorem share_of_run {s : State} {p : Post} {r : RunRecord} (h : s.run p = some r) :
    (s.trailer p).share = some (r.queue, r.load) := by
  unfold TrailerRecord.share
  unfold State.run at h
  rw [h]
  rfl

theorem grantedLoad_of_releases {s t : State} {p : Post} {r : RunRecord} (h : ReleasesRun p r s t)
    (hr : s.run p = some r) (q : Queue) :
    t.grantedLoad q + (if r.queue = q then r.load else 0) = s.grantedLoad q := by
  rw [State.grantedLoad_eq_sum, State.grantedLoad_eq_sum,
    ← Finset.add_sum_erase _ (fun p => shareLoad q (t.trailer p).share) (Finset.mem_univ p),
    ← Finset.add_sum_erase _ (fun p => shareLoad q (s.trailer p).share) (Finset.mem_univ p), h.share, share_of_run hr]
  have rest : ∑ x ∈ Finset.univ.erase p, shareLoad q (t.trailer x).share
      = ∑ x ∈ Finset.univ.erase p, shareLoad q (s.trailer x).share :=
    Finset.sum_congr rfl fun x hx => by rw [h.others x (Finset.ne_of_mem_erase hx)]
  rw [rest]
  simp only [shareLoad]
  omega

theorem ReleasesRun.queue {s t : State} {p : Post} {r : RunRecord} (h : ReleasesRun p r s t) (q : Queue) :
    t.queue q = s.queue q := congrArg (fun v : Vector (List Request) 9 => v.get q) h.queues

theorem State.GrantLaw.release {s t : State} {p : Post} {r : RunRecord} (law : s.GrantLaw) (h : ReleasesRun p r s t)
    (hr : s.run p = some r) : t.GrantLaw ∧ t.Idle p := by
  have unfiled : s.Unfiled p := law.unfiled_of_run (by rw [hr]; nofun)
  refine ⟨⟨fun q hq => ?_, fun q x hx => ?_, fun q => ?_, fun q q' hq => ?_, fun q => ?_, fun q => ?_⟩,
    h.share, fun q x hx => unfiled q x (h.queue q ▸ hx)⟩
  · by_cases hp : q = p
    · subst hp
      unfold State.run at hq
      rw [TrailerRecord.run_isSome_iff, h.share] at hq
      cases hq
    · unfold State.run at hq
      rw [h.others q hp] at hq ⊢
      exact law.runEnrolled q hq
  · rw [h.queue] at hx
    unfold State.run
    rw [h.others x.post (unfiled q x hx)]
    exact law.requestEnrolled q x hx
  · rw [h.queue]
    exact law.onePerQueue q
  · rw [h.queue, h.queue]
    exact law.oneQueue q q' hq
  · rw [h.queue]
    exact law.inOrder q
  · have sum := grantedLoad_of_releases h hr q
    have before := law.committed q
    by_cases hq : q = r.queue
    · subst hq
      rw [if_pos rfl] at sum
      rw [h.load]
      omega
    · rw [if_neg (Ne.symm hq)] at sum
      rw [h.otherLoads q hq]
      omega

theorem State.GrantLaw.endRun {s : State} (law : s.GrantLaw) (p : Post) (o : RunOutcome) (b : Bool) :
    (s.endRun p o b).GrantLaw := by
  cases hr : s.run p with
  | none =>
    rw [State.endRun_of_none hr]
    exact law
  | some r =>
    rw [State.endRun_of_run hr]
    exact (law.release (releaseRun_releases s p r o b) hr).1.walk _

/-- A run that ends leaves its trailer idle, and every other idle trailer. -/
theorem State.GrantLaw.share_endRun {s : State} (law : s.GrantLaw) (p : Post) (o : RunOutcome) (b : Bool) :
    ((s.endRun p o b).trailer p).share = none := by
  cases hr : s.run p with
  | none =>
    rw [State.endRun_of_none hr]
    exact TrailerRecord.run_eq_none_iff.mp hr
  | some r =>
    rw [State.endRun_of_run hr]
    exact ((law.release (releaseRun_releases s p r o b) hr).2.walk _).share

theorem State.Idle.endRun {s : State} {q : Post} (h : s.Idle q) (p : Post) (o : RunOutcome) (b : Bool) :
    (s.endRun p o b).Idle q := by
  cases hr : s.run p with
  | none =>
    rw [State.endRun_of_none hr]
    exact h
  | some r =>
    rw [State.endRun_of_run hr]
    have rel := releaseRun_releases s p r o b
    refine State.Idle.walk ⟨?_, fun q' x hx => h.unfiled q' x (rel.queue q' ▸ hx)⟩ _
    by_cases hq : q = p
    · rw [hq]
      exact rel.share
    · rw [rel.others q hq]
      exact h.share

/-! ## Upgrades, filing and new post maps (R73, R76, R80) -/

theorem State.GrantLaw.upgrade {s : State} (law : s.GrantLaw) (p : Post) (c : RequestClass) :
    (s.upgradeRequest p c).GrantLaw := by
  unfold State.upgradeRequest
  split
  · exact law
  · rename_i q r found
    obtain ⟨hr, hp⟩ := State.requestOf_spec found
    obtain ⟨enrolled, noRun⟩ := law.requestEnrolled q r hr
    have keeps := keepsGrants_removeRequest s p
    rw [hp] at enrolled noRun
    subst hp
    exact (law.of_keeps keeps).joinQueue q (r := { r with cls := c })
      ⟨(keeps.share _).trans (TrailerRecord.run_eq_none_iff.mp noRun), law.unfiled_removeRequest _⟩
      ((keeps.state _).trans enrolled)

theorem State.GrantLaw.file {s : State} (law : s.GrantLaw) {p : Post} (c : RequestClass) (n : Nat)
    (enrolled : (s.trailer p).state = .enrolled) (noRun : s.run p = none) (noRequest : s.requestOf p = none) :
    (s.fileRequest p c n).GrantLaw :=
  (law.joinQueue (s.queueOf p) (r := { post := p, cls := c, filed := s.now, load := n, passes := 0 })
    ⟨TrailerRecord.run_eq_none_iff.mp noRun, State.requestOf_eq_none_iff.mp noRequest⟩ enrolled).walk _

/-- A request that a post map moves joins its new queue in place of the old (R73). -/
theorem State.GrantLaw.placeRequest {s : State} (law : s.GrantLaw) {r : Request} (enrolled : (s.trailer r.post).state = .enrolled)
    (noRun : s.run r.post = none) (q : Queue) : ((s.removeRequest r.post).joinQueue q r).GrantLaw := by
  have trailer : (s.removeRequest r.post).trailer r.post = s.trailer r.post :=
    congrArg (fun v : Vector TrailerRecord 240 => v.get r.post) (s.removeRequest_records r.post)
  refine (law.of_keeps (keepsGrants_removeRequest s r.post)).joinQueue q ⟨?_, law.unfiled_removeRequest _⟩ ?_
  · rw [trailer]
    exact TrailerRecord.run_eq_none_iff.mp noRun
  · rw [trailer]
    exact enrolled

theorem State.GrantLaw.remap {s : State} (law : s.GrantLaw) : s.remapRequests.GrantLaw := by
  have place (l : List (Queue × Request)) (hl : ∀ m ∈ l, ∃ q, m.2 ∈ s.queue q) (u : State) (hu : u.GrantLaw)
      (same : u.records = s.records) :
      (u.forEach l fun s' m => (s'.removeRequest m.2.post).joinQueue m.1 m.2).GrantLaw := by
    induction l generalizing u with
    | nil => exact hu
    | cons m l ih =>
      obtain ⟨q, hm⟩ := hl m List.mem_cons_self
      obtain ⟨enrolled, noRun⟩ := law.requestEnrolled q m.2 hm
      have trailer : u.trailer m.2.post = s.trailer m.2.post := congrArg (fun v : Vector TrailerRecord 240 => v.get m.2.post) same
      refine ih (fun x hx => hl x (List.mem_cons_of_mem _ hx)) _ (hu.placeRequest ?_ ?_ m.1) ?_
      · rw [trailer]
        exact enrolled
      · exact (congrArg TrailerRecord.run trailer).trans noRun
      · exact (u.removeRequest_records _).trans same
  have placed := place s.movedRequests (fun m hm => by
    obtain ⟨q, -, hq⟩ := List.mem_flatMap.mp hm
    obtain ⟨r, hr, rfl⟩ := List.mem_map.mp hq
    exact ⟨q, List.mem_of_mem_filter hr⟩) s law rfl
  have walks (l : List Queue) (u : State) (hu : u.GrantLaw) : (u.forEach l State.walk).GrantLaw := by
    induction l generalizing u with
    | nil => exact hu
    | cons q l ih => exact ih _ (hu.walk q)
  exact walks _ _ placed

/-! ## The kits of the grants -/

/-- The law of the grants, as the kit of findings. -/
def FindingKit.grantLaw : FindingKit fun _ => True where
  rel t s := s.GrantLaw → t.GrantLaw
  refl _ := id
  after x y := x ∘ y
  edit s p _ hp hf law := law.of_keeps (FindingKit.grants.edit s p _ hp hf)
  output s p o hp law := law.of_keeps (FindingKit.grants.output s p o hp)
  inForce s p a hp law := law.of_keeps (FindingKit.grants.inForce s p a hp)
  item s p b hp law := law.of_keeps (FindingKit.grants.item s p b hp)
  push s p c d k hp law := law.of_keeps (FindingKit.grants.push s p c d k hp)
  unfile s p hp law := law.of_keeps (FindingKit.grants.unfile s p hp)

/-- The law of the grants, as the kit of an evaluation. -/
def Kit.grantLaw : Kit fun _ => True where
  toFindingKit := FindingKit.grantLaw
  editKey s p f _ hf law := law.of_keeps (keepsGrants_edit s p f hf.state hf.share)
  opening s p _ law := law.of_keeps (keepsGrants_opening s p)
  shut s p _ _ _ law := law.of_keeps (keepsGrants_edit s p _ rfl rfl)
  walk _ q law := law.walk q
  endRun _ p o b _ law := law.endRun p o b
  upgrade _ p c _ law := law.upgrade p c
  file _ _ c n _ enrolled noRun noRequest law := law.file c n enrolled noRun noRequest

/-! ## Record events -/

section
variable {s : State} (law : s.GrantLaw)
include law

/-- A run cut short leaves its trailer idle. -/
theorem State.GrantLaw.cutShort (p : Post) (c : AbortCause) : (s.cutShort p c).GrantLaw ∧ (s.cutShort p c).Idle p := by
  have ended := law.endRun p (.aborted c) false
  have keeps := keepsGrants_removeRequest (s.endRun p (.aborted c) false) p
  exact ⟨ended.of_keeps keeps, (keeps.share p).trans (law.share_endRun p (.aborted c) false),
    ended.unfiled_removeRequest p⟩

/-- A record whose trailer has been cut short is made vacant, with findings and entry gone. -/
theorem State.GrantLaw.vacate (p : Post) (c : AbortCause) {t : State} (h : KeepsGrants (s.cutShort p c) t) :
    (t.putTrailer p .vacant).GrantLaw :=
  have ⟨cut, idle⟩ := law.cutShort p c
  (cut.of_keeps h).put (idle.keeps h) (r := .vacant) rfl

theorem State.GrantLaw.depart (p : Post) : (s.depart p).GrantLaw := by
  unfold State.depart
  dsimp only
  exact law.vacate p .departure (((keepsGrants_emptySets _ p).trans (keepsGrants_item _ p _)).trans
    (keepsGrants_dirRemove _ p))

theorem State.GrantLaw.rebuildAway (p : Post) : (s.rebuildAway p).GrantLaw := by
  unfold State.rebuildAway
  exact (law.vacate p .rebuild ((keepsGrants_dirRemove _ p).trans (keepsGrants_emptySets _ p))).of_keeps
    (keepsGrants_recordRebuild _)

end

/-- An idle trailer is idle beside a record event of another one. -/
theorem State.Idle.cutShort {s : State} {q : Post} (h : s.Idle q) (p : Post) (c : AbortCause) : (s.cutShort p c).Idle q :=
  (h.endRun p (.aborted c) false).keeps (keepsGrants_removeRequest _ p)

theorem State.Idle.put {s : State} {q : Post} (h : s.Idle q) (p : Post) {r : TrailerRecord} (hr : r.run = none) :
    (s.putTrailer p r).Idle q := by
  refine ⟨?_, h.unfiled⟩
  by_cases hq : q = p
  · subst hq
    rw [State.trailer_putTrailer_self]
    exact TrailerRecord.run_eq_none_iff.mp hr
  · rw [State.trailer_putTrailer_other s p q r hq]
    exact h.share

theorem State.Idle.dirInsert {s : State} {q : Post} (h : s.Idle q) (u : Word32) (p : Post) : (s.dirInsert u p).Idle q :=
  ⟨h.share, h.unfiled⟩

theorem State.GrantLaw.dirInsert {s : State} (law : s.GrantLaw) (u : Word32) (p : Post) : (s.dirInsert u p).GrantLaw :=
  law.of_keeps (.of_same rfl rfl rfl)

theorem TrailerRecord.carried_run (t : TrailerRecord) (m : Word16) (now : Time) : (t.carried m now).run = none := rfl

theorem TrailerRecord.rebuilt_run (u : Word32) (m : Word16) (now : Time) (b : Option (ProfileId × Profile)) :
    (TrailerRecord.rebuilt u m now b).run = none := by
  unfold TrailerRecord.rebuilt
  split <;> rfl

theorem State.Idle.rebuildAway {s : State} {q : Post} (h : s.Idle q) (p : Post) : (s.rebuildAway p).Idle q := by
  unfold State.rebuildAway
  have all := (keepsGrants_dirRemove (s.cutShort p .rebuild) p).trans (keepsGrants_emptySets _ p)
  exact (((h.cutShort p .rebuild).keeps all).put p (r := .vacant) rfl).keeps (keepsGrants_recordRebuild _)

section
variable {s : State} (law : s.GrantLaw) {p : Post} (idle : s.Idle p)
include law idle

theorem State.GrantLaw.announce (i : ProfileId) {f : TrailerRecord → TrailerRecord}
    (hf : (f (s.trailer p)).share = (s.trailer p).share) : ((s.editTrailer p f).announceEnrolment p i).GrantLaw :=
  (law.edit idle hf).of_keeps ((keepsGrants_item _ p (.enrolled i)).trans (keepsGrants_clearFinding _ p .unknownModel false))

theorem State.GrantLaw.tryMatch (b : Bool) : (s.tryMatch p b).GrantLaw := by
  unfold State.tryMatch
  split
  · split
    · exact law.announce idle _ rfl
    · exact law.announce idle _ rfl
  · exact law.of_keeps (keepsGrants_produce s p _ _ _)

theorem State.GrantLaw.settleBinding : (s.settleBinding p).1.GrantLaw ∧ (s.settleBinding p).1.Idle p := by
  have edited {f : TrailerRecord → TrailerRecord} (hf : (f (s.trailer p)).share = (s.trailer p).share) :
      (s.editTrailer p f).GrantLaw ∧ (s.editTrailer p f).Idle p := by
    refine ⟨law.edit idle hf, ?_, fun q r hr => ?_⟩
    · exact (State.field_editTrailer s p f TrailerRecord.share (fun _ => rfl) hf p).trans idle.share
    · have same : (s.editTrailer p f).queue q = s.queue q :=
        congrArg (fun v : Vector (List Request) 9 => v.get q) (s.editTrailer_queues p f)
      rw [same] at hr
      exact idle.unfiled q r hr
  unfold State.settleBinding
  split
  · exact edited (f := fun t => { t with state := .enrolled }) rfl
  · exact edited (f := fun t => { t with state := .arriving, profile := none }) rfl

theorem State.GrantLaw.hold (o : Post) (rep : StatusReport) : (s.hold o p rep).GrantLaw :=
  (law.put idle (r := { TrailerRecord.fresh rep.serial rep.model s.now with state := .held }) rfl).of_keeps
    (keepsGrants_produce _ p .duplicateUnit o.val 0)

theorem State.GrantLaw.arriveRebuilt (rep : StatusReport) : (s.arriveRebuilt p rep).GrantLaw := by
  have placed := (law.put idle (TrailerRecord.rebuilt_run rep.serial rep.model s.now (s.matching rep.model))).dirInsert
    rep.serial p
  unfold State.arriveRebuilt
  dsimp only
  split
  · exact placed.of_keeps (keepsGrants_produce _ p _ _ _)
  · exact placed

/-- A fresh record with its entry, and the match tried on it. -/
theorem State.GrantLaw.arriveFresh (u : Word32) (m : Word16) (now : Time) {t : State}
    (h : KeepsGrants ((s.putTrailer p (.fresh u m now)).dirInsert u p) t) (b : Bool) : (t.tryMatch p b).GrantLaw :=
  (((law.put idle (r := .fresh u m now) rfl).dirInsert u p).of_keeps h).tryMatch
    (((idle.put p (r := .fresh u m now) rfl).dirInsert u p).keeps h) b

theorem State.GrantLaw.arriveUnknown (rep : StatusReport) : (s.arriveUnknown p rep).GrantLaw :=
  law.arriveFresh idle rep.serial rep.model s.now
    (keepsGrants_item _ p (.arrived rep.serial rep.model)) false

theorem State.GrantLaw.placedCarried (o : Post) (rep : StatusReport) :
    (s.placedCarried o p rep).GrantLaw ∧ (s.placedCarried o p rep).Idle o ∧ (s.placedCarried o p rep).Idle p := by
  obtain ⟨cut, ownerIdle⟩ := law.cutShort o .move
  have withdrawn := keepsGrants_withdrawActions (s.cutShort o .move) p
  have cutIdle := idle.cutShort o .move
  have placedIdle {q : Post} (h : (s.cutShort o .move).Idle q) : (s.placedCarried o p rep).Idle q :=
    (h.keeps withdrawn).put p (TrailerRecord.carried_run _ _ _)
  exact ⟨(cut.of_keeps withdrawn).put (cutIdle.keeps withdrawn) (TrailerRecord.carried_run _ _ _),
    placedIdle ownerIdle, placedIdle cutIdle⟩

theorem State.GrantLaw.leftBehind (o : Post) (rep : StatusReport) :
    (s.leftBehind o p rep).GrantLaw ∧ (s.leftBehind o p rep).Idle p := by
  obtain ⟨placed, ownerIdle, postIdle⟩ := law.placedCarried idle o rep
  have acting : KeepsGrants (s.placedCarried o p rep) (s.actingCarried o p rep) :=
    (keepsGrants_settleActions _ p).trans (keepsGrants_clearFinding _ p .linkLost false)
  have vacant := (placed.of_keeps acting).put (ownerIdle.keeps acting) (r := .vacant) rfl
  have vacantIdle := (postIdle.keeps acting).put o (r := .vacant) rfl
  have ended : KeepsGrants ((s.actingCarried o p rep).putTrailer o .vacant) (s.leftBehind o p rep) :=
    (keepsGrants_withdrawActions _ o).trans (keepsGrants_dirRepoint _ p rep.serial)
  exact ⟨vacant.of_keeps ended, vacantIdle.keeps ended⟩

theorem State.GrantLaw.carry (o : Post) (rep : StatusReport) : (s.carry o p rep).GrantLaw := by
  obtain ⟨left, leftIdle⟩ := law.leftBehind idle o rep
  obtain ⟨bound, boundIdle⟩ := left.settleBinding leftIdle
  rw [State.carry_eq]
  refine State.GrantLaw.of_keeps ?_ (keepsGrants_item _ p (.moved o p))
  split
  · exact bound
  · exact bound.tryMatch boundIdle true

end

/-! ## A status at the table -/

section
variable {a : Arrival} (law : a.s.GrantLaw) {p : Post} (rep : StatusReport)
include law

theorem GrantLaw.move (idle : a.s.Idle p) (o : Post) : (a.move o p rep).s.GrantLaw := by
  unfold Arrival.move
  dsimp only
  split
  · dsimp only
    exact law.carry idle o rep
  · dsimp only
    have emptied := keepsGrants_emptySets (a.s.rebuildAway o) p
    exact ((law.rebuildAway o).of_keeps emptied).arriveRebuilt ((idle.rebuildAway o).keeps emptied) rep

theorem GrantLaw.arrive (idle : a.s.Idle p) : (a.arrive p rep).s.GrantLaw := by
  unfold Arrival.arrive
  split
  · split
    · exact GrantLaw.move law rep idle _
    · exact law.hold idle _ _
  · unfold Arrival.on
    dsimp only
    split
    · exact law.arriveRebuilt idle rep
    · exact law.arriveUnknown idle rep

theorem GrantLaw.retryHeld (held : (a.s.trailer p).state = .held) : (a.retryHeld p rep).s.GrantLaw := by
  have idle : a.s.Idle p := law.idle_of_not_enrolled (by rw [held]; nofun)
  unfold Arrival.retryHeld
  split
  · have cleared := ((keepsGrants_item a.s p (.arrived rep.serial rep.model)).trans
      (keepsGrants_clearFinding _ p .duplicateUnit false)).trans (keepsGrants_emptySets _ p)
    unfold Arrival.on
    dsimp only
    exact (law.of_keeps cleared).arriveFresh (idle.keeps cleared) rep.serial rep.model a.s.now (.of_same rfl rfl rfl)
      false
  · split
    · have cleared := keepsGrants_clearFinding a.s p .duplicateUnit false
      unfold Arrival.on
      exact GrantLaw.move (a := { a with s := _ }) (law.of_keeps cleared) rep (idle.keeps cleared) _
    · exact law

theorem GrantLaw.same : (a.same p rep).s.GrantLaw := by
  unfold Arrival.same
  split
  · exact law
  · unfold Arrival.on
    dsimp only
    exact law.of_keeps ((keepsGrants_edit a.s p _ rfl rfl).trans (keepsGrants_clearLinkLost _ p 2))
  · rename_i arriving
    have idle : a.s.Idle p := law.idle_of_not_enrolled (by rw [arriving]; nofun)
    have edited := keepsGrants_edit a.s p
      (fun t => { t with model := if rep.model = 0 then t.model else rep.model }) rfl rfl
    unfold Arrival.on
    dsimp only
    exact (law.of_keeps edited).tryMatch (idle.keeps edited) false
  · exact GrantLaw.retryHeld law rep ‹_›
  · rename_i restored
    have idle : a.s.Idle p := law.idle_of_not_enrolled (by rw [restored]; nofun)
    have edited := keepsGrants_edit a.s p (fun t => { t with model := rep.model }) rfl rfl
    obtain ⟨settled, settledIdle⟩ := (law.of_keeps edited).settleBinding (idle.keeps edited)
    unfold Arrival.on
    dsimp only
    split
    · split
      · exact settled.of_keeps (keepsGrants_item _ p _)
      · exact settled
    · exact settled.tryMatch settledIdle true

theorem GrantLaw.lifecycle : (a.lifecycle p rep).s.GrantLaw := by
  have reported : (if a.rebuilt.isSome then a.on fun s => s.item p (.departed 0) else a).s.GrantLaw := by
    split
    · exact law.of_keeps (keepsGrants_item a.s p (.departed 0))
    · exact law
  unfold Arrival.lifecycle
  dsimp only
  split
  · split
    · exact law.depart p
    · exact reported
  · split
    · have counted := keepsGrants_edit a.s p
        (fun t => { t with unitAbsent := min 3 ((a.s.trailer p).unitAbsent + 1) }) rfl rfl
      unfold Arrival.on State.countAbsent
      dsimp only
      split
      · exact law.of_keeps (counted.trans (keepsGrants_produce _ p _ _ _))
      · exact law.of_keeps counted
    · exact reported
  · split
    · rename_i vacant
      exact GrantLaw.arrive law rep (law.idle_of_not_enrolled (by rw [vacant]; nofun))
    · split
      · exact GrantLaw.same law rep
      · refine GrantLaw.arrive (a := { a with s := a.s.depart p, before := _ }) (law.depart p) rep
          ((law.depart p).idle_of_not_enrolled ?_)
        rw [(vacated_depart a.s p).vacant]
        nofun

end

theorem GrantLaw.verifyAt {s : State} (law : s.GrantLaw) (p : Post) : (s.verifyAt p).s.GrantLaw := by
  unfold State.verifyAt
  dsimp only
  split
  · exact law
  · split
    · rename_i vacant
      have idle : s.Idle p := law.idle_of_not_enrolled (by rw [vacant]; nofun)
      dsimp only
      exact (law.put idle (r := .vacant) rfl).of_keeps (keepsGrants_recordRebuild _)
    · dsimp only
      exact law.rebuildAway p

theorem GrantLaw.statusAtTable {s : State} (law : s.GrantLaw) (p : Post) (rep : StatusReport) (b : Bool) :
    (s.statusAtTable p rep b).GrantLaw := by
  have stamped : (s.stamped p rep).s.GrantLaw := by
    refine (GrantLaw.lifecycle (GrantLaw.verifyAt law p) (p := p) rep).of_keeps ?_
    change KeepsGrants _ (State.stampStatus _ p)
    unfold State.stampStatus
    split
    · exact .of_same rfl rfl rfl
    · exact keepsGrants_edit _ p _ rfl rfl
  have handled : ((s.stamped p rep).handled p rep b).GrantLaw := by
    unfold Arrival.handled
    split
    · rename_i enrolled
      exact Kit.grantLaw.evaluate trivial _ rep b enrolled.1 stamped
    · exact stamped
  rw [State.statusAtTable_eq]
  split
  · split
    · exact handled
    · exact handled.of_keeps (keepsGrants_produce _ p _ _ _)
  · exact handled

theorem GrantLaw.restoreRecord {s : State} (law : s.GrantLaw) (v : Saved) : (s.restoreRecord v).GrantLaw := by
  unfold State.restoreRecord
  dsimp only
  split
  · exact law
  · rename_i taken
    simp only [Bool.or_eq_true, not_or, Bool.not_eq_true, Option.isSome_eq_false_iff, Option.isNone_iff_eq_none,
      decide_eq_true_eq, not_not] at taken
    obtain ⟨-, vacant⟩ := taken
    have idle : s.Idle v.post := law.idle_of_not_enrolled (by rw [vacant]; nofun)
    exact (law.put idle (r := v.record s.now s.config.hp) rfl).of_keeps
      ((keepsGrants_dirInsert _ v.post _).trans (keepsGrants_settleActions _ v.post))

theorem State.GrantLaw.of_empty {s : State} (records : ∀ p, s.trailer p = .vacant) (queues : ∀ q, s.queue q = [])
    (loads : ∀ q, s.load q = 0) : s.GrantLaw where
  runEnrolled p hp := by
    unfold State.run at hp
    rw [records p] at hp
    cases hp
  requestEnrolled q r hr := by rw [queues q] at hr; cases hr
  onePerQueue q := by rw [queues q]; exact List.nodup_nil
  oneQueue q q' _ r hr := by rw [queues q] at hr; cases hr
  inOrder q := by rw [queues q]; exact List.Pairwise.nil
  committed q := by
    rw [loads q, State.grantedLoad_eq_sum]
    exact (Finset.sum_eq_zero fun p _ => by rw [records p]; rfl).symm

/-! ## Every step -/

theorem KeepsGrants.of_lawful {s t : State} (e : t.lawful = s.lawful) : KeepsGrants s t :=
  .of_same (show t.lawful.records = s.lawful.records by rw [e]) (show t.lawful.queues = s.lawful.queues by rw [e])
    (show t.lawful.committed = s.lawful.committed by rw [e])

/-- The law of the grants is kept, as a kit. -/
def StepKit.grants : StepKit where
  toKit := Kit.grantLaw
  free := fun e law => law.of_keeps (.of_lawful e)
  depart _ p law := law.depart p
  status _ p rep b law := GrantLaw.statusAtTable law p rep b
  enrol _ _ i _ arriving law := law.announce (law.idle_of_not_enrolled (by rw [arriving]; nofun)) i rfl
  declare s p _ _ law := law.of_keeps (keepsGrants_edit s p _ rfl rfl)
  disclaim s p law := law.of_keeps (keepsGrants_edit s p _ rfl rfl)
  remap _ law := law.remap
  start s _ := .of_empty (fun p => Vector.getElem_replicate p.isLt) (fun q => Vector.getElem_replicate q.isLt)
    (fun q => Vector.getElem_replicate q.isLt)
  restore _ v law := GrantLaw.restoreRecord law v
  flush s p law := law.of_keeps (.of_same (by rw [State.flushStation_changes]; rfl)
    (by rw [State.flushStation_changes]; rfl) (by rw [State.flushStation_changes]; rfl))
  reply _ _ _ law := law.of_keeps (.of_same rfl rfl rfl)
  pump s law := law.of_keeps (.of_same (by rw [State.pumpTx_changes]) (by rw [State.pumpTx_changes])
    (by rw [State.pumpTx_changes]))
  discard _ law := law.of_keeps (.of_same rfl rfl rfl)
  overrun _ law := law.of_keeps (.of_same rfl rfl rfl)
  takeTop _ _ _ _ law := law.of_keeps (.of_same rfl rfl rfl)
  beginWrite _ _ _ _ law := law.of_keeps (.of_same rfl rfl rfl)
  endWrite _ _ _ _ law := law.of_keeps (.of_same rfl rfl rfl)

/-- Settles O6: every step keeps runs, requests, queue order and committed loads in agreement. -/
theorem grantsStayLawful : Obligations.GrantsStayLawful := fun _ _ law e =>
  step_keeps State.GrantLaw StepKit.grants (fun x => x) (fun _ _ law => law.of_keeps (.of_same rfl rfl rfl))
    (fun _ law => law.of_keeps (.of_same rfl rfl rfl)) law e

end Sys2Proof.Machine


/-! # The trailer table while it is flushed (R195)

What the commands leave alone between the beginning of a restart and the start, and the statement O8. -/

namespace Sys2Proof.Machine

/-- A state with everything cleared but the trailer table, the arbiter, the findings and the rounds. -/
def State.standing (s : State) : State :=
  { State.reset with
    records := s.records, directory := s.directory, queues := s.queues, committed := s.committed, actions := s.actions
    stack := s.stack, nextPush := s.nextPush, lineA := s.lineA, lineB := s.lineB }

/-- The part of a state that an operation keeps for each member of a list it keeps over the list. -/
theorem State.forEach_same {α β : Type} (π : State → α) (s : State) (l : List β) (f : State → β → State)
    (h : ∀ s, ∀ b ∈ l, π (f s b) = π s) : π (s.forEach l f) = π s := by
  induction l generalizing s with
  | nil => rfl
  | cons b l ih =>
    exact (ih (f s b) fun s b hb => h s b (List.mem_cons_of_mem _ hb)).trans (h s b List.mem_cons_self)

/-- A state with nothing cleared of what stands, and its phase. -/
structure Stands (s t : State) : Prop where
  standing : t.standing = s.standing
  phase : t.phase = s.phase

theorem Stands.refl (s : State) : Stands s s := ⟨rfl, rfl⟩

theorem Stands.trans {s t u : State} (x : Stands s t) (y : Stands t u) : Stands s u :=
  ⟨y.standing.trans x.standing, y.phase.trans x.phase⟩

theorem State.running_of_restartPending {s : State} (h : s.phase.restartPending = true) : s.running = false := by
  unfold State.running
  cases hp : s.phase <;> first | rfl | (rw [hp] at h; cases h)

theorem stands_pumpTx (s : State) : Stands s s.pumpTx := by
  rw [State.pumpTx_changes]
  exact ⟨rfl, rfl⟩

theorem stands_flushStation (s : State) (p : Post) : Stands s (s.flushStation p) := by
  rw [State.flushStation_changes]
  exact ⟨rfl, rfl⟩

/-! ## The host line while a restart is pending -/

section
variable {s : State} (pending : s.phase.restartPending = true)
include pending

theorem stands_takeRequest (f : HostFrame) : Stands s (s.takeRequest f) := by
  unfold State.takeRequest
  split
  · exact ⟨rfl, rfl⟩
  · exact ⟨rfl, rfl⟩
  · rw [if_pos pending]
    exact ⟨rfl, rfl⟩

theorem stands_serveHolding : Stands s s.serveHolding := by
  unfold State.serveHolding
  split
  · exact .refl s
  · split
    · exact Stands.trans (s := s) (t := { s with held := none }) ⟨rfl, rfl⟩
        (stands_takeRequest (s := { s with held := none }) pending _)
    · exact .refl s

theorem stands_offerFrame (f : HostFrame) : Stands s (s.offerFrame f) := by
  unfold State.offerFrame
  split
  · have served : Stands { s with held := some f } (State.serveHolding { s with held := some f }) :=
      stands_serveHolding pending
    exact (Stands.trans (s := s) (t := { s with held := some f }) ⟨rfl, rfl⟩ served).trans (stands_pumpTx _)
  · exact ⟨rfl, rfl⟩

theorem stands_receiveFrame (f : HostFrame) : Stands s (s.receiveFrame f) := by
  unfold State.receiveFrame
  split
  · exact .refl s
  · split
    · exact ⟨rfl, rfl⟩
    · exact stands_offerFrame pending f

theorem stands_addContents (contents : List Byte) : Stands s (s.addContents contents) := by
  unfold State.addContents
  split
  · exact ⟨rfl, rfl⟩
  · split
    · split
      · exact Stands.trans (s := s) (t := { s with rx := .hunting }) ⟨rfl, rfl⟩
          (stands_offerFrame (s := { s with rx := .hunting }) pending _)
      · exact ⟨rfl, rfl⟩
    · exact ⟨rfl, rfl⟩

theorem stands_receiveByte (b : Byte) : Stands s (s.receiveByte b) := by
  unfold State.receiveByte
  split
  · split
    · exact ⟨rfl, rfl⟩
    · exact .refl s
  · split
    · exact ⟨rfl, rfl⟩
    · split
      · exact stands_addContents pending _
      · split
        · exact ⟨rfl, rfl⟩
        · exact stands_addContents pending _

theorem stands_receiveBytes (bytes : List Byte) : Stands s (s.receiveBytes bytes) := by
  unfold State.receiveBytes
  split
  · clear ‹s.hostServed = true›
    induction bytes generalizing s with
    | nil => exact .refl s
    | cons b bytes ih =>
      have first := stands_receiveByte pending b
      exact first.trans (ih (by rw [first.phase]; exact pending))
  · exact .refl s

theorem stands_transmitDone : Stands s s.transmitDone := by
  have pumped : Stands s ({ s with tx := none }.pumpTx) :=
    Stands.trans (s := s) (t := { s with tx := none }) ⟨rfl, rfl⟩ (stands_pumpTx _)
  exact pumped.trans (stands_serveHolding (by rw [pumped.phase]; exact pending))

end

theorem stands_receiveGap (s : State) : Stands s s.receiveGap := by
  unfold State.receiveGap
  split
  · exact .refl s
  · exact ⟨rfl, rfl⟩

theorem stands_holdExpires (s : State) (p : Post) : Stands s (s.holdExpires p) := by
  unfold State.holdExpires
  split
  · exact .refl s
  · split
    · exact stands_flushStation s p
    · exact .refl s

/-! ## Lines and timers while the module does not run -/

section
variable {s : State} (stopped : s.running = false)
include stopped

theorem startRound_of_not_running (l : Line) : s.startRound l = s := by
  unfold State.startRound State.roundDue
  rw [stopped]
  rfl

theorem startTimer_of_not_running (p : Post) : s.startTimer p = s := by
  unfold State.startTimer
  split
  · rfl
  · exact if_neg fun h => by rw [stopped] at h; cases h.1

theorem durationTimer_of_not_running (p : Post) : s.durationTimer p = s := by
  unfold State.durationTimer
  split
  · rfl
  · exact if_neg fun h => by rw [stopped] at h; cases h.1

theorem suspensionTimer_of_not_running (p : Post) : s.suspensionTimer p = s := by
  unfold State.suspensionTimer
  split
  · rfl
  · exact if_neg fun h => by rw [stopped] at h; cases h.1

theorem stuckTimer_of_not_running (p : Post) : s.stuckTimer p = s := by
  unfold State.stuckTimer
  split
  · rfl
  · split
    · exact if_neg fun h => by rw [stopped] at h; cases h.1
    all_goals rfl

end

section
variable {s : State} {l : Line} (idle : (s.line l).round = none)
include idle

theorem frameEnds_of_no_round (bytes : List Byte) : s.frameEnds l bytes = s := by
  unfold State.frameEnds
  rw [idle]

theorem exchangeTimesOut_of_no_round : s.exchangeTimesOut l = s := by
  unfold State.exchangeTimesOut
  rw [idle]

end

/-! ## Hold-up -/

@[simp] theorem State.recordRebuild_standing (s : State) : s.recordRebuild.standing = s.standing := by
  unfold State.recordRebuild
  dsimp only
  split
  · split <;> rfl
  · rfl

@[simp] theorem State.beginFlush_standing (s : State) : s.beginFlush.standing = s.standing :=
  State.forEach_same State.standing s (s.flushOrder.filter fun p => !(s.trailer p).verifies)
    (fun s' _ => s'.recordRebuild) fun s' _ _ => s'.recordRebuild_standing

@[simp] theorem State.abandonWrite_standing (s : State) : s.abandonWrite.standing = s.standing := by
  unfold State.abandonWrite
  split <;> rfl

theorem pendingCause_standing (s : State) (c : Reason) : (s.pendingCause c).standing = s.standing := by
  unfold State.pendingCause
  dsimp only
  split
  · rw [State.beginFlush_standing, State.abandonWrite_standing]
    rfl
  · rfl

theorem loseMains_standing {s : State} (pending : s.phase.restartPending = true) : s.loseMains.standing = s.standing := by
  unfold State.loseMains State.takeCause
  split
  · rename_i h
    rw [show s.phase = .running from h] at pending
    cases pending
  · exact pendingCause_standing _ _
  · exact pendingCause_standing _ _
  · exact pendingCause_standing _ _
  · rfl
  · rfl

@[simp] theorem State.editTrailer_phase (s : State) (p : Post) (f : TrailerRecord → TrailerRecord) :
    (s.editTrailer p f).phase = s.phase := by
  rw [State.editTrailer_changes]

theorem restoreRecord_phase (s : State) (v : Saved) : (s.restoreRecord v).phase = s.phase := by
  unfold State.restoreRecord
  dsimp only
  split
  · rfl
  · exact State.of_framed (fun f => f.settleActions _ v.post) State.phase fun _ => rfl

/-- A start leaves no restart pending. -/
theorem beginStart_phase (s : State) : s.beginStart.phase = .starting Config.lastImage := by
  unfold State.beginStart
  dsimp only
  split
  · exact State.forEach_same State.phase _ _ _ fun s v _ => restoreRecord_phase s v
  · rfl

theorem flushEnded_stands {s : State} (h : s.flushEnded.phase.restartPending = true) :
    s.flushEnded.standing = s.standing := by
  unfold State.flushEnded at h ⊢
  split
  · split
    · rename_i waits mains
      rw [if_pos waits, if_pos mains, State.mainsDip, beginStart_phase] at h
      cases h
    · rfl
  · rename_i waits
    rw [if_neg waits, beginStart_phase] at h
    cases h

theorem flushNext_stands {s : State} (h : s.flushNext.phase.restartPending = true) :
    s.flushNext.standing = s.standing := by
  unfold State.flushNext at h ⊢
  split at h <;> try rfl
  · dsimp only at h ⊢
    split at h
    · exact flushEnded_stands h
    · rfl
  · exact flushEnded_stands h

theorem returnMains_stands {s : State} (h : s.returnMains.phase.restartPending = true) :
    s.returnMains.standing = s.standing := by
  unfold State.returnMains at h ⊢
  dsimp only at h ⊢
  split at h <;> try rfl
  rw [State.mainsDip, beginStart_phase] at h
  cases h

theorem eraseNext_of_restartPending {s : State} (h : s.phase.restartPending = true) : s.eraseNext = s := by
  unfold State.eraseNext
  cases hp : s.phase with
  | starting b => rw [hp] at h; cases h
  | _ => rfl

theorem powerUp_of_restartPending {s : State} (h : s.phase.restartPending = true) (b : Bool) : s.powerUp b = s := by
  unfold State.powerUp
  cases hp : s.phase with
  | off => rw [hp] at h; cases h
  | _ => rfl

theorem failSupply_phase (s : State) : s.failSupply.phase = .off := by
  unfold State.failSupply
  cases hp : s.phase <;> first | rfl | exact hp

/-! ## A write that completes -/

/-- A state with everything cleared but the rounds. -/
def State.rounds (s : State) : Option Round × Option Round := (s.lineA.round, s.lineB.round)

theorem State.rounds_of_standing {s t : State} (h : t.standing = s.standing) : t.rounds = s.rounds := by
  have (u : State) : u.rounds = u.standing.rounds := rfl
  rw [this, this s, h]

theorem takeContent_rounds {s : State} (stopped : s.running = false) (c : BlockContent) :
    (s.takeContent c).rounds = s.rounds := by
  have put : ({ s with config := s.config.put c } : State).rounds = s.rounds := rfl
  unfold State.takeContent
  dsimp only
  split
  · rw [stopped]
    exact put
  · rw [stopped]
    exact put
  · rw [stopped]
    exact put
  · rw [stopped]
    exact put
  · exact put
  · unfold State.profileWritten
    split
    · rw [show ({ s with config := s.config.put _ } : State).running = false from stopped]
      refine (State.forEach_same State.rounds _ _ _ fun s p _ => ?_).trans put
      unfold State.resetFuelQuietly State.rounds
      rw [State.editTrailer_changes]
    · exact put

theorem completeWrite_rounds {s : State} (stopped : s.running = false) : s.completeWrite.rounds = s.rounds := by
  unfold State.completeWrite
  split
  · rfl
  · rename_i w _
    dsimp only
    have flush (t : State) (ht : t.rounds = s.rounds) : (if t.phase = .flushWaiting then t.beginFlush else t).rounds = s.rounds := by
      split
      · exact (State.rounds_of_standing t.beginFlush_standing).trans ht
      · exact ht
    refine flush _ ?_
    split
    · exact (takeContent_rounds (by exact stopped) _).trans rfl
    · rfl

/-! ## Every command -/

/-- From a pending restart to a pending restart the table stands, but for a write that completes. -/
theorem effect_standing {s : State} {i : Instr} (pending : s.phase.restartPending = true) (a : s.lineA.round = none)
    (b : s.lineB.round = none) (after : (s.effect i).phase.restartPending = true) (h : i ≠ .storeWriteComplete) :
    (s.effect i).standing = s.standing := by
  have stopped := State.running_of_restartPending pending
  have idle (l : Line) : (s.line l).round = none := by cases l <;> assumption
  cases i with
  | roundStart l => exact congrArg State.standing (startRound_of_not_running stopped l)
  | status l bytes => exact congrArg State.standing (frameEnds_of_no_round (idle l) bytes)
  | responseWindowExpiry l => exact congrArg State.standing (exchangeTimesOut_of_no_round (idle l))
  | postFrameGapTimeout l => exact congrArg State.standing (exchangeTimesOut_of_no_round (idle l))
  | postLineStrayBytes l bytes => rfl
  | startTimerExpiry p => exact congrArg State.standing (startTimer_of_not_running stopped p)
  | maxDurationExpiry p => exact congrArg State.standing (durationTimer_of_not_running stopped p)
  | suspensionLimitExpiry p => exact congrArg State.standing (suspensionTimer_of_not_running stopped p)
  | stuckTimerExpiry p => exact congrArg State.standing (stuckTimer_of_not_running stopped p)
  | gatherHoldExpiry p => exact (stands_holdExpires s p).standing
  | hostFrame bytes => exact (stands_receiveBytes pending bytes).standing
  | hostFrameGapTimeout => exact (stands_receiveGap s).standing
  | storeWriteComplete => exact absurd rfl h
  | transmitComplete => exact (stands_transmitDone pending).standing
  | mainsLoss => exact loseMains_standing pending
  | imageBlockWritten => exact flushNext_stands after
  | mainsReturn => exact returnMains_stands after
  | supplyFail =>
    rw [show (s.effect .supplyFail).phase = .off from failSupply_phase s] at after
    cases after
  | powerOn good => exact congrArg State.standing (powerUp_of_restartPending pending good)
  | keySwitchChange k => rfl
  | lineRateSwitchChange r => rfl
  | imageBlockErased => exact congrArg State.standing (eraseNext_of_restartPending pending)
  | _ => exact (stands_receiveFrame pending _).standing

/-- Settles O8: no owner takes a request and no timer and no line acts while a restart is pending. -/
theorem tableStandsStill : Obligations.TableStandsStill := by
  intro i s t pending a b e after
  rw [exec_next_iff] at e
  subst e
  have pumped := stands_pumpTx (s.effect i)
  rw [pumped.phase] at after
  have table (h : i ≠ .storeWriteComplete) : (s.effect i).pumpTx.standing = s.standing :=
    pumped.standing.trans (effect_standing pending a b after h)
  have rounds : (s.effect i).pumpTx.rounds = s.rounds := by
    by_cases h : i = .storeWriteComplete
    · subst h
      exact (State.rounds_of_standing pumped.standing).trans
        (completeWrite_rounds (State.running_of_restartPending pending))
    · exact State.rounds_of_standing (table h)
  obtain ⟨roundA, roundB⟩ := Prod.mk.inj rounds
  refine ⟨roundA.trans a, roundB.trans b, fun h => ?_⟩
  have same {α : Type} (π : State → α) : π (s.effect i).pumpTx.standing = π s.standing := by rw [table h]
  exact ⟨same State.records, same State.directory, same State.queues, same State.committed, same State.actions,
    same State.stack, same State.nextPush⟩

end Sys2Proof.Machine


/-! # Bytes on the host line (10.1, 10.3)

Numbers as bytes, the request catalogue, escaping, and how the receive side puts a frame together: the statements O9
and O10, and what a request row does when its owner takes it. -/

namespace Sys2Proof.Machine

/-! ## Numbers as bytes (R189) -/

@[simp] theorem beBytes_length (k n : Nat) : (beBytes k n).length = k := by
  induction k with
  | zero => rfl
  | succ k ih => simp [beBytes, ih]

theorem foldl_beBytes (k n a : Nat) :
    (beBytes k n).foldl (fun m b => m * 256 + b.toNat) a = a * 256 ^ k + n % 256 ^ k := by
  induction k generalizing a with
  | zero => simp [beBytes, Nat.mod_one]
  | succ k ih =>
    have digit : (BitVec.ofNat 8 (n >>> (8 * k))).toNat = n / 256 ^ k % 256 := by
      rw [BitVec.toNat_ofNat, Nat.shiftRight_eq_div_pow, Nat.pow_mul]
    rw [beBytes, List.foldl_cons, ih, digit, Nat.mod_pow_succ]
    ring

@[simp] theorem beNat_beBytes (k n : Nat) : beNat (beBytes k n) = n % 256 ^ k := by
  unfold beNat
  rw [foldl_beBytes]
  simp

@[simp] theorem bytes16_length (w : Word16) : (bytes16 w).length = 2 := beBytes_length _ _

@[simp] theorem bytes32_length (w : Word32) : (bytes32 w).length = 4 := beBytes_length _ _

@[simp] theorem beNat_bytes16 (w : Word16) : beNat (bytes16 w) = w.toNat := by
  unfold bytes16
  rw [beNat_beBytes]
  exact Nat.mod_eq_of_lt w.isLt

@[simp] theorem beNat_bytes32 (w : Word32) : beNat (bytes32 w) = w.toNat := by
  unfold bytes32
  rw [beNat_beBytes]
  exact Nat.mod_eq_of_lt w.isLt

/-- A field within a frame. -/
theorem drop_take_field {pre field post : List Byte} {i n : Nat} (hi : pre.length = i) (hn : field.length = n) :
    ((pre ++ field ++ post).drop i).take n = field := by
  subst hi hn
  simp

theorem word16At_field {pre post : List Byte} {w : Word16} {i : Nat} (hi : pre.length = i) :
    word16At (pre ++ bytes16 w ++ post) i = w := by
  unfold word16At
  rw [drop_take_field hi (bytes16_length w), beNat_bytes16]
  simp

theorem word32At_field {pre post : List Byte} {w : Word32} {i : Nat} (hi : pre.length = i) :
    word32At (pre ++ bytes32 w ++ post) i = w := by
  unfold word32At
  rw [drop_take_field hi (bytes32_length w), beNat_bytes32]
  simp

/-! ## The request catalogue (10.3) -/

@[simp] theorem ofCode_code (t : RequestType) : RequestType.ofCode t.code = some t := by
  cases t <;> decide

/-- A frame of the catalogue with an allowed length reads as its command. -/
theorem decodeRequest_of_code {t : RequestType} {tag : Word16} {p : List Byte} (h : t.lengthOk p.length = true) :
    decodeRequest ⟨t.code, tag, p⟩ = .request (t.read tag p) := by
  simp [decodeRequest, h]

/-- The frame of a row that is a request is of the catalogue, has an allowed length and spells the row. -/
structure Spells (i : Instr) (f : HostFrame) (t : RequestType) : Prop where
  code : f.type = t.code
  length : t.lengthOk f.payload.length = true
  read : t.read f.tag f.payload = i

theorem Spells.decodes {i : Instr} {f : HostFrame} {t : RequestType} (h : Spells i f t) :
    decodeRequest f = .request i := by
  obtain ⟨type, tag, payload⟩ := f
  obtain ⟨rfl, length, rfl⟩ := h
  exact decodeRequest_of_code length

/-- Every request row but UNKNOWN_REQUEST spells itself. -/
theorem spells_frame {i : Instr} {f : HostFrame} (wf : i.wf = true) (hf : i.frame = some f) :
    (∃ t, Spells i f t) ∨ i = .unknownRequest f.type f.tag f.payload := by
  have word16 (w : Word16) (pre post : List Byte) {n : Nat} (hn : pre.length = n) :
      word16At (pre ++ bytes16 w ++ post) n = w := word16At_field hn
  have word32 (w : Word32) : word32At (bytes32 w) 0 = w := by
    have := word32At_field (pre := []) (post := []) (w := w) (i := 0) rfl
    simpa using this
  have tail (b : Byte) (w : Word16) : word16At (b :: bytes16 w) 1 = w := by
    have := word16 w [b] [] rfl
    simpa using this
  cases i with
  | unknownRequest ty tag p => cases hf; exact .inr rfl
  | yardStatus tag => cases hf; exact .inl ⟨.yardStatus, rfl, rfl, rfl⟩
  | lineQuery tag l => cases hf; exact .inl ⟨.lineQuery, rfl, rfl, rfl⟩
  | trailerQuery tag p => cases hf; exact .inl ⟨.trailerQuery, rfl, rfl, rfl⟩
  | trailerList tag fl p => cases hf; exact .inl ⟨.trailerList, rfl, rfl, rfl⟩
  | findUnit tag u => cases hf; exact .inl ⟨.findUnit, rfl, by simp [RequestType.lengthOk], by simp [RequestType.read, word32]⟩
  | bindProfile tag p n => cases hf; exact .inl ⟨.bindProfile, rfl, rfl, rfl⟩
  | releasePost tag p => cases hf; exact .inl ⟨.releasePost, rfl, rfl, rfl⟩
  | setWeather tag rh ta =>
    cases hf
    have first : word16At (bytes16 rh ++ bytes16 ta) 0 = rh := word16 rh [] (bytes16 ta) rfl
    have second : word16At (bytes16 rh ++ bytes16 ta) 2 = ta := by
      simpa using word16 ta (bytes16 rh) [] (bytes16_length rh)
    exact .inl ⟨.setWeather, rfl, by simp [RequestType.lengthOk], by simp [RequestType.read, first, second]⟩
  | defrostNow tag p => cases hf; exact .inl ⟨.defrostNow, rfl, rfl, rfl⟩
  | defrostCancel tag p m =>
    cases hf
    exact .inl ⟨.defrostCancel, rfl, by simp [RequestType.lengthOk], by simp [RequestType.read, tail, byteAt]⟩
  | defrostInhibit tag p on => cases hf; exact .inl ⟨.defrostInhibit, rfl, rfl, rfl⟩
  | feederQuery tag q => cases hf; exact .inl ⟨.feederQuery, rfl, rfl, rfl⟩
  | declareCustody tag p t =>
    cases hf
    have short : t.length ≤ 12 := by simpa [Instr.wf] using wf
    exact .inl ⟨.declareCustody, rfl, by simp [RequestType.lengthOk]; omega, rfl⟩
  | clearCustody tag p => cases hf; exact .inl ⟨.clearCustody, rfl, rfl, rfl⟩
  | setRaiseMask tag p m =>
    cases hf
    exact .inl ⟨.setRaiseMask, rfl, by simp [RequestType.lengthOk], by simp [RequestType.read, tail, byteAt]⟩
  | ackFinding tag p c => cases hf; exact .inl ⟨.ackFinding, rfl, rfl, rfl⟩
  | takeException tag => cases hf; exact .inl ⟨.takeException, rfl, rfl, rfl⟩
  | peekExceptions tag => cases hf; exact .inl ⟨.peekExceptions, rfl, rfl, rfl⟩
  | postOutput tag p c b x n => cases hf; exact .inl ⟨.postOutput, rfl, rfl, rfl⟩
  | storeRead tag b => cases hf; exact .inl ⟨.storeRead, rfl, rfl, rfl⟩
  | storeWrite tag b c =>
    cases hf
    have block : c.length = 256 := by simpa [Instr.wf] using wf
    exact .inl ⟨.storeWrite, rfl, by simp [RequestType.lengthOk, block], rfl⟩
  | setClock tag w =>
    cases hf
    exact .inl ⟨.setClock, rfl, by simp [RequestType.lengthOk], by simp [RequestType.read, word32]⟩
  | restart tag => cases hf; exact .inl ⟨.restart, rfl, rfl, rfl⟩
  | _ => cases hf

/-- Settles O9: a row of the catalogue spells itself, and an unknown row's type is outside the catalogue. -/
theorem requestFrameReadsBack : Obligations.RequestFrameReadsBack := by
  intro i f wf hf
  obtain ⟨t, spells⟩ | rfl := spells_frame wf hf
  · rw [spells.decodes, if_pos]
    rw [spells.code, ofCode_code]
    rfl
  · have outside : RequestType.ofCode f.type = none := by
      simp only [Instr.wf, Bool.and_eq_true, Option.isNone_iff_eq_none] at wf
      exact wf.1
    simp [decodeRequest, outside]

/-! ## Requests that their owner takes (R179, R180) -/

theorem payload_le_of_wf {i : Instr} {f : HostFrame} (wf : i.wf = true) (hf : i.frame = some f) :
    f.payload.length ≤ Config.maxPayload := by
  have bound (t : RequestType) (n : Nat) (h : t.lengthOk n = true) : n ≤ 272 := by
    cases t <;> simp [RequestType.lengthOk] at h <;> omega
  obtain ⟨t, spells⟩ | rfl := spells_frame wf hf
  · exact bound t _ spells.length
  · simp only [Instr.wf, Bool.and_eq_true, decide_eq_true_eq] at wf
    exact wf.2

/-- A frame offered to an empty holding place with a place for its reply is taken at once. -/
theorem receiveFrame_of_room {s : State} {f : HostFrame} (served : s.hostServed = true) (held : s.held = none)
    (room : s.replyRoom = true) (len : f.payload.length ≤ Config.maxPayload) :
    s.receiveFrame f = (s.takeRequest f).pumpTx := by
  have emptied : ({ s with held := none } : State) = s := by rw [← held]
  have taken : State.serveHolding { s with held := some f } = s.takeRequest f := by
    unfold State.serveHolding
    dsimp only
    rw [if_pos ⟨served, room⟩, emptied]
  unfold State.receiveFrame State.offerFrame
  rw [served, held]
  simp only [Bool.not_true, Bool.false_eq_true, if_false, if_neg (not_lt.mpr len), taken]

theorem exec_of_room {s : State} {i : Instr} {f : HostFrame} (served : s.hostServed = true) (held : s.held = none)
    (room : s.replyRoom = true) (wf : i.wf = true) (hf : i.frame = some f) :
    exec i s = .next (s.takeRequest f).pumpTx := by
  rw [exec_of_frame hf, receiveFrame_of_room served held room (payload_le_of_wf wf hf), State.pumpTx_pumpTx]

theorem State.Ready.running {s : State} (h : s.Ready) : s.running = true := by
  unfold State.running
  rw [h.1]
  rfl

theorem State.Ready.served {s : State} (h : s.Ready) : s.hostServed = true := by
  unfold State.hostServed
  rw [h.running]
  rfl

/-- A request of the catalogue that arrives is taken by its owner. -/
theorem exec_of_ready {s : State} {i : Instr} {f : HostFrame} (ready : s.Ready) (wf : i.wf = true)
    (hf : i.frame = some f) (known : (RequestType.ofCode f.type).isSome = true) :
    exec i s = .next (s.ownerTakes i).pumpTx := by
  obtain ⟨running, held, room⟩ := id ready
  have reads := requestFrameReadsBack i f wf hf
  rw [if_pos known] at reads
  rw [exec_of_room ready.served held room wf hf]
  unfold State.takeRequest
  rw [reads, running]
  rfl

/-! ## A frame put together from its wire bytes (R177, R178) -/

theorem announcedLength_contents (f : HostFrame) (rest : List Byte) (h : f.payload.length ≤ Config.maxPayload) :
    announcedLength (f.contents ++ rest) = f.payload.length := by
  have small : f.payload.length < 256 ^ 2 := lt_of_le_of_lt h (by decide)
  unfold announcedLength HostFrame.contents
  rw [List.append_assoc, List.append_assoc, List.take_left' (beBytes_length _ _), beNat_beBytes,
    Nat.mod_eq_of_lt small]

/-- The contents of a frame with their CRC, as the receive side gathers them. -/
def wholeFrame (f : HostFrame) : List Byte := f.contents ++ bytes16 (crc16 f.contents)

theorem whole_length (f : HostFrame) : (wholeFrame f).length = 7 + f.payload.length := by
  simp [wholeFrame, HostFrame.contents]
  omega

/-- The first part of a frame that is long enough to announce a length announces the frame's. -/
theorem announcedLength_of_isPrefix {f : HostFrame} {c : List Byte} (h : c <+: wholeFrame f) (len : 2 ≤ c.length)
    (short : f.payload.length ≤ Config.maxPayload) : announcedLength c = f.payload.length := by
  obtain ⟨rest, e⟩ := h
  have first : c.take 2 = (wholeFrame f).take 2 := by rw [← e, List.take_append_of_le_length len]
  rw [announcedLength, first, ← announcedLength, wholeFrame, announcedLength_contents f _ short]

theorem checkFrame_whole (f : HostFrame) : checkFrame (wholeFrame f) = some f := by
  have len : (wholeFrame f).length - 2 = f.contents.length := by simp [wholeFrame]
  have body : (wholeFrame f).take ((wholeFrame f).length - 2) = f.contents := by
    rw [len, wholeFrame, List.take_left' rfl]
  have code : word16At (wholeFrame f) ((wholeFrame f).length - 2) = crc16 f.contents := by
    rw [len]
    have := word16At_field (pre := f.contents) (post := []) (w := crc16 f.contents) rfl
    simpa [wholeFrame] using this
  have shape : wholeFrame f = (beBytes 2 f.payload.length ++ [f.type]) ++ bytes16 f.tag
      ++ (f.payload ++ bytes16 (crc16 f.contents)) := by
    simp [wholeFrame, HostFrame.contents]
  have tag : word16At (wholeFrame f) 3 = f.tag := by
    rw [shape]
    exact word16At_field (by simp)
  have type : byteAt (wholeFrame f) 2 = f.type := by
    rw [shape]
    simp [byteAt, List.getD]
  have payload : f.contents.drop 5 = f.payload := by
    simp [HostFrame.contents, List.drop_append]
  unfold checkFrame
  dsimp only
  rw [body, code, if_pos rfl, type, tag, payload]

/-- Contents that begin a frame and are not all of it wait for more. -/
theorem addContents_of_begun {f : HostFrame} {c : List Byte} (s : State) (h : c <+: wholeFrame f)
    (begun : c.length < (wholeFrame f).length) (short : f.payload.length ≤ Config.maxPayload) :
    s.addContents c = { s with rx := .inFrame c false } := by
  rw [whole_length] at begun
  unfold State.addContents
  rw [if_neg, if_neg]
  · simp only [frameComplete, decide_eq_true_eq, not_and]
    intro len
    rw [announcedLength_of_isPrefix h len short]
    omega
  · rintro ⟨len, long⟩
    rw [announcedLength_of_isPrefix h len short] at long
    omega

/-- The last byte of a frame offers it to the holding place. -/
theorem addContents_whole (s : State) {f : HostFrame} (short : f.payload.length ≤ Config.maxPayload) :
    s.addContents (wholeFrame f) = State.offerFrame { s with rx := .hunting } f := by
  have announced : announcedLength (wholeFrame f) = f.payload.length := announcedLength_contents f _ short
  have complete : frameComplete (wholeFrame f) = true := by
    simp only [frameComplete, decide_eq_true_eq]
    rw [announced, whole_length f]
    omega
  unfold State.addContents
  rw [if_neg, if_pos complete, checkFrame_whole]
  rw [announced]
  exact fun h => absurd h.2 (not_lt.mpr short)

/-- Where contents join a frame, the escape that carried the last of them is no matter. -/
theorem addContents_rx (s : State) (r : RxState) (c : List Byte) :
    State.addContents { s with rx := r } c = s.addContents c := by
  unfold State.addContents
  split
  · rfl
  · split
    · split <;> rfl
    · rfl

/-- The wire bytes of one contents byte add that byte. -/
theorem receive_escapeOne (s : State) (c : List Byte) (b : Byte) :
    State.forEach { s with rx := .inFrame c false } (escapeOne b) State.receiveByte = s.addContents (c ++ [b]) := by
  unfold escapeOne
  split
  · rename_i special
    have notStart : b ^^^ 0x20 ≠ Config.startByte := by
      obtain rfl | rfl := special <;> decide
    have back : b ^^^ 0x20 ^^^ 0x20 = b := by rw [BitVec.xor_assoc, BitVec.xor_self, BitVec.xor_zero]
    have held : State.receiveByte { s with rx := .inFrame c false } Config.escapeByte
        = { s with rx := .inFrame c true } := by
      unfold State.receiveByte
      dsimp only
      rw [if_neg (by decide), if_neg Bool.false_ne_true, if_pos rfl]
    have carried : State.receiveByte { s with rx := .inFrame c true } (b ^^^ 0x20) = s.addContents (c ++ [b]) := by
      unfold State.receiveByte
      dsimp only
      rw [if_neg notStart, if_pos rfl, back, addContents_rx]
    rw [← carried, ← held]
    rfl
  · rename_i plain
    obtain ⟨notStart, notEscape⟩ := not_or.mp plain
    have added : State.receiveByte { s with rx := .inFrame c false } b = s.addContents (c ++ [b]) := by
      unfold State.receiveByte
      dsimp only
      rw [if_neg notStart, if_neg Bool.false_ne_true, if_neg notEscape, addContents_rx]
    rw [← added]
    rfl

/-- The rest of a frame begun offers it. -/
theorem receive_rest (s : State) {f : HostFrame} (short : f.payload.length ≤ Config.maxPayload) (c m : List Byte)
    (whole : c ++ m = wholeFrame f) (more : m ≠ []) :
    State.forEach { s with rx := .inFrame c false } (escape m) State.receiveByte
      = State.offerFrame { s with rx := .hunting } f := by
  induction m generalizing c with
  | nil => exact absurd rfl more
  | cons b m ih =>
    have joined : (c ++ [b]) ++ m = wholeFrame f := by rw [← whole]; simp
    have split : State.forEach { s with rx := .inFrame c false } (escape (b :: m)) State.receiveByte
        = State.forEach (s.addContents (c ++ [b])) (escape m) State.receiveByte := by
      rw [← receive_escapeOne]
      exact List.foldl_append
    rw [split]
    by_cases last : m = []
    · subst last
      rw [List.append_nil] at joined
      rw [joined, addContents_whole s short]
      rfl
    · rw [addContents_of_begun s ⟨m, joined⟩ ?_ short]
      · exact ih _ joined last
      · rw [← joined, List.length_append (as := c ++ [b])]
        have := List.length_pos_iff.mpr last
        omega

/-- The wire bytes of a frame, received from HUNTING, do what the arrival of the frame does. -/
theorem receiveBytes_wire {s : State} {f : HostFrame} (hunting : s.rx = .hunting)
    (short : f.payload.length ≤ Config.maxPayload) : s.receiveBytes f.wire = s.receiveFrame f := by
  have same : ({ s with rx := .hunting } : State) = s := by rw [← hunting]
  have begun : State.forEach s f.wire State.receiveByte
      = State.forEach { s with rx := .inFrame [] false } (escape (wholeFrame f)) State.receiveByte := by
    have first : s.receiveByte Config.startByte = { s with rx := .inFrame [] false } := by
      unfold State.receiveByte
      rw [hunting]
      rfl
    rw [← first]
    rfl
  have nonempty : wholeFrame f ≠ [] := by
    intro e
    have := whole_length f
    rw [e, List.length_nil] at this
    omega
  unfold State.receiveBytes State.receiveFrame
  rw [begun, receive_rest s short [] (wholeFrame f) rfl nonempty, same, if_neg (not_lt.mpr short)]
  cases s.hostServed <;> rfl

/-- Settles O10: the bytes put the row's frame together, and the row is its arrival. -/
theorem wireBytesDoWhatTheRowDoes : Obligations.WireBytesDoWhatTheRowDoes := by
  intro i f s wf hf hunting
  rw [exec_of_frame hf, exec_eq_effect]
  exact congrArg (fun u : State => Host.Outcome.next u.pumpTx) (receiveBytes_wire hunting (payload_le_of_wf wf hf))

end Sys2Proof.Machine


/-! # The host line, the start values and the requests that report

The statements O1, O3, O13, O14, O16, O17, O18 and O19. -/

namespace Sys2Proof.Machine

/-! ## The machine -/

/-- Settles O1: both branches of a step. -/
theorem stepRunsTheFront : Obligations.StepRunsTheFront := by
  refine ⟨fun s i rest h => ?_, fun s h => ?_⟩
  · unfold step
    rw [h]
  · unfold step
    split
    · rename_i front
      rw [h] at front
      cases front
    · rfl

theorem reset_trailer (p : Post) : State.reset.trailer p = .vacant := Vector.getElem_replicate p.isLt

theorem reset_queue (q : Queue) : State.reset.queue q = [] := Vector.getElem_replicate q.isLt

theorem reset_load (q : Queue) : State.reset.load q = 0 := Vector.getElem_replicate q.isLt

/-- Settles O3: the fields of the reset state, and each law of an empty state. -/
theorem resetStartValues : Obligations.ResetStartValues := by
  have buffers : State.reset.BufferLaw :=
    ⟨Nat.zero_le 4, Nat.zero_le 12, List.nodup_nil, fun st hst => absurd hst List.not_mem_nil, Nat.zero_le 24,
      Nat.zero_le _, Nat.zero_le _⟩
  refine ⟨fun p => ?_, rfl, rfl, rfl, fun q => ⟨reset_queue q, reset_load q⟩, rfl, rfl, rfl, rfl, rfl, rfl, rfl, rfl, rfl,
    rfl, fun l => ?_, ⟨Nat.zero_le 8, Nat.le_refl 1, by decide⟩, buffers, fun p tag h => ?_,
    .of_empty reset_trailer reset_queue reset_load, .of_empty (fun p => congrArg _ (reset_trailer p)) rfl⟩
  · unfold State.run
    rw [reset_trailer]
    exact ⟨rfl, rfl, rfl, rfl, Vector.getElem_replicate p.isLt, Vector.getElem_replicate p.isLt⟩
  · cases l <;> exact ⟨rfl, rfl⟩
  · rw [reset_trailer] at h
    cases h

/-! ## The checks of a request and the holding place (R179, R180) -/

/-- Settles O13: each check in its order, and a frame at an occupied holding place or with no place for its reply. -/
theorem requestsAreCheckedAndHeld : Obligations.RequestsAreCheckedAndHeld := by
  refine ⟨fun s served held room => ⟨fun ty tag payload wf => ?_, fun f t hunting known short bad => ?_,
    fun i f wf hf known pending => ?_⟩, fun i f s wf hf served => ⟨fun g held => ?_, fun held full => ?_⟩⟩
  · have outside : RequestType.ofCode ty = none := by
      simp only [Instr.wf, Bool.and_eq_true, Option.isNone_iff_eq_none] at wf
      exact wf.1
    rw [exec_of_room served held room wf rfl]
    unfold State.takeRequest decodeRequest
    dsimp only
    rw [outside]
  · have taken : s.receiveBytes f.wire = (s.takeRequest f).pumpTx := by
      rw [receiveBytes_wire hunting short, receiveFrame_of_room served held room short]
    have effect : exec (.hostFrame f.wire) s = .next (s.takeRequest f).pumpTx := by
      have received : exec (.hostFrame f.wire) s = .next (s.receiveBytes f.wire).pumpTx := exec_eq_effect _ s
      rw [received, taken, State.pumpTx_pumpTx]
    rw [effect]
    unfold State.takeRequest decodeRequest
    rw [known]
    dsimp only
    rw [bad]
    rfl
  · have reads := requestFrameReadsBack i f wf hf
    rw [if_pos known] at reads
    rw [exec_of_room served held room wf hf]
    unfold State.takeRequest
    rw [reads]
    dsimp only
    rw [if_pos pending]
  all_goals
    have short := not_lt.mpr (payload_le_of_wf wf hf)
    rw [exec_of_frame hf]
    unfold State.receiveFrame State.offerFrame
    rw [served, held]
    simp only [Bool.not_true, Bool.false_eq_true, if_false, if_neg short]
  unfold State.serveHolding
  have noRoom : State.replyRoom { s with held := some f } = false := full
  simp [noRoom]

/-- Settles O14: the transmitter's look for a frame, and the holding place served after it. -/
theorem transmitterTakesRepliesFirst : Obligations.TransmitterTakesRepliesFirst := by
  intro s
  have done (u : State) (h : State.pumpTx { s with tx := none } = u) :
      exec .transmitComplete s = .next u.serveHolding.pumpTx := by
    have completed : exec .transmitComplete s = .next (State.pumpTx { s with tx := none }).serveHolding.pumpTx :=
      exec_eq_effect _ s
    rw [completed, h]
  have unheld (u : State) (h : State.pumpTx { s with tx := none } = u) (held : u.held = none) :
      exec .transmitComplete s = .next u.pumpTx := by
    have unserved : u.serveHolding = u := by
      unfold State.serveHolding
      rw [held]
    rw [done u h, unserved]
  refine ⟨fun r rest replies held => ?_, fun n rest replies notices held => ?_, fun replies notices held => ?_,
    fun r rest f replies held served room => ?_⟩
  · exact unheld { s with tx := some (.reply r), replies := rest } (by simp only [State.pumpTx, replies]) held
  · exact unheld { s with tx := some (.notice n), notices := rest } (by simp only [State.pumpTx, replies, notices]) held
  · have idle : State.pumpTx { s with tx := none } = { s with tx := none } := by
      simp only [State.pumpTx, replies, notices]
    rw [unheld _ idle held, idle]
  · rw [done { s with tx := some (.reply r), replies := rest } (by simp only [State.pumpTx, replies])]
    have place : State.replyRoom { s with tx := some (.reply r), replies := rest } = true := decide_eq_true room
    have servedStill : State.hostServed { s with tx := some (.reply r), replies := rest } = true := served
    unfold State.serveHolding
    dsimp only
    rw [held]
    dsimp only
    rw [if_pos ⟨servedStill, place⟩]

/-- While HUNTING, bytes without a start byte are discarded (R177). -/
theorem receive_of_hunting {s : State} (hunting : s.rx = .hunting) {bytes : List Byte}
    (h : Config.startByte ∉ bytes) : s.forEach bytes State.receiveByte = s := by
  induction bytes with
  | nil => rfl
  | cons b bytes ih =>
    obtain ⟨first, rest⟩ := not_or.mp (List.mem_cons.not.mp h)
    have discarded : s.receiveByte b = s := by
      unfold State.receiveByte
      rw [hunting]
      exact if_neg (Ne.symm first)
    exact (congrArg (fun u => State.forEach u bytes State.receiveByte) discarded).trans (ih rest)

/-- Settles O16: each event in turn. -/
theorem gapsSwitchesAndStrayBytes : Obligations.GapsSwitchesAndStrayBytes := by
  intro s
  have done {i : Instr} {u : State} (h : s.effect i = u) : exec i s = .next u.pumpTx := by rw [exec_eq_effect, h]
  refine ⟨fun c e rx => done ?_, fun rx => done ?_, fun bytes rx h => done ?_, fun served rx => done ?_, fun k => done rfl,
    fun r => done rfl, fun l bytes => done rfl, fun l idle => ⟨fun bytes => done ?_, done ?_, done ?_⟩⟩
  · unfold State.effect State.receiveGap
    rw [rx]
    rfl
  · unfold State.effect State.receiveGap
    rw [rx]
  · unfold State.effect State.receiveBytes
    dsimp only
    rw [receive_of_hunting rx h, ite_self]
  · unfold State.effect State.receiveBytes
    dsimp only
    rw [if_pos served]
    unfold State.forEach State.receiveByte
    simp [rx]
  · exact frameEnds_of_no_round idle bytes
  · exact exchangeTimesOut_of_no_round idle
  · exact exchangeTimesOut_of_no_round idle

/-! ## Requests to their owners (R180, R181) -/

section
variable {s : State} {t : RequestType} {tag : Word16} {b : Byte} {p : Post} {f : Post → State}
  {g : TrailerRecord → State}

theorem postOf_of_high (h : 239 < b.toNat) : postOf b = none := dif_neg (by omega)

theorem postOf_of_val (h : b.toNat = p.val) : postOf b = some p := by
  have lt : b.toNat < 240 := h ▸ p.isLt
  unfold postOf
  rw [dif_pos lt]
  exact congrArg some (Fin.ext h)

theorem withPost_of_high (h : 239 < b.toNat) : s.withPost t tag b f = s.refuse t tag .badArgument := by
  unfold State.withPost
  rw [postOf_of_high h]

theorem withPost_of_val (h : b.toNat = p.val) : s.withPost t tag b f = f p := by
  unfold State.withPost
  rw [postOf_of_val h]

theorem withTrailer_of_vacant (h : (s.trailer p).state = .vacant) :
    s.withTrailer t tag p g = s.refuse t tag .noTrailer := if_pos h

theorem withTrailer_of_present (h : (s.trailer p).state ≠ .vacant) : s.withTrailer t tag p g = g (s.trailer p) := if_neg h

end

section
variable {s : State} (ready : s.Ready) {i : Instr} {f : HostFrame} (wf : i.wf = true) (hf : i.frame = some f)
  (known : (RequestType.ofCode f.type).isSome = true) {u : State} {t : RequestType} {tag : Word16}
include ready wf hf known

/-- A request whose owner refuses it. -/
theorem exec_of_refuses {st : Status} (h : s.ownerTakes i = s.refuse t tag st) :
    exec i s = .next (s.refusedWith t tag st) := by
  rw [exec_of_ready ready wf hf known, h]
  rfl

/-- A request that its owner answers after an effect. -/
theorem exec_of_answers {body : List Byte} (h : s.ownerTakes i = u.answer t tag .ok body) :
    exec i s = .next (u.replied t tag body) := by
  rw [exec_of_ready ready wf hf known, h]
  rfl

end

/-! ## Requests that report (R22, R43 to R45, R91, R160, R161, R190, R192) -/

/-- Settles O19: the two owners' branches, and the check that a restart is pending. -/
theorem exceptionStackIsPeekedAndTaken : Obligations.ExceptionStackIsPeekedAndTaken := by
  refine ⟨fun tag s ready law => ⟨exec_of_answers ready rfl rfl rfl rfl, law.1⟩,
    fun tag s => ⟨fun f rest ready top => exec_of_answers ready rfl rfl rfl ?_,
      fun ready empty => exec_of_answers ready rfl rfl rfl ?_, fun pending held room => ?_⟩⟩
  · change s.takeTakeException tag = _
    unfold State.takeTakeException
    rw [top]
  · change s.takeTakeException tag = _
    unfold State.takeTakeException
    rw [empty]
  · have served : s.hostServed = true := by
      unfold State.hostServed
      rw [pending, Bool.or_true]
    exact (requestsAreCheckedAndHeld.1 s served held room).2.2 (.takeException tag) _ rfl rfl rfl pending

theorem lineOf_of_high {b : Byte} (h : 1 < b.toNat) : lineOf b = none := by
  unfold lineOf
  rw [if_neg, if_neg]
  all_goals
    rintro rfl
    revert h
    decide

section
variable (s : State)

@[simp] theorem timeField_length (t : Option Time) : (s.timeField t).length = 4 := by
  cases t with
  | none => rfl
  | some x => exact bytes32_length _

@[simp] theorem signed16_length (v : Int) : (signed16 v).length = 2 := bytes16_length _

@[simp] theorem signed32_length (v : Int) : (signed32 v).length = 4 := bytes32_length _

@[simp] theorem temperatureField_length (t : Option Int) : (temperatureField t).length = 2 := by
  cases t with
  | none => rfl
  | some v => exact signed16_length v

@[simp] theorem pnField_length (n : Option Int) : (pnField n).length = 4 := by
  cases n with
  | none => rfl
  | some v => exact signed32_length v

@[simp] theorem levelsField_length (l : Option Levels) : (levelsField l).length = 1 := by cases l <;> rfl

@[simp] theorem num1_length (n : Nat) : (num1 n).length = 1 := rfl

@[simp] theorem num2_length (n : Nat) : (num2 n).length = 2 := beBytes_length _ _

@[simp] theorem sat2_length (n : Nat) : (sat2 n).length = 2 := beBytes_length _ _

@[simp] theorem num4_length (n : Nat) : (num4 n).length = 4 := beBytes_length _ _

@[simp] theorem opt1_length (n : Option Nat) : (opt1 n).length = 1 := rfl

@[simp] theorem opt2_length (n : Option Nat) : (opt2 n).length = 2 := beBytes_length _ _

@[simp] theorem flagField_length (b : Bool) : (flagField b).length = 1 := rfl

@[simp] theorem outputFields_length (o : Option OutputState) : (outputFields o).length = 3 := by
  cases o with
  | none => rfl
  | some o => simp [outputFields]

@[simp] theorem runFields_length (r : Option RunRecord) : (s.runFields r).length = 16 := by
  cases r with
  | none => rfl
  | some r => simp [State.runFields]

@[simp] theorem fuelFields_length (b : Bool) (a : FuelAccount) : (s.fuelFields b a).length = 20 := by
  simp [State.fuelFields]

theorem requestFields_length (r : Option (Queue × Request)) :
    (s.requestFields r).1.length = 1 ∧ (s.requestFields r).2.length = 7 := by
  rcases r with _ | ⟨q, r⟩
  · exact ⟨rfl, rfl⟩
  · simp [State.requestFields]

theorem doorFields_length (d : DoorGroup) {c : Custody} (h : c.tag.length ≤ 12) : (doorFields d c).length = 18 := by
  simp [doorFields, tagField]
  omega

/-- The record of TRAILER-QUERY has 154 bytes (10.6). -/
theorem trailerRecordBytes_length {p : Post} (h : (s.trailer p).custody.tag.length ≤ 12) :
    (s.trailerRecordBytes p).length = 154 := by
  obtain ⟨first, second⟩ := requestFields_length s (s.requestOf p)
  have pushes : (FindingClass.all.flatMap fun c =>
      num2 ((((s.trailer p).activeOf c).bind (·.push)).getD 0)).length = 32 := by
    rw [List.length_flatMap]
    simp only [num2_length]
    rfl
  unfold State.trailerRecordBytes
  dsimp only
  simp only [List.length_append, num1_length, flagField_length, bytes32_length, bytes16_length, opt1_length,
    timeField_length, temperatureField_length, num2_length, pnField_length, doorFields_length _ h, fuelFields_length,
    first, second, runFields_length, outputFields_length, pushes]

end

/-- Settles O17: the branches of the five owners. -/
theorem queriesReport : Obligations.QueriesReport := by
  refine ⟨fun tag b s ready => ⟨?_, ?_, ?_, fun high => ?_, fun q hq => ?_, fun high => ?_, fun k hk idle => ?_,
    fun k hk busy => ?_, fun high => ?_⟩, fun tag b s ready => ⟨fun high => ?_, fun p hp vacant => ?_,
    fun p hp present => ⟨?_, trailerRecordBytes_length s⟩⟩⟩
  · exact exec_of_answers ready rfl rfl rfl rfl
  · rintro rfl
    exact exec_of_answers ready rfl rfl rfl rfl
  · rintro rfl
    exact exec_of_answers ready rfl rfl rfl rfl
  · refine exec_of_refuses ready rfl rfl rfl ?_
    change s.takeLineQuery tag b = _
    unfold State.takeLineQuery
    rw [lineOf_of_high high]
  · refine exec_of_answers ready rfl rfl rfl ?_
    have lt : b.toNat < 9 := hq ▸ q.isLt
    have same : (⟨b.toNat, lt⟩ : Queue) = q := Fin.ext hq
    exact (dif_pos lt).trans (by rw [same])
  · exact exec_of_refuses ready rfl rfl rfl (dif_neg (by omega))
  · refine exec_of_answers ready rfl rfl rfl ?_
    have place : storePlace b = k := by
      unfold storePlace
      rw [hk]
      exact Fin.ext (Nat.mod_eq_of_lt k.isLt)
    have inRange : ¬ Config.lastImage < b.toNat := by
      rw [hk]
      exact not_lt.mpr (Nat.le_of_lt_succ k.isLt)
    change s.takeStoreRead tag b = _
    unfold State.takeStoreRead State.readMark
    rw [if_neg inRange, idle, place, hk]
    have mark : (s.asFactory.any fun n => decide (n = k.val)) = decide (k.val ∈ s.asFactory) := by
      rw [Bool.eq_iff_iff]
      simp
    rw [mark]
    simp [flagField, Config.firstImage]
  · refine exec_of_refuses ready rfl rfl rfl ?_
    have inRange : ¬ Config.lastImage < b.toNat := by
      rw [hk]
      exact not_lt.mpr (Nat.le_of_lt_succ k.isLt)
    exact (if_neg inRange).trans (if_pos busy)
  · exact exec_of_refuses ready rfl rfl rfl (if_pos high)
  · exact exec_of_refuses ready rfl rfl rfl (withPost_of_high high)
  · exact exec_of_refuses ready rfl rfl rfl ((withPost_of_val hp).trans (withTrailer_of_vacant vacant))
  · exact exec_of_answers ready rfl rfl rfl ((withPost_of_val hp).trans (withTrailer_of_present present))

/-- The posts in ascending order. -/
theorem allPosts_rising : allPosts.Pairwise fun p q => p.val < q.val := List.pairwise_lt_finRange 240

/-- The directory names the one listed record with a serial (R25). -/
theorem State.DirectoryLaw.dirLookup_eq {s : State} (law : s.DirectoryLaw) {p : Post}
    (listed : (s.trailer p).state.listed = true) : s.dirLookup (s.trailer p).serial = some p := by
  cases found : s.dirLookup (s.trailer p).serial with
  | none => exact absurd rfl (State.ne_of_dirLookup_none found _ (law.complete p listed))
  | some o => rw [law.unique (State.mem_of_dirLookup found) (law.complete p listed)]

theorem State.DirectoryLaw.dirLookup_none {s : State} (law : s.DirectoryLaw) {u : Word32}
    (h : ∀ p, (s.trailer p).state.listed = true → (s.trailer p).serial ≠ u) : s.dirLookup u = none := by
  refine State.dirLookup_eq_none fun e he => ?_
  obtain ⟨listed, serial⟩ := law.sound e he
  rw [← serial]
  exact h e.2 listed

/-- Settles O18: the filter of the posts, and the directory with the HELD posts. -/
theorem listingsNameTheirRecords : Obligations.ListingsNameTheirRecords := by
  refine ⟨fun tag filter b s ready => ⟨fun bad => ?_, fun start hb nonempty small => ?_⟩,
    fun tag serial s ready law => ⟨fun zero => ?_, fun nonzero => ?_⟩⟩
  · refine exec_of_refuses ready rfl rfl rfl ?_
    change s.takeTrailerList tag filter b = _
    unfold State.takeTrailerList
    by_cases badFilter : filter = 0 ∨ 32 ≤ filter.toNat
    · exact if_pos badFilter
    · have high : 239 < b.toNat := by tauto
      exact (if_neg badFilter).trans (withPost_of_high high)
  · refine ⟨s.listed filter start, allPosts_rising.filter _, fun p => ?_, exec_of_answers ready rfl rfl rfl ?_⟩
    · simp [State.listed, mem_allPosts]
    · change s.takeTrailerList tag filter b = _
      unfold State.takeTrailerList
      rw [if_neg (by rw [not_or]; exact ⟨nonempty, by omega⟩), withPost_of_val hb]
      dsimp only
      rw [List.head?_drop]
      rfl
  · exact exec_of_refuses ready rfl rfl rfl (if_pos zero)
  · have taken : s.ownerTakes (.findUnit tag serial) =
        if (s.dirLookup serial).isNone ∧ s.heldPosts serial = [] then s.refuse .findUnit tag .noTrailer
        else s.answer .findUnit tag .ok (opt1 ((s.dirLookup serial).map (·.val))
          ++ opt1 ((s.dirLookup serial).map fun p => (s.trailer p).state.code)
          ++ listField (s.heldPosts serial) fun p => num1 p.val) := if_neg nonzero
    refine ⟨s.heldPosts serial, allPosts_rising.filter _, fun p => ?_, fun p listed same => ?_, fun absent => ?_⟩
    · simp [State.heldPosts, mem_allPosts]
    · refine exec_of_answers ready rfl rfl rfl ?_
      have owner : s.dirLookup serial = some p := same ▸ law.dirLookup_eq listed
      rw [taken, owner]
      rfl
    · have owner : s.dirLookup serial = none := law.dirLookup_none absent
      rw [owner] at taken
      split
      · exact exec_of_refuses ready rfl rfl rfl (taken.trans (if_pos ⟨rfl, ‹_›⟩))
      · rename_i some
        exact exec_of_answers ready rfl rfl rfl (taken.trans (if_neg fun h => some h.2))

end Sys2Proof.Machine


/-! # Records, items and clearing findings

What editing a record gives, what an item reads and changes of the notices, and what clearing a finding does. -/

namespace Sys2Proof.Machine

/-! ## Editing a record (R27) -/

section
variable (s : State) (p : Post) (f : TrailerRecord → TrailerRecord)

theorem TrailerRecord.sealed_of_verifies {t : TrailerRecord} (h : t.verifies = true) : t.sealed = t := by
  unfold TrailerRecord.verifies at h
  unfold TrailerRecord.sealed
  rw [← of_decide_eq_true h]

/-- What an edit leaves of its record. -/
theorem State.trailer_editTrailer_changedTo :
    (s.editTrailer p f).trailer p = (s.trailer p).changedTo (f (s.trailer p)) := by
  unfold TrailerRecord.changedTo State.editTrailer
  by_cases same : (f (s.trailer p)).sealed = (s.trailer p).sealed
  · rw [if_pos same]
    split
    · rename_i verifies
      have still : (f (s.trailer p)).differs (s.trailer p) = false := by simp [TrailerRecord.differs, same]
      rw [still, Bool.or_false] at verifies
      rw [State.trailer_putTrailer_self, same, TrailerRecord.sealed_of_verifies verifies]
    · rfl
  · have differs : (f (s.trailer p)).differs (s.trailer p) = true := by simp [TrailerRecord.differs, same]
    rw [if_neg same, differs, Bool.or_true, if_pos rfl, State.trailer_putTrailer_self]

/-- Two edits one after another are one, where the second does not take back what the first changed. -/
theorem TrailerRecord.changedTo_changedTo {t a : TrailerRecord} {g : TrailerRecord → TrailerRecord}
    (hg : ∀ x y : TrailerRecord, x.sealed = y.sealed → (g x).sealed = (g y).sealed)
    (keeps : (g a).sealed = t.sealed → a.sealed = t.sealed) :
    (t.changedTo a).changedTo (g (t.changedTo a)) = t.changedTo (g a) := by
  unfold TrailerRecord.changedTo
  by_cases first : a.sealed = t.sealed
  · rw [if_pos first, hg t a first.symm]
  · have second : (g a).sealed ≠ t.sealed := fun e => first (keeps e)
    rw [if_neg first, if_neg second, hg a.sealed a rfl]
    split
    · rename_i e
      rw [e]
      rfl
    · rfl

theorem State.editTrailer_verifies {q : Post} (h : (s.trailer q).verifies = true) :
    ((s.editTrailer p f).trailer q).verifies = true := by
  by_cases hq : q = p
  · subst hq
    rw [State.trailer_editTrailer_self s q f h]
    rfl
  · rw [State.trailer_editTrailer_other s p q f hq]
    exact h

/-- An edit that changes a record leaves it with its code computed. -/
theorem State.editTrailer_verifies_of_differs (h : (f (s.trailer p)).sealed ≠ (s.trailer p).sealed) :
    ((s.editTrailer p f).trailer p).verifies = true := by
  rw [State.trailer_editTrailer_changedTo]
  unfold TrailerRecord.changedTo
  rw [if_neg h]
  rfl

end

/-- A record that verifies goes on verifying, as a kit. -/
def FindingKit.verified : FindingKit fun _ => True where
  rel t s := ∀ q, (s.trailer q).verifies = true → (t.trailer q).verifies = true
  refl _ _ := id
  after x y q hq := x q (y q hq)
  edit s p f _ _ q hq := State.editTrailer_verifies s p f hq
  output _ _ _ _ _ := id
  inForce _ _ _ _ _ := id
  item s p b _ q hq := by rw [State.item_trailer]; exact hq
  push _ _ _ _ _ _ _ := id
  unfile s p _ q hq := by
    unfold State.trailer at hq ⊢
    rw [State.removeRequest_records]
    exact hq

/-! ## Other posts -/

theorem OtherPostsSame.refl (p : Post) (s : State) : OtherPostsSame p s s := fun _ _ => ⟨rfl, rfl, rfl⟩

theorem OtherPostsSame.trans {p : Post} {s t u : State} (x : OtherPostsSame p s t) (y : OtherPostsSame p t u) :
    OtherPostsSame p s u := fun q hq =>
  have ⟨r, o, a⟩ := x q hq
  have ⟨r', o', a'⟩ := y q hq
  ⟨r'.trans r, o'.trans o, a'.trans a⟩

theorem OtherPostsSame.of_same {p : Post} {s t : State} (hr : t.records = s.records) (ho : t.outputs = s.outputs)
    (ha : t.actions = s.actions) : OtherPostsSame p s t := fun q _ =>
  ⟨congrArg (fun v : Vector TrailerRecord 240 => v.get q) hr, congrArg (fun v : Vector (Option OutputState) 240 => v.get q) ho,
    congrArg (fun v : Vector ActionsInForce 240 => v.get q) ha⟩

theorem OtherPostsSame.edit (s : State) (p : Post) (f : TrailerRecord → TrailerRecord) :
    OtherPostsSame p s (s.editTrailer p f) := by
  have changes := State.editTrailer_changes s p f
  refine fun q hq => ⟨State.trailer_editTrailer_other s p q f hq, ?_, ?_⟩ <;> rw [changes] <;> rfl

/-- Nothing of another post changes, as a kit at one post. -/
def FindingKit.others (p : Post) : FindingKit (· = p) where
  rel t s := OtherPostsSame p s t
  refl := OtherPostsSame.refl p
  after x y := y.trans x
  edit s _ f hq _ := hq ▸ OtherPostsSame.edit s p f
  output s _ o hq q h := ⟨rfl, State.output_putOutput_other s _ q o (hq ▸ h), rfl⟩
  inForce s _ a hq q h := ⟨rfl, rfl, State.inForce_putInForce_other s _ q a (hq ▸ h)⟩
  item s q b _ := .of_same (s.item_records q b) (s.item_outputs q b) (s.item_actions q b)
  push _ _ _ _ _ _ := .of_same rfl rfl rfl
  unfile s q _ := .of_same (s.removeRequest_records q) (by unfold State.removeRequest; split <;> rfl)
    (by unfold State.removeRequest; split <;> rfl)

/-! ## What an item reads and changes (R185 to R188) -/

/-- A state with everything cleared but what the Notice Gatherer and the transmitter hold and read. -/
def State.gather (s : State) : State :=
  { State.reset with
    runCounter := s.runCounter, yardOffset := s.yardOffset, stations := s.stations, notices := s.notices
    noticesLost := s.noticesLost, tx := s.tx, replies := s.replies }

section
variable (s : State) (p : Post)

theorem State.gather_offerNotice (n : Notice) : (s.offerNotice n).gather = s.gather.offerNotice n := by
  have free : s.gather.txFree = s.txFree := rfl
  unfold State.offerNotice
  rw [free]
  split
  · rfl
  · change _ = if s.notices.length < _ then _ else _
    split <;> rfl

theorem State.gather_flushStation : (s.flushStation p).gather = s.gather.flushStation p := by
  have open' : s.gather.stationOf p = s.stationOf p := rfl
  unfold State.flushStation
  rw [open']
  split
  · rfl
  · exact State.gather_offerNotice _ _

theorem State.gather_placeItem (i : NoticeItem) : (s.placeItem p i).gather = s.gather.placeItem p i := by
  have open' : s.gather.stationOf p = s.stationOf p := rfl
  have earliest : earliestStation s.gather.stations = earliestStation s.stations := rfl
  have with' (u v : State) (h : u.gather = v) :
      State.gather { u with stations := u.stations ++ [{ post := p, opened := s.now, items := [i] }] }
        = { v with stations := v.stations ++ [{ post := p, opened := s.gather.now, items := [i] }] } := by
    rw [← h]
    rfl
  unfold State.placeItem
  rw [open']
  split
  · rfl
  · dsimp only
    refine with' _ _ ?_
    change _ = if s.stations.length < _ then _ else _
    split
    · rfl
    · rw [earliest]
      split
      · exact State.gather_flushStation s _
      · rfl

/-- An item reads and changes the notices, as it does where nothing else stands. -/
theorem State.gather_item (b : ItemBody) : (s.item p b).gather = s.gather.item p b := by
  have placed := State.gather_placeItem s p { yardTime := s.yardNow, body := b }
  have open' : (s.gather.placeItem p { yardTime := s.gather.yardNow, body := b }).stationOf p
      = (s.placeItem p { yardTime := s.yardNow, body := b }).stationOf p := by
    change (s.gather.placeItem p { yardTime := s.yardNow, body := b }).stationOf p = _
    rw [← placed]
    rfl
  unfold State.item
  dsimp only
  rw [open']
  split
  · exact placed
  · split
    · rw [State.gather_flushStation, placed]
      rfl
    · exact placed

end

theorem SameNotices.of_gather {s t : State} (h : t.gather = s.gather) : SameNotices s t :=
  have e {α : Type} (π : State → α) (hπ : ∀ u, π u.gather = π u) : π t = π s := by rw [← hπ t, h, hπ]
  ⟨e State.stations fun _ => rfl, e State.notices fun _ => rfl, e State.noticesLost fun _ => rfl, e State.tx fun _ => rfl⟩

/-- An item after an operation that leaves the notices alone. -/
theorem State.gather_item_of {s t : State} (h : t.gather = s.gather) (p : Post) (b : ItemBody) :
    (t.item p b).gather = (s.item p b).gather := by rw [State.gather_item, h, State.gather_item]

@[simp] theorem State.gather_editTrailer (s : State) (p : Post) (f : TrailerRecord → TrailerRecord) :
    (s.editTrailer p f).gather = s.gather := by
  rw [State.editTrailer_changes]
  rfl

theorem State.gather_causeLeaves (s : State) (p : Post) (c : SuspCause) : (s.causeLeaves p c).gather = s.gather := by
  rw [State.causeLeaves_changes]
  rfl

theorem State.gather_withdrawAction (s : State) (p : Post) (a : Action) : (s.withdrawAction p a).gather = s.gather := by
  unfold State.withdrawAction
  split
  · dsimp only
    split
    · rfl
    · rfl
    · rfl
    · rw [State.gather_causeLeaves]
      rfl
  · rfl

theorem State.gather_settleWithdrawal (s : State) (p : Post) (a : Action) :
    (s.settleWithdrawal p a).gather = s.gather := by
  unfold State.settleWithdrawal
  split
  · exact State.gather_withdrawAction s p a
  · rfl

/-! ## Clearing a finding (R151, R152) -/

/-- A state with everything cleared but the directory, the arbiter and the exception stack. -/
def State.shelf (s : State) : State :=
  { State.reset with
    directory := s.directory, queues := s.queues, committed := s.committed, stack := s.stack, nextPush := s.nextPush }

/-- A record without its run, its finding sets and its check code. -/
def TrailerRecord.rest (t : TrailerRecord) : TrailerRecord :=
  { t with run := none, active := [], noted := [], checkError := 0 }

theorem TrailerRecord.field_of_rest {t u : TrailerRecord} (h : t.rest = u.rest) {α : Type} (π : TrailerRecord → α)
    (hπ : ∀ x, π x.rest = π x) : π t = π u := by
  rw [← hπ t, h, hπ]

section
variable (s : State) (p q : Post)

@[simp] theorem State.shelf_item (b : ItemBody) : (s.item p b).shelf = s.shelf := by
  rw [State.item_changes]
  rfl

@[simp] theorem State.shelf_editTrailer (f : TrailerRecord → TrailerRecord) : (s.editTrailer p f).shelf = s.shelf := by
  rw [State.editTrailer_changes]
  rfl

/-- A withdrawal leaves of a record all but its run, and the arbiter, the directory and the stack. -/
structure Withdraws (p : Post) (s t : State) : Prop where
  shelf : t.shelf = s.shelf
  rest : ∀ q, (t.trailer q).rest = (s.trailer q).rest
  active : ∀ q, (t.trailer q).active = (s.trailer q).active
  noted : ∀ q, (t.trailer q).noted = (s.trailer q).noted

theorem Withdraws.refl : Withdraws p s s := ⟨rfl, fun _ => rfl, fun _ => rfl, fun _ => rfl⟩

theorem withdraws_causeLeaves (c : SuspCause) : Withdraws p s (s.causeLeaves p c) := by
  unfold State.causeLeaves
  split
  · exact .refl s p
  · exact ⟨State.shelf_editTrailer s p _, State.field_editTrailer s p _ TrailerRecord.rest (fun _ => rfl) rfl,
      State.field_editTrailer s p _ TrailerRecord.active (fun _ => rfl) rfl,
      State.field_editTrailer s p _ TrailerRecord.noted (fun _ => rfl) rfl⟩

theorem withdraws_withdrawAction (a : Action) : Withdraws p s (s.withdrawAction p a) := by
  unfold State.withdrawAction
  split
  · dsimp only
    split
    · exact ⟨rfl, fun _ => rfl, fun _ => rfl, fun _ => rfl⟩
    · exact ⟨rfl, fun _ => rfl, fun _ => rfl, fun _ => rfl⟩
    · exact ⟨rfl, fun _ => rfl, fun _ => rfl, fun _ => rfl⟩
    · obtain ⟨shelf, rest, active, noted⟩ := withdraws_causeLeaves (s.putInForce p ((s.inForce p).put .cutHeater none)) p .cut
      exact ⟨shelf, rest, active, noted⟩
  · exact .refl s p

theorem withdraws_settleWithdrawal (a : Action) : Withdraws p s (s.settleWithdrawal p a) := by
  unfold State.settleWithdrawal
  split
  · exact withdraws_withdrawAction s p a
  · exact .refl s p

theorem ActionsInForce.of_put_none (a : ActionsInForce) (x : Action) : (a.put x Option.none).of x = Option.none := by
  cases x <;> rfl

/-- An action that is withdrawn is not in force. -/
theorem of_withdrawAction (a : Action) : ((s.withdrawAction p a).inForce p).of a = none := by
  have ended : ((s.putInForce p ((s.inForce p).put a none)).inForce p).of a = none := by
    rw [State.inForce_putInForce_self, ActionsInForce.of_put_none]
  unfold State.withdrawAction
  split
  · dsimp only
    split
    · exact ended
    · exact ended
    · exact ended
    · rw [State.causeLeaves_changes]
      exact ended
  · rename_i no
    unfold State.actionInForce at no
    simpa using no

end

section
variable (s : State) (p : Post) (c : FindingClass) (b : Bool)

/-- What clearing a class leaves of the two sets, the rest of the record and the arbiter. -/
structure ClearsFinding (p : Post) (c : FindingClass) (s t : State) : Prop where
  shelf : t.shelf = s.shelf
  rest : ∀ q, (t.trailer q).rest = (s.trailer q).rest
  active : (t.trailer p).active = (s.trailer p).active.filter fun a => decide (a.cls ≠ c)
  noted : (t.trailer p).noted = if ((s.trailer p).activeOf c).isSome then (s.trailer p).noted
    else (s.trailer p).noted.filter fun a => decide (a.cls ≠ c)

theorem filter_of_activeOf_none {t : TrailerRecord} {c : FindingClass} (h : t.activeOf c = none) :
    t.active.filter (fun a => decide (a.cls ≠ c)) = t.active := by
  rw [List.filter_eq_self]
  intro a ha
  simpa using (List.find?_eq_none.mp h) a ha

theorem filter_of_notedOf_none {t : TrailerRecord} {c : FindingClass} (h : t.notedOf c = none) :
    t.noted.filter (fun a => decide (a.cls ≠ c)) = t.noted := by
  rw [List.filter_eq_self]
  intro a ha
  simpa using (List.find?_eq_none.mp h) a ha

theorem clears_clearFinding : ClearsFinding p c s (s.clearFinding p c b) := by
  unfold State.clearFinding
  split
  · rename_i x _ found
    obtain ⟨shelf, rest, active, noted⟩ := withdraws_settleWithdrawal
      ((s.editTrailer p fun t => { t with active := t.active.filter fun a => decide (a.cls ≠ c) }).item p
        (.findingCleared c b)) p (s.tableEntry c).action
    refine ⟨?_, fun q => ?_, ?_, ?_⟩
    · rw [shelf, State.shelf_item, State.shelf_editTrailer]
    · rw [rest, State.item_trailer]
      exact State.field_editTrailer s p _ TrailerRecord.rest (fun _ => rfl) rfl q
    · rw [active, State.item_trailer]
      exact State.field_editTrailer_self s p _ TrailerRecord.active fun _ => rfl
    · rw [noted, State.item_trailer, found]
      exact State.field_editTrailer_self s p _ TrailerRecord.noted fun _ => rfl
  · rename_i x noneActive _
    refine ⟨?_, fun q => ?_, ?_, ?_⟩
    · rw [State.shelf_item, State.shelf_editTrailer]
    · rw [State.item_trailer]
      exact State.field_editTrailer s p _ TrailerRecord.rest (fun _ => rfl) rfl q
    · rw [State.item_trailer, filter_of_activeOf_none noneActive]
      exact State.field_editTrailer_self s p _ TrailerRecord.active fun _ => rfl
    · rw [State.item_trailer, noneActive]
      exact State.field_editTrailer_self s p _ TrailerRecord.noted fun _ => rfl
  · rename_i noneActive noneNoted
    refine ⟨rfl, fun _ => rfl, (filter_of_activeOf_none noneActive).symm, ?_⟩
    rw [noneActive]
    exact (filter_of_notedOf_none noneNoted).symm

/-- A class that stands is cleared with one item. -/
theorem gather_clearFinding (h : (s.trailer p).stands c = true) :
    (s.clearFinding p c b).gather = (s.item p (.findingCleared c b)).gather := by
  unfold State.clearFinding
  split
  · rw [State.gather_settleWithdrawal]
    exact State.gather_item_of (State.gather_editTrailer s p _) p _
  · exact State.gather_item_of (State.gather_editTrailer s p _) p _
  · rename_i noneActive noneNoted
    simp [TrailerRecord.stands, noneActive, noneNoted] at h

/-- A class that stands nowhere is cleared by nothing. -/
theorem clearFinding_of_not_stands (h : (s.trailer p).stands c = false) : s.clearFinding p c b = s := by
  rw [TrailerRecord.stands, Bool.or_eq_false_iff, Option.isSome_eq_false_iff, Option.isNone_iff_eq_none,
    Option.isSome_eq_false_iff, Option.isNone_iff_eq_none] at h
  unfold State.clearFinding
  rw [h.1, h.2]

end

namespace ClearsFinding

variable {s t : State} {p : Post} {c : FindingClass} (h : ClearsFinding p c s t)
include h

theorem activeOf_self : (t.trailer p).activeOf c = none := by
  unfold TrailerRecord.activeOf
  rw [h.active, List.find?_filter]
  simp [List.find?_eq_none]

theorem activeOf_other {c' : FindingClass} (hc : c' ≠ c) : (t.trailer p).activeOf c' = (s.trailer p).activeOf c' := by
  unfold TrailerRecord.activeOf
  rw [h.active, List.find?_filter]
  congr 1
  funext a
  by_cases ha : a.cls = c' <;> simp [ha, hc]

theorem notedOf_self (noActive : (s.trailer p).activeOf c = none) : (t.trailer p).notedOf c = none := by
  unfold TrailerRecord.notedOf
  rw [h.noted, noActive, Option.isSome_none, if_neg Bool.false_ne_true, List.find?_filter]
  simp [List.find?_eq_none]

theorem notedOf_other {c' : FindingClass} (hc : c' ≠ c) : (t.trailer p).notedOf c' = (s.trailer p).notedOf c' := by
  unfold TrailerRecord.notedOf
  rw [h.noted]
  split
  · rfl
  · rw [List.find?_filter]
    congr 1
    funext a
    by_cases ha : a.cls = c' <;> simp [ha, hc]

/-- A class that stood in one set stands no more. -/
theorem not_stands (one : (s.trailer p).InOneSet c) : (t.trailer p).stands c = false := by
  unfold TrailerRecord.stands
  rw [h.activeOf_self, Option.isSome_none, Bool.false_or, Option.isSome_eq_false_iff, Option.isNone_iff_eq_none]
  by_cases active : (s.trailer p).activeOf c = none
  · exact h.notedOf_self active
  · obtain no | no := one
    · exact absurd no active
    · unfold TrailerRecord.notedOf at no ⊢
      rw [h.noted, if_pos (Option.isSome_iff_ne_none.mpr active), no]

theorem directory : t.directory = s.directory := by
  have e : t.shelf.directory = s.shelf.directory := by rw [h.shelf]
  exact e

theorem queues : t.queues = s.queues := by
  have e : t.shelf.queues = s.shelf.queues := by rw [h.shelf]
  exact e

theorem committed : t.committed = s.committed := by
  have e : t.shelf.committed = s.shelf.committed := by rw [h.shelf]
  exact e

theorem stack : t.stack = s.stack ∧ t.nextPush = s.nextPush := by
  have e : t.shelf.stack = s.shelf.stack ∧ t.shelf.nextPush = s.shelf.nextPush := by rw [h.shelf]; exact ⟨rfl, rfl⟩
  exact e

end ClearsFinding

end Sys2Proof.Machine


/-! # Requests to the Trailer Table, the weather, the doors, the findings, the outputs and the store

The statements O20, O22, O26, O27, O28, O29 and O30. -/

namespace Sys2Proof.Machine

/-- A request about a post with a trailer: its refusals before the record is looked at. -/
structure PostRefusals (s : State) (t : RequestType) (tag : Word16) (b : Byte) (i : Instr) : Prop where
  high : 239 < b.toNat → exec i s = .next (s.refusedWith t tag .badArgument)
  vacant : ∀ p : Post, b.toNat = p.val → (s.trailer p).state = .vacant →
    exec i s = .next (s.refusedWith t tag .noTrailer)

section
variable {s : State} (ready : s.Ready) {i : Instr} {f : HostFrame} (wf : i.wf = true) (hf : i.frame = some f)
  (known : (RequestType.ofCode f.type).isSome = true) {t : RequestType} {tag : Word16} {b : Byte}
include ready wf hf known

theorem PostRefusals.of_takes {g : Post → TrailerRecord → State}
    (takes : s.ownerTakes i = s.withPost t tag b fun p => s.withTrailer t tag p (g p)) : PostRefusals s t tag b i :=
  ⟨fun high => exec_of_refuses ready wf hf known (takes.trans (withPost_of_high high)),
    fun _ hp vacant => exec_of_refuses ready wf hf known
      (takes.trans ((withPost_of_val hp).trans (withTrailer_of_vacant vacant)))⟩

end

/-! ## BIND_PROFILE (R34, R46) -/

theorem profileNamed_of_val {s : State} {n : Byte} {i : ProfileId} {pr : Profile} (hn : n.toNat = i.val)
    (hpr : s.config.profiles.get i = some pr) : s.profileNamed n = some (i, pr) := by
  have lt : n.toNat < 32 := hn ▸ i.isLt
  have same : (⟨n.toNat, lt⟩ : ProfileId) = i := Fin.ext hn
  unfold State.profileNamed
  rw [dif_pos lt, same, hpr]
  rfl

theorem profileNamed_of_none {s : State} {n : Byte}
    (h : 31 < n.toNat ∨ ∃ i : ProfileId, n.toNat = i.val ∧ s.config.profiles.get i = none) : s.profileNamed n = none := by
  unfold State.profileNamed
  obtain high | ⟨i, hn, hpr⟩ := h
  · exact dif_neg (by omega)
  · have lt : n.toNat < 32 := hn ▸ i.isLt
    have same : (⟨n.toNat, lt⟩ : ProfileId) = i := Fin.ext hn
    rw [dif_pos lt, same, hpr]
    rfl

/-- An enrolment is an edit, an item and the clearing of UNKNOWN-MODEL. -/
theorem clears_enrol (s : State) (p : Post) (i : ProfileId) (pr : Profile) :
    ClearsFinding p .unknownModel (s.editTrailer p fun t => t.enrolled i pr) (s.enrol p i pr) := by
  obtain ⟨shelf, rest, active, noted⟩ := clears_clearFinding
    ((s.editTrailer p fun t => t.enrolled i pr).item p (.enrolled i)) p .unknownModel false
  simp only [State.item_trailer, State.shelf_item] at shelf rest active noted
  exact ⟨shelf, rest, active, noted⟩

/-- What every field of an enrolled record is but the run and the finding sets. -/
theorem enrol_field (s : State) (p : Post) (i : ProfileId) (pr : Profile) {α : Type} (π : TrailerRecord → α)
    (hπ : ∀ x, π x.rest = π x) : π ((s.enrol p i pr).trailer p) = π ((s.trailer p).enrolled i pr) := by
  have edited : π ((s.editTrailer p fun t => t.enrolled i pr).trailer p) = π ((s.trailer p).enrolled i pr) :=
    State.field_editTrailer_self s p _ π fun t => by rw [← hπ, ← hπ t]; rfl
  exact (TrailerRecord.field_of_rest ((clears_enrol s p i pr).rest p) π hπ).trans edited

theorem enrol_verifies (s : State) (p : Post) (i : ProfileId) (pr : Profile) (h : (s.trailer p).state = .arriving) :
    ((s.enrol p i pr).trailer p).verifies = true := by
  have edited : ((s.editTrailer p fun t => t.enrolled i pr).trailer p).verifies = true := by
    refine State.editTrailer_verifies_of_differs s p _ fun e => ?_
    have same : RecordState.enrolled = (s.trailer p).state := congrArg TrailerRecord.state e
    rw [h] at same
    cases same
  have announced := FindingKit.verified.clearFinding
    ((s.editTrailer p fun t => t.enrolled i pr).item p (.enrolled i)) (p := p) trivial .unknownModel false p
  rw [State.item_trailer] at announced
  exact announced edited

theorem others_enrol (s : State) (p : Post) (i : ProfileId) (pr : Profile) : OtherPostsSame p s (s.enrol p i pr) :=
  ((OtherPostsSame.edit s p _).trans ((FindingKit.others p).item _ p (.enrolled i) rfl)).trans
    ((FindingKit.others p).clearFinding _ rfl .unknownModel false)

/-- Settles O20: the checks in their order, and the record that an enrolment leaves. -/
theorem bindProfileEnrols : Obligations.BindProfileEnrols := by
  intro tag b n s ready
  have takes {p : Post} (hp : b.toNat = p.val) : s.ownerTakes (.bindProfile tag b n) =
      match s.profileNamed n with
      | none => s.refuse .bindProfile tag .badArgument
      | some (i, pr) => s.withTrailer .bindProfile tag p fun t =>
          if t.state = .arriving then (s.enrol p i pr).answer .bindProfile tag .ok []
          else s.refuse .bindProfile tag .wrongState := withPost_of_val hp
  refine ⟨fun high => exec_of_refuses ready rfl rfl rfl (withPost_of_high high), fun p hp bad => ?_,
    fun p i pr hp hn hpr => ?_⟩
  · refine exec_of_refuses ready rfl rfl rfl ?_
    rw [takes hp, profileNamed_of_none bad]
  · have taken := takes hp
    rw [profileNamed_of_val hn hpr] at taken
    refine ⟨fun vacant => exec_of_refuses ready rfl rfl rfl (taken.trans (withTrailer_of_vacant vacant)),
      fun present not => exec_of_refuses ready rfl rfl rfl (taken.trans ((withTrailer_of_present present).trans (if_neg not))),
      fun arriving => ?_⟩
    have present : (s.trailer p).state ≠ .vacant := by rw [arriving]; nofun
    have clears := clears_enrol s p i pr
    have framed (f : Framed) : f.rel (s.enrol p i pr) s := f.enrol s p i pr
    have outside : OutsideSame s (s.enrol p i pr) := .of_framed fun f => framed f.toFramed
    obtain ⟨stack, nextPush⟩ := clears.stack
    have field {α : Type} (π : TrailerRecord → α) (hπ : ∀ x, π x.rest = π x) := enrol_field s p i pr π hπ
    have editedActive : ((s.editTrailer p fun t => t.enrolled i pr).trailer p).activeOf .unknownModel
        = (s.trailer p).activeOf .unknownModel :=
      State.field_editTrailer_self s p _ (fun t => t.activeOf .unknownModel) fun _ => rfl
    have editedNoted : ((s.editTrailer p fun t => t.enrolled i pr).trailer p).notedOf .unknownModel
        = (s.trailer p).notedOf .unknownModel :=
      State.field_editTrailer_self s p _ (fun t => t.notedOf .unknownModel) fun _ => rfl
    exact ⟨s.enrol p i pr,
      exec_of_answers ready rfl rfl rfl (taken.trans ((withTrailer_of_present present).trans (if_pos arriving))),
      field TrailerRecord.state fun _ => rfl, field TrailerRecord.profile fun _ => rfl, field TrailerRecord.f fun _ => rfl,
      field TrailerRecord.r fun _ => rfl, field TrailerRecord.lastDefrostEnd fun _ => rfl,
      field TrailerRecord.lastEval fun _ => rfl, field TrailerRecord.custody fun _ => rfl,
      field TrailerRecord.fuel fun _ => rfl, field TrailerRecord.door fun _ => rfl, field TrailerRecord.mask fun _ => rfl,
      field TrailerRecord.serial fun _ => rfl, field TrailerRecord.model fun _ => rfl,
      field TrailerRecord.arrival fun _ => rfl, field TrailerRecord.inhibit fun _ => rfl,
      field TrailerRecord.deferral fun _ => rfl, enrol_verifies s p i pr arriving, clears.activeOf_self,
      fun one => clears.not_stands (by
        unfold TrailerRecord.InOneSet
        rw [editedActive, editedNoted]
        exact one),
      clears.queues.trans (State.editTrailer_queues s p _), clears.committed.trans (State.editTrailer_committed s p _),
      stack.trans (by rw [State.editTrailer_changes]), nextPush.trans (by rw [State.editTrailer_changes]),
      clears.directory.trans (State.editTrailer_directory s p _), outside, .of_framed framed, others_enrol s p i pr⟩

/-! ## SET_WEATHER and SET_CLOCK (R59, R60, R199) -/

/-- Settles O22: the weather that the owner puts and the clock that it sets. -/
theorem weatherAndClockAreSet : Obligations.WeatherAndClockAreSet := by
  refine ⟨fun tag rh ta s => ⟨fun ready => ?_, fun pending held room => ?_⟩, fun tag setting s ready => ⟨?_, ?_⟩⟩
  · have nonneg : 0 ≤ clamp 0 100 rh.toInt := le_max_left _ _
    refine ⟨(clamp 0 100 rh.toInt).toNat, clamp (-400) 500 ta.toInt, Int.toNat_of_nonneg nonneg, rfl,
      exec_of_answers ready rfl rfl rfl ?_⟩
    have fresh : Weather.moisture
        { rh := (clamp 0 100 rh.toInt).toNat, ta := clamp (-400) 500 ta.toInt, receipt := some s.now } s.now s.config.mdef
        = moistureOf (clamp 0 100 rh.toInt).toNat (clamp (-400) 500 ta.toInt) := by
      unfold Weather.moisture Weather.standing
      dsimp only
      rw [if_pos (by rw [sub_self]; decide)]
    have flag : flagField (decide (clamp 0 100 rh.toInt ≠ rh.toInt) || decide (clamp (-400) 500 ta.toInt ≠ ta.toInt))
        = [if ((clamp 0 100 rh.toInt).toNat : Int) ≠ rh.toInt ∨ clamp (-400) 500 ta.toInt ≠ ta.toInt then 1 else 0] := by
      rw [Int.toNat_of_nonneg nonneg]
      simp [flagField]
    change s.takeSetWeather tag rh ta = _
    unfold State.takeSetWeather
    dsimp only
    rw [flag]
    unfold State.now at fresh ⊢
    dsimp only
    rw [fresh]
    rfl
  · have served : s.hostServed = true := by
      unfold State.hostServed
      rw [pending, Bool.or_true]
    exact (requestsAreCheckedAndHeld.1 s served held room).2.2 (.setWeather tag rh ta) _ rfl rfl rfl pending
  · refine exec_of_answers ready rfl rfl rfl ?_
    have reads : signed32 (State.yardNow { s with yardOffset := setting.toInt - s.now }) = bytes32 setting := by
      have yard : State.yardNow { s with yardOffset := setting.toInt - s.now } = setting.toInt := add_sub_cancel _ _
      rw [yard, signed32, BitVec.ofInt_toInt]
    change s.takeSetClock tag setting = _
    unfold State.takeSetClock
    dsimp only
    rw [reads]
  · exact add_sub_cancel _ _

/-! ## DECLARE_CUSTODY and CLEAR_CUSTODY (R143, R145) -/

theorem tagOk_of_printable {t : List Byte} (some : t ≠ []) (short : t.length ≤ 12)
    (all : ∀ c ∈ t, 0x20 ≤ c.toNat ∧ c.toNat ≤ 0x7E) : tagOk t = true := by
  have long : 1 ≤ t.length := List.length_pos_iff.mpr some
  simp only [tagOk, printable, Bool.and_eq_true, decide_eq_true_eq, List.all_eq_true]
  exact ⟨⟨long, short⟩, all⟩

theorem tagOk_of_bad {t : List Byte} (h : t = [] ∨ ∃ c ∈ t, c.toNat < 0x20 ∨ 0x7E < c.toNat) : tagOk t = false := by
  obtain rfl | ⟨c, hc, bad⟩ := h
  · rfl
  · have no : printable c = false := by
      simp only [printable, decide_eq_false_iff_not]
      omega
    unfold tagOk
    rw [List.all_eq_false.mpr ⟨c, hc, by rw [no]; exact Bool.false_ne_true⟩, Bool.and_false]

/-- An edit of a record and an item change nothing else. -/
theorem edit_item_changes (s : State) (p : Post) (f : TrailerRecord → TrailerRecord) (b : ItemBody) :
    ((s.editTrailer p f).item p b) = { s with
      records := ((s.editTrailer p f).item p b).records, stations := ((s.editTrailer p f).item p b).stations
      notices := ((s.editTrailer p f).item p b).notices, noticesLost := ((s.editTrailer p f).item p b).noticesLost
      tx := ((s.editTrailer p f).item p b).tx } := by
  have edited := State.editTrailer_changes s p f
  have records := State.item_records (s.editTrailer p f) p b
  generalize s.editTrailer p f = u at edited records ⊢
  have noticed := State.item_changes u p b
  generalize u.item p b = v at records noticed ⊢
  calc v = u.noticed v := noticed
    _ = State.noticed { s with records := u.records } v := by rw [← edited]
    _ = _ := by rw [← records]; rfl

theorem txGoesOn_edit_item (s : State) (p : Post) (f : TrailerRecord → TrailerRecord) (b : ItemBody) :
    TxGoesOn s ((s.editTrailer p f).item p b) :=
  (OutsideSame.of_framed fun h => (h.item _ p b).trans (h.editTrailer s p f)).tx

/-- Settles O26: the checks in their order, the edit and its item. -/
theorem custodyIsDeclaredAndCleared : Obligations.CustodyIsDeclaredAndCleared := by
  intro tag b s ready
  refine ⟨fun t short => ?_, ?_⟩
  · have wf : (Instr.declareCustody tag b t).wf = true := decide_eq_true short
    refine ⟨fun bad => exec_of_refuses ready wf rfl rfl ?_, fun p hp nonempty all => ?_⟩
    · by_cases high : 239 < b.toNat
      · exact withPost_of_high high
      · have p : Post := ⟨b.toNat, by omega⟩
        have badTag : tagOk t = false := tagOk_of_bad (bad.resolve_left high)
        change s.takeDeclareCustody tag b t = _
        unfold State.takeDeclareCustody
        rw [badTag, withPost_of_val (p := ⟨b.toNat, by omega⟩) rfl]
        rfl
    · have good : tagOk t = true := tagOk_of_printable nonempty short all
      have taken : s.ownerTakes (.declareCustody tag b t) = s.withTrailer .declareCustody tag p fun x =>
          if x.state ≠ .enrolled then s.refuse .declareCustody tag .wrongState
          else if x.door.held ≠ some .closed then s.refuse .declareCustody tag .doorNotClosed
          else ((s.editTrailer p fun x => { x with custody := .closed t }).item p
            (.custodyChanged (.closed t))).answer .declareCustody tag .ok (num1 x.door.unknownCount) :=
        (withPost_of_val hp).trans (if_pos good)
      have present (enrolled : (s.trailer p).state = .enrolled) := taken.trans ((withTrailer_of_present
        (by rw [enrolled]; nofun)).trans (if_neg (not_not.mpr enrolled)))
      refine ⟨fun vacant => exec_of_refuses ready wf rfl rfl (taken.trans (withTrailer_of_vacant vacant)),
        fun some no => exec_of_refuses ready wf rfl rfl (taken.trans ((withTrailer_of_present some).trans (if_pos no))),
        fun enrolled door => exec_of_refuses ready wf rfl rfl ((present enrolled).trans (if_pos door)),
        fun enrolled door => ⟨_, exec_of_answers ready wf rfl rfl ((present enrolled).trans (if_neg (not_not.mpr door))),
          rfl, edit_item_changes s p _ _, txGoesOn_edit_item s p _ _, ?_, fun q hq => ?_⟩⟩
      · rw [State.item_trailer]
        exact State.trailer_editTrailer_changedTo s p _
      · rw [State.item_trailer]
        exact State.trailer_editTrailer_other s p q _ hq
  · have takes : s.ownerTakes (.clearCustody tag b) = s.withPost .clearCustody tag b fun p =>
        s.withTrailer .clearCustody tag p fun t =>
          (if t.custody = .none then s.editTrailer p fun t => { t with custody := .none }
            else (s.editTrailer p fun t => { t with custody := .none }).item p (.custodyChanged .none)).answer
              .clearCustody tag .ok [] := rfl
    have refusals : PostRefusals s .clearCustody tag b (.clearCustody tag b) := .of_takes ready rfl rfl rfl takes
    refine ⟨refusals.high, refusals.vacant, fun p hp some => ?_⟩
    have taken := takes.trans ((withPost_of_val hp).trans (withTrailer_of_present some))
    by_cases none : (s.trailer p).custody = .none
    · rw [if_pos none] at taken
      refine ⟨_, exec_of_answers ready rfl rfl rfl taken, fun h => absurd none h, ?_, ?_,
        State.trailer_editTrailer_changedTo s p _, fun q hq => State.trailer_editTrailer_other s p q _ hq,
        fun _ => ?_⟩
      · conv_lhs => rw [State.editTrailer_changes]
        rw [State.editTrailer_changes]
      · rw [State.editTrailer_changes]
        exact .refl _
      · rw [State.editTrailer_changes]
        exact ⟨rfl, rfl, rfl, rfl⟩
    · rw [if_neg none] at taken
      refine ⟨_, exec_of_answers ready rfl rfl rfl taken, fun _ => rfl, edit_item_changes s p _ _,
        txGoesOn_edit_item s p _ _, ?_, fun q hq => ?_, fun h => absurd h none⟩
      · rw [State.item_trailer]
        exact State.trailer_editTrailer_changedTo s p _
      · rw [State.item_trailer]
        exact State.trailer_editTrailer_other s p q _ hq

/-! ## SET_RAISE_MASK and ACK_FINDING (R151, R162, R163) -/

/-- Settles O27: one edit and its reply. -/
theorem setRaiseMaskSets : Obligations.SetRaiseMaskSets := by
  intro tag b mask s ready
  have refusals : PostRefusals s .setRaiseMask tag b (.setRaiseMask tag b mask) :=
    .of_takes ready rfl rfl rfl (g := fun p _ => (s.editTrailer p fun t => { t with mask := heldMask mask }).answer
      .setRaiseMask tag .ok (bytes16 (heldMask mask))) rfl
  exact ⟨refusals.high, refusals.vacant, fun p hp some => ⟨s.editTrailer p fun t => { t with mask := heldMask mask },
    exec_of_answers ready rfl rfl rfl ((withPost_of_val hp).trans (withTrailer_of_present some)),
    State.editTrailer_changes s p _, State.trailer_editTrailer_changedTo s p _,
    fun q hq => State.trailer_editTrailer_other s p q _ hq⟩⟩

theorem ofNum_num (c : FindingClass) : FindingClass.ofNum c.num = some c := by cases c <;> rfl

theorem ofNum_of_high {n : Nat} (h : 15 < n) : FindingClass.ofNum n = none := by
  exact List.getElem?_eq_none (Nat.succ_le_of_lt h)

/-- The action of a class that is cleared from the active set goes where no active class carries it. -/
theorem of_clearFinding {s : State} {p : Post} {c : FindingClass} {b : Bool} (active : (s.trailer p).activeOf c ≠ none)
    (alone : ∀ x ∈ ((s.clearFinding p c b).trailer p).active, (s.tableEntry x.cls).action ≠ (s.tableEntry c).action) :
    ((s.clearFinding p c b).inForce p).of (s.tableEntry c).action = none := by
  have cleared := clears_clearFinding s p c b
  rw [cleared.active] at alone
  unfold State.clearFinding
  split
  · have before : (((s.editTrailer p fun t => { t with active := t.active.filter fun a => decide (a.cls ≠ c) }).item p
        (.findingCleared c b)).trailer p).active = (s.trailer p).active.filter fun a => decide (a.cls ≠ c) := by
      rw [State.item_trailer]
      exact State.field_editTrailer_self s p _ TrailerRecord.active fun _ => rfl
    have none : State.carrier ((s.editTrailer p fun t => { t with active := t.active.filter fun a => decide (a.cls ≠ c) }).item
        p (.findingCleared c b)) p (s.tableEntry c).action = none := by
      unfold State.carrier
      rw [before, List.find?_eq_none]
      intro x hx
      have table : State.tableEntry ((s.editTrailer p fun t =>
          { t with active := t.active.filter fun a => decide (a.cls ≠ c) }).item p (.findingCleared c b)) x.cls
          = s.tableEntry x.cls := by
        rw [State.item_changes, State.editTrailer_changes]
        rfl
      rw [table, decide_eq_true_eq]
      exact alone x hx
    unfold State.settleWithdrawal
    rw [if_pos (by rw [none]; rfl)]
    exact of_withdrawAction _ p _
  · rename_i no _
    exact absurd no active
  · rename_i no _
    exact absurd no active

/-- Settles O28: the checks in their order, and what clearing a finding leaves. -/
theorem ackFindingClears : Obligations.AckFindingClears := by
  intro tag b k s ready
  refine ⟨fun bad => exec_of_refuses ready rfl rfl rfl ?_, fun p c hp hk => ?_⟩
  · by_cases high : 239 < b.toNat
    · exact withPost_of_high high
    · change s.takeAckFinding tag b k = _
      unfold State.takeAckFinding
      rw [withPost_of_val (p := ⟨b.toNat, by omega⟩) rfl, ofNum_of_high (bad.resolve_left high)]
  · have taken : s.ownerTakes (.ackFinding tag b k) = s.withTrailer .ackFinding tag p fun t =>
        if c.latched ∧ t.stands c then (s.clearFinding p c true).answer .ackFinding tag .ok []
        else s.refuse .ackFinding tag .wrongState := by
      change s.takeAckFinding tag b k = _
      unfold State.takeAckFinding
      rw [withPost_of_val hp, hk, ofNum_num]
    refine ⟨fun vacant => exec_of_refuses ready rfl rfl rfl (taken.trans (withTrailer_of_vacant vacant)),
      fun some no => exec_of_refuses ready rfl rfl rfl (taken.trans ((withTrailer_of_present some).trans (if_neg ?_))),
      fun some latched stands => ?_⟩
    · rintro ⟨yes, stands⟩
      obtain no | no := no
      · rw [no] at yes
        cases yes
      · rw [no] at stands
        cases stands
    · have clears := clears_clearFinding s p c true
      have framed (f : Framed) : f.rel (s.clearFinding p c true) s := f.clearFinding s p c true
      exact ⟨s.clearFinding p c true,
        exec_of_answers ready rfl rfl rfl (taken.trans ((withTrailer_of_present some).trans (if_pos ⟨latched, stands⟩))),
        clears.activeOf_self, clears.notedOf_self, fun c' hc => ⟨clears.activeOf_other hc, clears.notedOf_other hc⟩,
        of_clearFinding, .of_gather (gather_clearFinding s p c true stands), clears.stack.1, clears.stack.2, clears.queues,
        clears.committed, clears.directory, .of_framed fun f => framed f.toFramed, .of_framed framed,
        (FindingKit.others p).clearFinding s rfl c true⟩

/-! ## POST_OUTPUT (R174) -/

theorem selected_zero (field : Bool) : selected 0 field = false := rfl

theorem selected_one (field : Bool) : selected 1 field = true := rfl

theorem selected_keep (field : Bool) : selected 2 field = field := rfl

/-- Settles O29: the checks in their order, and the fields that the selectors name. -/
theorem postOutputSelects : Obligations.PostOutputSelects := by
  intro tag b c n off on s ready
  have takes {p : Post} (hp : b.toNat = p.val) : s.ownerTakes (.postOutput tag b c n off on) =
      if 2 < c.toNat ∨ 2 < n.toNat ∨ 2 < off.toNat ∨ 2 < on.toNat then s.refuse .postOutput tag .badArgument
      else match s.output p with
        | none => s.refuse .postOutput tag .wrongState
        | some o =>
          if (s.line (postLine p)).state = .off then s.refuse .postOutput tag .wrongState
          else (s.putOutput p (some (o.select c n off on))).answer .postOutput tag .ok
            (s.outputReply p (o.select c n off on)) := withPost_of_val hp
  refine ⟨fun bad => exec_of_refuses ready rfl rfl rfl ?_, fun p hp hc hn hoff hon => ⟨fun no => ?_, fun o ho polls => ?_⟩⟩
  · by_cases high : 239 < b.toNat
    · exact withPost_of_high high
    · rw [takes (p := ⟨b.toNat, by omega⟩) rfl]
      exact if_pos (bad.resolve_left high)
  · refine exec_of_refuses ready rfl rfl rfl ((takes hp).trans ((if_neg (by omega)).trans ?_))
    split
    · rfl
    · rename_i o ho
      obtain none | off := no
      · rw [none] at ho
        cases ho
      · exact if_pos off
  · refine ⟨o.select c n off on, rfl, ?_, ?_, ?_, ?_, ?_, ?_, ?_, ?_, ?_, ?_, ?_, ?_, ?_⟩
    rotate_right
    · refine exec_of_answers ready rfl rfl rfl ((takes hp).trans ((if_neg (by omega)).trans ?_))
      rw [ho]
      exact if_neg polls
    all_goals
      rintro rfl
      rfl

/-! ## STORE_WRITE (R193) -/

theorem storePlace_of_val {b : Byte} {k : Fin 102} (h : b.toNat = k.val) : storePlace b = k := by
  unfold storePlace
  rw [h]
  exact Fin.ext (Nat.mod_eq_of_lt k.isLt)

theorem profileBound_iff (s : State) (i : ProfileId) :
    s.profileBound i = true ↔ ∃ p, (s.trailer p).state ≠ .vacant ∧ (s.trailer p).profile = some i := by
  simp [State.profileBound, mem_allPosts]

/-- Settles O30: each check that refuses, and the write that none refuses. -/
theorem storeWriteStarts : Obligations.StoreWriteStarts := by
  intro tag b content s ready len
  have wf : (Instr.storeWrite tag b content).wf = true := decide_eq_true len
  have refused {st : Status} (h : s.writeRefusal b.toNat content = some st) :
      exec (.storeWrite tag b content) s = .next (s.refusedWith .storeWrite tag st) := by
    refine exec_of_refuses ready wf rfl rfl ?_
    change s.takeStoreWrite tag b content = _
    unfold State.takeStoreWrite
    rw [h]
  have checked (inRange : b.toNat ≤ 101) (free : s.write = none) : s.writeRefusal b.toNat content =
      if s.writeProtected b.toNat then some .isProtected
      else match readBlock b.toNat content with
        | none => some .badArgument
        | some c =>
          if !s.config.admits c then some .badArgument
          else match c with
            | .profile i none => if s.profileBound i then some .wrongState else none
            | .profile _ (some _) | .lines _ _ | .postMap _ _ | .capacities _ | .findingTable _ | .defaults _ _ => none := by
    unfold State.writeRefusal
    rw [if_neg (show ¬ Config.lastImage < b.toNat from not_lt.mpr inRange), free]
    rfl
  refine ⟨fun high => refused (if_pos high), fun inRange busy => refused ((if_neg (not_lt.mpr inRange)).trans (if_pos busy)),
    fun inRange free protects => refused ?_, fun low high free key => ?_⟩
  · rw [checked inRange free, if_pos]
    simp only [State.writeProtected, Bool.or_eq_true, Bool.and_eq_true, decide_eq_true_eq]
    exact or_assoc.mpr protects
  · have opened : s.writeProtected b.toNat = false := by
      simp only [State.writeProtected, Bool.or_eq_false_iff, Bool.and_eq_false_iff, decide_eq_false_iff_not]
      refine ⟨⟨by omega, not_le.mpr (Nat.lt_succ_of_le high)⟩, ?_⟩
      obtain low | service := key
      · exact .inl (by omega)
      · rw [service]
        exact .inr nofun
    have read := checked (by omega) free
    rw [opened, if_neg Bool.false_ne_true] at read
    refine ⟨fun bad => refused ?_, fun c hc no => refused ?_, fun i p hc some bound => ?_, fun c k hc admits unbound hk => ?_⟩
    · rw [read, bad]
    · rw [read, hc]
      dsimp only
      rw [no]
      rfl
    · rw [hc] at read
      dsimp only at read
      refine refused (read.trans ?_)
      exact if_pos ((profileBound_iff s i).mpr ⟨p, some, bound⟩)
    · have none : s.writeRefusal b.toNat content = none := by
        rw [read, hc]
        dsimp only
        rw [admits, if_neg (by decide)]
        split
        · rename_i i
          refine if_neg fun h => ?_
          obtain ⟨p, some, bound⟩ := (profileBound_iff s i).mp h
          exact unbound i rfl p some bound
        all_goals rfl
      rw [exec_of_ready ready wf rfl rfl]
      change Host.Outcome.next (s.takeStoreWrite tag b content).pumpTx = _
      unfold State.takeStoreWrite State.startWrite
      rw [none, storePlace_of_val hk]

end Sys2Proof.Machine


/-! # Producing a finding of a run, entry to ENDING and the run's timers

What producing a finding does to the sets of a record, what entry to ENDING leaves of it, and the statements O24, O25, O44,
O45 and O46. -/

namespace Sys2Proof.Machine

/-! ## Joining a set -/

section
variable {a : ActiveFinding} {l : List ActiveFinding}

theorem mem_joinActive {x : ActiveFinding} : x ∈ joinActive a l ↔ x = a ∨ x ∈ l := by
  induction l with
  | nil => simp [joinActive]
  | cons y ys ih =>
    unfold joinActive
    split
    · simp
    · simp only [List.mem_cons, ih]
      tauto

theorem find_joinActive_self (h : ∀ x ∈ l, x.cls ≠ a.cls) :
    (joinActive a l).find? (fun x => decide (x.cls = a.cls)) = some a := by
  induction l with
  | nil => simp [joinActive]
  | cons y ys ih =>
    obtain ⟨first, rest⟩ := List.forall_mem_cons.mp h
    unfold joinActive
    split
    · simp
    · rw [List.find?_cons_of_neg (by simpa using first)]
      exact ih rest

theorem find_joinActive_other {c : FindingClass} (hc : c ≠ a.cls) :
    (joinActive a l).find? (fun x => decide (x.cls = c)) = l.find? fun x => decide (x.cls = c) := by
  induction l with
  | nil => simp [joinActive, hc.symm]
  | cons y ys ih =>
    unfold joinActive
    split
    · rw [List.find?_cons_of_neg (by simpa using hc.symm)]
    · rw [List.find?_cons, List.find?_cons, ih]

end

section
variable {a : NotedFinding} {l : List NotedFinding}

theorem find_joinNoted_self (h : ∀ x ∈ l, x.cls ≠ a.cls) :
    (joinNoted a l).find? (fun x => decide (x.cls = a.cls)) = some a := by
  induction l with
  | nil => simp [joinNoted]
  | cons y ys ih =>
    obtain ⟨first, rest⟩ := List.forall_mem_cons.mp h
    unfold joinNoted
    split
    · simp
    · rw [List.find?_cons_of_neg (by simpa using first)]
      exact ih rest

theorem find_joinNoted_other {c : FindingClass} (hc : c ≠ a.cls) :
    (joinNoted a l).find? (fun x => decide (x.cls = c)) = l.find? fun x => decide (x.cls = c) := by
  induction l with
  | nil => simp [joinNoted, hc.symm]
  | cons y ys ih =>
    unfold joinNoted
    split
    · rw [List.find?_cons_of_neg (by simpa using hc.symm)]
    · rw [List.find?_cons, List.find?_cons, ih]

end

/-- A record without its finding sets and its check code. -/
def TrailerRecord.account (t : TrailerRecord) : TrailerRecord := { t with active := [], noted := [], checkError := 0 }

theorem TrailerRecord.field_of_account {t u : TrailerRecord} (h : t.account = u.account) {α : Type}
    (π : TrailerRecord → α) (hπ : ∀ x, π x.account = π x) : π t = π u := by rw [← hπ t, h, hπ]

/-- A record after a class has joined its note set. -/
def TrailerRecord.noting (t : TrailerRecord) (c : FindingClass) (d : Nat) : TrailerRecord :=
  { t with noted := joinNoted { cls := c, detail := d } t.noted }

/-- A record after a class has joined its active set. -/
def TrailerRecord.raising (t : TrailerRecord) (c : FindingClass) (d n : Nat) : TrailerRecord :=
  { t with active := joinActive { cls := c, detail := d, push := some n } t.active }

theorem TrailerRecord.not_stands_iff {t : TrailerRecord} {c : FindingClass} :
    t.stands c = false ↔ t.activeOf c = none ∧ t.notedOf c = none := by
  rw [TrailerRecord.stands, Bool.or_eq_false_iff, Option.isSome_eq_false_iff, Option.isNone_iff_eq_none,
    Option.isSome_eq_false_iff, Option.isNone_iff_eq_none]

section
variable {t : TrailerRecord} {c : FindingClass} {d n : Nat}

theorem TrailerRecord.notedOf_noting (h : t.notedOf c = none) :
    (t.noting c d).notedOf c = some { cls := c, detail := d } :=
  find_joinNoted_self (a := { cls := c, detail := d }) fun x hx => by simpa using List.find?_eq_none.mp h x hx

theorem TrailerRecord.activeOf_raising (h : t.activeOf c = none) :
    (t.raising c d n).activeOf c = some { cls := c, detail := d, push := some n } :=
  find_joinActive_self (a := { cls := c, detail := d, push := some n }) fun x hx => by
    simpa using List.find?_eq_none.mp h x hx

theorem TrailerRecord.activeOf_raising_other {k : FindingClass} (hk : k ≠ c) :
    (t.raising c d n).activeOf k = t.activeOf k := find_joinActive_other hk

theorem TrailerRecord.stands_noting (h : t.stands c = false) (k : FindingClass) :
    (t.noting c d).stands k = (t.stands k || decide (k = c)) := by
  by_cases hk : k = c
  · subst hk
    rw [TrailerRecord.stands, TrailerRecord.notedOf_noting (TrailerRecord.not_stands_iff.mp h).2]
    simp
  · have noted : (t.noting c d).notedOf k = t.notedOf k := find_joinNoted_other hk
    have active : (t.noting c d).activeOf k = t.activeOf k := rfl
    rw [TrailerRecord.stands, noted, active, TrailerRecord.stands]
    simp [hk]

theorem TrailerRecord.stands_raising (h : t.stands c = false) (k : FindingClass) :
    (t.raising c d n).stands k = (t.stands k || decide (k = c)) := by
  by_cases hk : k = c
  · subst hk
    rw [TrailerRecord.stands, TrailerRecord.activeOf_raising (TrailerRecord.not_stands_iff.mp h).1]
    simp
  · have active : (t.raising c d n).activeOf k = t.activeOf k := TrailerRecord.activeOf_raising_other hk
    have noted : (t.raising c d n).notedOf k = t.notedOf k := rfl
    rw [TrailerRecord.stands, active, noted, TrailerRecord.stands]
    simp [hk]

end

/-- A standing class stands whatever the check code. -/
theorem State.stands_editTrailer (s : State) (p : Post) (f : TrailerRecord → TrailerRecord) (c : FindingClass) :
    ((s.editTrailer p f).trailer p).stands c = (f (s.trailer p)).stands c :=
  State.field_editTrailer_self s p f (fun t => t.stands c) fun _ => rfl

/-! ## A finding is dropped, noted or raised (R147, R149, R150) -/

section
variable {s : State} {p : Post} {c : FindingClass} (apply : State → Post → Action → Nat → State) (d k : Nat)

theorem produceWith_of_drops (h : s.running = false ∨ (s.trailer p).stands c = true) :
    s.produceWith apply p c d k = (s, none) := by
  unfold State.produceWith
  obtain h | h := h <;> rw [h] <;> simp

theorem produceWith_of_notes (running : s.running = true) (free : (s.trailer p).stands c = false)
    (mask : (s.trailer p).mask.getLsbD c.num = false) (hc : c ≠ .custodyBreak) :
    s.produceWith apply p c d k = (s.noteFinding p c d, none) := by
  unfold State.produceWith
  rw [running, free, mask]
  simp [hc]

theorem produceWith_of_raises (running : s.running = true) (free : (s.trailer p).stands c = false)
    (mask : (s.trailer p).mask.getLsbD c.num = true ∨ c = .custodyBreak) :
    s.produceWith apply p c d k = (s.raiseFinding apply p c d k, some s.nextPush) := by
  unfold State.produceWith
  rw [running, free]
  obtain mask | rfl := mask
  · rw [mask]
    simp
  · simp

end

/-- A state with everything cleared but the directory and the arbiter. -/
def State.desk (s : State) : State :=
  { State.reset with directory := s.directory, queues := s.queues, committed := s.committed }

/-- What producing a finding of an ENDING run does to records, directory and arbiter. -/
structure Produces (p : Post) (c : FindingClass) (s t : State) : Prop where
  desk : t.desk = s.desk
  others : ∀ q, q ≠ p → t.trailer q = s.trailer q
  account : (t.trailer p).account = (s.trailer p).account
  stands : s.running = true → (t.trailer p).stands c = true
  mono : ∀ k, (s.trailer p).stands k = true → (t.trailer p).stands k = true

/-- An action coming into force without its effects changes the actions and the outputs alone. -/
theorem State.activate_changes (s : State) (p : Post) (a : Action) (k : Nat) :
    s.activate p a k = { s with actions := (s.activate p a k).actions, outputs := (s.activate p a k).outputs } := by
  have lit (u : State) : u.lightBeacon p = { u with outputs := (u.lightBeacon p).outputs } := by
    unfold State.lightBeacon
    split <;> rfl
  unfold State.activate
  split
  · rfl
  · dsimp only
    split
    · rw [lit]
      rfl
    · rfl

theorem State.activate_trailer (s : State) (p q : Post) (a : Action) (k : Nat) :
    (s.activate p a k).trailer q = s.trailer q := by
  rw [State.activate_changes]
  rfl

theorem State.desk_item (s : State) (p : Post) (b : ItemBody) : (s.item p b).desk = s.desk := by
  rw [State.item_changes]
  rfl

theorem State.desk_editTrailer (s : State) (p : Post) (f : TrailerRecord → TrailerRecord) :
    (s.editTrailer p f).desk = s.desk := by
  rw [State.editTrailer_changes]
  rfl

theorem noteFinding_trailer (s : State) (p q : Post) (c : FindingClass) (d : Nat) :
    (s.noteFinding p c d).trailer q = (s.editTrailer p fun t => t.noting c d).trailer q := State.item_trailer _ _ _ _

theorem raiseFinding_trailer (s : State) (p q : Post) (c : FindingClass) (d k : Nat) :
    (s.raiseFinding State.activate p c d k).trailer q = (s.editTrailer p fun t => t.raising c d s.nextPush).trailer q := by
  have pushed : ((s.pushFrame p c d k).editTrailer p fun t => t.raising c d s.nextPush).trailer q
      = (s.editTrailer p fun t => t.raising c d s.nextPush).trailer q := by
    by_cases hq : q = p
    · subst hq
      rw [State.trailer_editTrailer_changedTo, State.trailer_editTrailer_changedTo]
      rfl
    · rw [State.trailer_editTrailer_other _ _ _ _ hq, State.trailer_editTrailer_other _ _ _ _ hq]
      rfl
  unfold State.raiseFinding
  dsimp only
  rw [State.item_trailer, State.activate_trailer]
  exact pushed

theorem produces_produceEnding (s : State) (p : Post) (c : FindingClass) (d k : Nat) :
    Produces p c s (s.produceEnding p c d k).1 := by
  unfold State.produceEnding
  cases running : s.running with
  | false =>
    rw [produceWith_of_drops _ _ _ (.inl running)]
    exact ⟨rfl, fun _ _ => rfl, rfl, (by rw [running]; nofun), fun _ => id⟩
  | true =>
    cases free : (s.trailer p).stands c with
    | true =>
      rw [produceWith_of_drops _ _ _ (.inr free)]
      exact ⟨rfl, fun _ _ => rfl, rfl, fun _ => free, fun _ => id⟩
    | false =>
      by_cases mask : (s.trailer p).mask.getLsbD c.num = true ∨ c = .custodyBreak
      · rw [produceWith_of_raises _ _ _ running free mask]
        refine ⟨?_, fun q hq => ?_, ?_, fun _ => ?_, fun x hx => ?_⟩
        · unfold State.raiseFinding
          dsimp only
          rw [State.desk_item, State.activate_changes]
          exact (State.desk_editTrailer _ _ _).trans rfl
        · rw [raiseFinding_trailer, State.trailer_editTrailer_other s p q _ hq]
        · rw [raiseFinding_trailer]
          exact State.field_editTrailer_self s p _ TrailerRecord.account fun _ => rfl
        · rw [raiseFinding_trailer, State.stands_editTrailer, TrailerRecord.stands_raising free]
          simp
        · rw [raiseFinding_trailer, State.stands_editTrailer, TrailerRecord.stands_raising free, hx]
          rfl
      · obtain ⟨clear, hc⟩ := not_or.mp mask
        rw [produceWith_of_notes _ _ _ running free (Bool.eq_false_iff.mpr clear) hc]
        refine ⟨(State.desk_item _ _ _).trans (State.desk_editTrailer _ _ _), fun q hq => ?_, ?_, fun _ => ?_,
          fun x hx => ?_⟩
        · rw [noteFinding_trailer, State.trailer_editTrailer_other s p q _ hq]
        · rw [noteFinding_trailer]
          exact State.field_editTrailer_self s p _ TrailerRecord.account fun _ => rfl
        · rw [noteFinding_trailer, State.stands_editTrailer, TrailerRecord.stands_noting free]
          simp
        · rw [noteFinding_trailer, State.stands_editTrailer, TrailerRecord.stands_noting free, hx]
          rfl

/-! ## Entry to ENDING (R105) -/

/-- The record as its run enters ENDING, before the finding. -/
def TrailerRecord.entering (t : TrailerRecord) (r : RunRecord) (now : Time) (o : RunOutcome) (b : Bool) (n : Nat) :
    TrailerRecord :=
  { t with
    run := some (r.enter now o b n)
    deferral := if o.defers then laterDeferral t.deferral (now + Config.abortDeferral) else t.deferral }

theorem enterEnding_of_run {s : State} {p : Post} {r : RunRecord} (h : s.run p = some r) (o : RunOutcome) (b : Bool)
    (n : Nat) : s.enterEnding p o b n =
      match o.finding b with
      | none => s.editTrailer p fun t => t.entering r s.now o b n
      | some (c, d) =>
        ((s.editTrailer p fun t => t.entering r s.now o b n).produceEnding p c d ((r.enter s.now o b n).link.getD 0)).1.relink p
          ((s.editTrailer p fun t => t.entering r s.now o b n).produceEnding p c d
            ((r.enter s.now o b n).link.getD 0)).2 := by
  unfold State.enterEnding
  rw [h]
  rfl

/-- What entry to ENDING leaves of the record, the directory and the arbiter. -/
structure EntersEnding (p : Post) (r : RunRecord) (o : RunOutcome) (b : Bool) (n : Nat) (s t : State) : Prop where
  desk : t.desk = s.desk
  others : ∀ q, q ≠ p → t.trailer q = s.trailer q
  run : ∃ l, t.run p = some { r.enter s.now o b n with link := l }
  deferral : (t.trailer p).deferral
    = if o.defers then laterDeferral (s.trailer p).deferral (s.now + Config.abortDeferral) else (s.trailer p).deferral
  bulk : (t.trailer p).bulk = (s.trailer p).bulk
  stands : s.running = true → ∀ c d, o.finding b = some (c, d) → (t.trailer p).stands c = true
  mono : ∀ k, (s.trailer p).stands k = true → (t.trailer p).stands k = true

theorem entersEnding_edit (s : State) (p : Post) (r : RunRecord) (o : RunOutcome) (b : Bool) (n : Nat)
    (silent : o.finding b = none) : EntersEnding p r o b n s (s.editTrailer p fun t => t.entering r s.now o b n) where
  desk := State.desk_editTrailer s p _
  others q hq := State.trailer_editTrailer_other s p q _ hq
  run := ⟨_, State.field_editTrailer_self s p _ TrailerRecord.run fun _ => rfl⟩
  deferral := State.field_editTrailer_self s p _ TrailerRecord.deferral fun _ => rfl
  bulk := State.field_editTrailer_self s p _ TrailerRecord.bulk fun _ => rfl
  stands _ c d h := by rw [silent] at h; cases h
  mono k hk := by rw [State.stands_editTrailer]; exact hk

theorem entersEnding_enterEnding {s : State} {p : Post} {r : RunRecord} (h : s.run p = some r) (o : RunOutcome)
    (b : Bool) (n : Nat) : EntersEnding p r o b n s (s.enterEnding p o b n) := by
  rw [enterEnding_of_run h]
  cases found : o.finding b with
  | none => exact entersEnding_edit s p r o b n found
  | some x =>
    obtain ⟨c, d⟩ := x
    dsimp only
    generalize hu : (s.editTrailer p fun t => t.entering r s.now o b n) = u
    have entered {α : Type} (π : TrailerRecord → α) (hπ : ∀ t, π t.sealed = π t) :
        π (u.trailer p) = π ((s.trailer p).entering r s.now o b n) := by
      rw [← hu]
      exact State.field_editTrailer_self s p _ π hπ
    have running : u.running = s.running := by rw [← hu, State.editTrailer_changes]; rfl
    have produced := produces_produceEnding u p c d ((r.enter s.now o b n).link.getD 0)
    generalize hv : u.produceEnding p c d ((r.enter s.now o b n).link.getD 0) = v at produced ⊢
    have field {α : Type} (π : TrailerRecord → α) (hπ : ∀ t, π t.account = π t) :
        π (v.1.trailer p) = π ((s.trailer p).entering r s.now o b n) :=
      (TrailerRecord.field_of_account produced.account π hπ).trans (entered π fun t => by rw [← hπ, ← hπ t]; rfl)
    have run : v.1.run p = some (r.enter s.now o b n) := field TrailerRecord.run fun _ => rfl
    have base : EntersEnding p r o b n s v.1 := by
      refine ⟨?_, fun q hq => ?_, ⟨_, run⟩, field TrailerRecord.deferral fun _ => rfl, ?_, fun on c' d' e => ?_, fun k hk => ?_⟩
      · rw [produced.desk, ← hu, State.desk_editTrailer]
      · rw [produced.others q hq, ← hu, State.trailer_editTrailer_other s p q _ hq]
      · exact (field TrailerRecord.bulk fun _ => rfl).trans rfl
      · cases found.symm.trans e
        exact produced.stands (running.trans on)
      · refine produced.mono k ?_
        rw [← hu, State.stands_editTrailer]
        exact hk
    unfold State.relink
    split
    · rename_i k x _ hx
      rw [run] at hx
      cases hx
      have edited {α : Type} (π : TrailerRecord → α) (hπ : ∀ t, π t.sealed = π t)
          (keeps : π { v.1.trailer p with run := some { r.enter s.now o b n with link := some k } } = π (v.1.trailer p)) :
          π ((v.1.putRun p (some { r.enter s.now o b n with link := some k })).trailer p) = π (v.1.trailer p) :=
        (State.field_editTrailer_self v.1 p _ π hπ).trans keeps
      refine ⟨(State.desk_editTrailer _ _ _).trans base.desk, fun q hq => ?_, ⟨_, State.run_putRun_self _ p _⟩,
        (edited TrailerRecord.deferral (fun _ => rfl) rfl).trans base.deferral,
        (edited TrailerRecord.bulk (fun _ => rfl) rfl).trans base.bulk, fun on c' d' e => ?_, fun x hx => ?_⟩
      · exact (State.trailer_editTrailer_other _ p q _ hq).trans (base.others q hq)
      · exact (edited (fun t => t.stands c') (fun _ => rfl) rfl).trans (base.stands on c' d' e)
      · exact (edited (fun t => t.stands x) (fun _ => rfl) rfl).trans (base.mono x hx)
    · exact base

namespace EntersEnding

variable {p : Post} {r : RunRecord} {o : RunOutcome} {b : Bool} {n : Nat} {s t : State} (h : EntersEnding p r o b n s t)
include h

theorem queues : t.queues = s.queues := by
  have e : t.desk.queues = s.desk.queues := by rw [h.desk]
  exact e

theorem committed : t.committed = s.committed := by
  have e : t.desk.committed = s.desk.committed := by rw [h.desk]
  exact e

theorem directory : t.directory = s.directory := by
  have e : t.desk.directory = s.desk.directory := by rw [h.desk]
  exact e

theorem f : (t.trailer p).f = (s.trailer p).f := by
  have e : (t.trailer p).bulk.f = (s.trailer p).bulk.f := by rw [h.bulk]
  exact e

end EntersEnding

/-! ## A run ended from outside (R107) -/

/-- An abort that produces no finding is one edit of the record. -/
theorem enterEnding_quiet {s : State} {p : Post} {r : RunRecord} (h : s.run p = some r) {o : RunOutcome} {b : Bool}
    (n : Nat) (silent : o.finding b = none) :
    s.enterEnding p o b n = s.editTrailer p fun t => t.entering r s.now o b n := by
  rw [enterEnding_of_run h, silent]

/-- The run after an abort by the host or by the inhibit flag. -/
def abortedRun (now : Time) (c : AbortCause) (r : RunRecord) : RunRecord :=
  if r.isEnding then r else r.enter now (.aborted c) false 0

/-- An abort by the host or by the inhibit flag changes one record's run. -/
structure AbortsQuietly (p : Post) (c : AbortCause) (s t : State) : Prop where
  changes : t = { s with records := t.records }
  others : ∀ q, q ≠ p → t.trailer q = s.trailer q
  trailer : t.trailer p = (s.trailer p).changedTo { s.trailer p with run := (s.run p).map (abortedRun s.now c) }

theorem TrailerRecord.changedTo_self (t : TrailerRecord) : t.changedTo t = t := if_pos rfl

theorem abortsQuietly_abortRun (s : State) (p : Post) {c : AbortCause} (silent : (RunOutcome.aborted c).finding false = none)
    (keeps : (RunOutcome.aborted c).defers = false) :
    AbortsQuietly p c s (s.abortRun p c false 0).1 ∧ (s.abortRun p c false 0).2 = (s.run p).any fun r => !r.isEnding := by
  have unchanged (h : (s.run p).map (abortedRun s.now c) = s.run p) : AbortsQuietly p c s s := by
    refine ⟨rfl, fun _ _ => rfl, ?_⟩
    rw [h]
    exact (TrailerRecord.changedTo_self _).symm
  unfold State.abortRun
  cases hr : s.run p with
  | none => exact ⟨unchanged (by rw [hr]; rfl), rfl⟩
  | some r =>
    dsimp only
    cases ending : r.isEnding with
    | true =>
      refine ⟨unchanged ?_, by simp [ending]⟩
      rw [hr, Option.map_some, abortedRun, if_pos ending]
    | false =>
      refine ⟨?_, by simp [ending]⟩
      rw [if_neg Bool.false_ne_true]
      dsimp only
      rw [enterEnding_quiet hr 0 silent]
      refine ⟨State.editTrailer_changes s p _, fun q hq => State.trailer_editTrailer_other s p q _ hq, ?_⟩
      rw [State.trailer_editTrailer_changedTo, hr, Option.map_some, abortedRun, ending, if_neg Bool.false_ne_true]
      unfold TrailerRecord.entering
      rw [keeps, if_neg Bool.false_ne_true]

/-- An abort that changes the run leaves it so, whatever else the record takes. -/
theorem abortedRun_ne {s : State} {p : Post} {c : AbortCause} (h : (s.run p).map (abortedRun s.now c) ≠ s.run p) :
    ∃ r, s.run p = some r ∧ r.isEnding = false := by
  cases hr : s.run p with
  | none =>
    rw [hr] at h
    exact absurd rfl h
  | some r =>
    refine ⟨r, rfl, ?_⟩
    cases ending : r.isEnding with
    | false => rfl
    | true =>
      rw [hr, Option.map_some, abortedRun, if_pos ending] at h
      exact absurd rfl h

/-- The queues once a trailer's one request is removed (R81). -/
theorem State.GrantLaw.queue_removeRequest {s : State} (law : s.GrantLaw) (p : Post) (q : Queue) :
    (s.removeRequest p).queue q = (s.queue q).filter fun x => decide (x.post ≠ p) := by
  have whole {q : Queue} (h : ∀ x ∈ s.queue q, x.post ≠ p) :
      s.queue q = (s.queue q).filter fun x => decide (x.post ≠ p) :=
    (List.filter_eq_self.mpr fun x hx => decide_eq_true (h x hx)).symm
  unfold State.removeRequest
  split
  · rename_i none
    exact whole fun x hx => State.requestOf_eq_none_iff.mp none q x hx
  · rename_i q' r found
    obtain ⟨hr, rfl⟩ := State.requestOf_spec found
    by_cases hq : q = q'
    · subst hq
      rw [State.queue_putQueue_self]
    · rw [State.queue_putQueue_other _ _ _ _ hq]
      exact whole fun x hx => law.oneQueue q q' hq x hx r hr

theorem removeRequest_changes (s : State) (p : Post) :
    s.removeRequest p = { s with queues := (s.removeRequest p).queues } := by
  unfold State.removeRequest
  split <;> rfl

theorem removeRequest_trailer (s : State) (p q : Post) : (s.removeRequest p).trailer q = s.trailer q := by
  unfold State.trailer
  rw [State.removeRequest_records]

theorem removeRequest_run (s : State) (p q : Post) : (s.removeRequest p).run q = s.run q := by
  unfold State.run
  rw [removeRequest_trailer]

/-! ## DEFROST_CANCEL and DEFROST_INHIBIT (R88, R89) -/

/-- Settles O24: the request's removal, the abort and the deferral as one change of the record. -/
theorem defrostCancelCancels : Obligations.DefrostCancelCancels := by
  intro tag b minutes s ready law
  refine ⟨fun high => exec_of_refuses ready rfl rfl rfl (withPost_of_high high), fun p hp => ?_⟩
  have taken : s.ownerTakes (.defrostCancel tag b minutes) = s.withTrailer .defrostCancel tag p fun t =>
      if t.state ≠ .enrolled then s.refuse .defrostCancel tag .wrongState
      else (((s.removeRequest p).abortRun p .host false 0).1.editTrailer p fun t =>
          { t with deferral := some (s.now + (min 240 minutes.toNat) * 60) }).answer .defrostCancel tag .ok
        (flagField (decide (240 < minutes.toNat)) ++ flagField (s.requestOf p).isSome
          ++ flagField ((s.removeRequest p).abortRun p .host false 0).2
          ++ s.timeField (some (s.now + (min 240 minutes.toNat) * 60))) := withPost_of_val hp
  obtain ⟨aborts, ended⟩ := abortsQuietly_abortRun (s.removeRequest p) p (c := .host) rfl rfl
  rw [ended, removeRequest_run] at taken
  refine ⟨fun vacant => exec_of_refuses ready rfl rfl rfl (taken.trans (withTrailer_of_vacant vacant)),
    fun some no => exec_of_refuses ready rfl rfl rfl (taken.trans ((withTrailer_of_present some).trans (if_pos no))),
    fun enrolled => ?_⟩
  have present : (s.trailer p).state ≠ .vacant := by rw [enrolled]; nofun
  refine ⟨_, exec_of_answers ready rfl rfl rfl (taken.trans ((withTrailer_of_present present).trans
    (if_neg (not_not.mpr enrolled)))), ?_, ?_, fun q hq => ?_, fun q => ?_⟩
  · have removed := removeRequest_changes s p
    have aborted := aborts.changes
    generalize ((s.removeRequest p).abortRun p .host false 0).1 = v at aborted ⊢
    have edited := State.editTrailer_changes v p fun t => { t with deferral := some (s.now + (min 240 minutes.toNat) * 60) }
    generalize v.editTrailer p _ = w at edited ⊢
    rw [edited, aborted, removed]
  · have trailer := aborts.trailer
    have now : (s.removeRequest p).now = s.now := by rw [removeRequest_changes]; rfl
    rw [removeRequest_trailer, removeRequest_run, now] at trailer
    rw [State.trailer_editTrailer_changedTo, trailer]
    refine TrailerRecord.changedTo_changedTo (t := s.trailer p)
      (a := { s.trailer p with run := (s.run p).map (abortedRun s.now .host) })
      (g := fun t => { t with deferral := some (s.now + (min 240 minutes.toNat) * 60) })
      (fun x y e => ?_) fun same => ?_
    · have (z : TrailerRecord) : TrailerRecord.sealed { z with deferral := some (s.now + (min 240 minutes.toNat) * 60) }
          = { z.sealed with deferral := some (s.now + (min 240 minutes.toNat) * 60) } := rfl
      rw [this, this, e]
    · have run : (s.run p).map (abortedRun s.now .host) = s.run p := congrArg TrailerRecord.run same
      rw [run]
      rfl
  · rw [State.trailer_editTrailer_other _ p q _ hq, aborts.others q hq, removeRequest_trailer]
  · have queues : ((s.removeRequest p).abortRun p .host false 0).1.queue q = (s.removeRequest p).queue q := by
      rw [aborts.changes]
      rfl
    rw [State.editTrailer_changes]
    exact queues.trans (law.queue_removeRequest p q)

/-- Settles O25: the flag, the request's removal and the abort as one change of the record. -/
theorem defrostInhibitInhibits : Obligations.DefrostInhibitInhibits := by
  intro tag b on s ready law
  have takes {p : Post} (hp : b.toNat = p.val) : s.ownerTakes (.defrostInhibit tag b on) =
      if 1 < on.toNat then s.refuse .defrostInhibit tag .badArgument
      else s.withTrailer .defrostInhibit tag p fun t =>
        if t.state = .held then s.refuse .defrostInhibit tag .wrongState
        else if on = 0 then (s.editTrailer p fun t => { t with inhibit := false }).answer .defrostInhibit tag .ok
          (flagField false ++ flagField false)
        else (((s.editTrailer p fun t => { t with inhibit := true }).removeRequest p).abortRun p .inhibit false 0).1.answer
          .defrostInhibit tag .ok (flagField true ++ flagField ((s.requestOf p).isSome ||
            (((s.editTrailer p fun t => { t with inhibit := true }).removeRequest p).abortRun p .inhibit false 0).2)) :=
    withPost_of_val hp
  refine ⟨fun bad => exec_of_refuses ready rfl rfl rfl ?_, fun p hp low => ?_⟩
  · by_cases high : 239 < b.toNat
    · exact withPost_of_high high
    · exact (takes (p := ⟨b.toNat, by omega⟩) rfl).trans (if_pos (bad.resolve_left high))
  · have taken := (takes hp).trans (if_neg (not_lt.mpr low))
    refine ⟨fun vacant => exec_of_refuses ready rfl rfl rfl (taken.trans (withTrailer_of_vacant vacant)),
      fun held => exec_of_refuses ready rfl rfl rfl (taken.trans ((withTrailer_of_present (by rw [held]; nofun)).trans
        (if_pos held))),
      fun some not off => ⟨_, exec_of_answers ready rfl rfl rfl (taken.trans ((withTrailer_of_present some).trans
        ((if_neg not).trans (if_pos off)))), State.editTrailer_changes s p _, State.trailer_editTrailer_changedTo s p _,
        fun q hq => State.trailer_editTrailer_other s p q _ hq⟩,
      fun some not isOn => ?_⟩
    have notOff : on ≠ 0 := by rw [isOn]; decide
    have flagged := State.editTrailer_changes s p fun t => { t with inhibit := true }
    have flaggedRun : (s.editTrailer p fun t => { t with inhibit := true }).run p = s.run p :=
      State.field_editTrailer_self s p _ TrailerRecord.run fun _ => rfl
    have flaggedTrailer := State.trailer_editTrailer_changedTo s p fun t => { t with inhibit := true }
    have others (q : Post) (hq : q ≠ p) := State.trailer_editTrailer_other s p q (fun t => { t with inhibit := true }) hq
    have flaggedLaw : (s.editTrailer p fun t => { t with inhibit := true }).GrantLaw :=
      law.of_keeps (keepsGrants_edit s p _ rfl rfl)
    have flaggedQueue (q : Queue) : (s.editTrailer p fun t => { t with inhibit := true }).queue q = s.queue q := by
      rw [flagged]
      rfl
    have flaggedNow : (s.editTrailer p fun t => { t with inhibit := true }).now = s.now := by
      rw [flagged]
      rfl
    generalize s.editTrailer p (fun t => { t with inhibit := true }) = u at *
    obtain ⟨aborts, ended⟩ := abortsQuietly_abortRun (u.removeRequest p) p (c := .inhibit) rfl rfl
    rw [ended, removeRequest_run, flaggedRun] at taken
    have trailer := aborts.trailer
    have now : (u.removeRequest p).now = s.now := by rw [removeRequest_changes]; exact flaggedNow
    rw [removeRequest_trailer, removeRequest_run, flaggedRun, flaggedTrailer, now] at trailer
    refine ⟨_, exec_of_answers ready rfl rfl rfl (taken.trans ((withTrailer_of_present some).trans
      ((if_neg not).trans (if_neg notOff)))), ?_, ?_, fun q hq => ?_, fun q => ?_⟩
    · have removed := removeRequest_changes u p
      have aborted := aborts.changes
      generalize ((u.removeRequest p).abortRun p .inhibit false 0).1 = v at aborted ⊢
      rw [aborted, removed, flagged]
    · rw [trailer]
      refine TrailerRecord.changedTo_changedTo (t := s.trailer p) (a := { s.trailer p with inhibit := true })
        (g := fun t => { t with run := (s.run p).map (abortedRun s.now .inhibit) })
        (fun x y e => ?_) fun same => ?_
      · have (z : TrailerRecord) : TrailerRecord.sealed { z with run := (s.run p).map (abortedRun s.now .inhibit) }
            = { z.sealed with run := (s.run p).map (abortedRun s.now .inhibit) } := rfl
        rw [this, this, e]
      · have run : (s.run p).map (abortedRun s.now .inhibit) = s.run p := congrArg TrailerRecord.run same
        rw [run] at same
        exact same
    · rw [aborts.others q hq, removeRequest_trailer, others q hq]
    · have queues : ((u.removeRequest p).abortRun p .inhibit false 0).1.queue q = (u.removeRequest p).queue q := by
        rw [aborts.changes]
        rfl
      rw [queues, flaggedLaw.queue_removeRequest, flaggedQueue]

end Sys2Proof.Machine


/-! # The run's timers (R96, R97, R104, R106)

The statements O44, O45, O46 and O47. -/

namespace Sys2Proof.Machine

/-- What a run's entry to ENDING leaves outside the trailer's record. -/
structure EndsApart (p : Post) (s u : State) : Prop where
  queues : u.queues = s.queues
  committed : u.committed = s.committed
  directory : u.directory = s.directory
  outside : OutsideSame s u
  noRebuild : NoRebuild s u
  others : OtherPostsSame p s u

theorem endsApart_enterEnding {s : State} {p : Post} {r : RunRecord} (h : s.run p = some r) (o : RunOutcome) (b : Bool)
    (n : Nat) : EndsApart p s (s.enterEnding p o b n) where
  queues := (entersEnding_enterEnding h o b n).queues
  committed := (entersEnding_enterEnding h o b n).committed
  directory := (entersEnding_enterEnding h o b n).directory
  outside := .of_framed fun f => f.enterEnding s p o b n
  noRebuild := .of_framed fun f => f.enterEnding s p o b n
  others := (FindingKit.others p).enterEnding s rfl o b n

theorem laterDeferral_eq (d : Option Time) (t : Time) : laterDeferral d t = some ((d.map fun x => max x t).getD t) := by
  cases d <;> rfl

/-- The deferral of an outcome that defers (R105). -/
theorem EntersEnding.deferral_of_defers {p : Post} {r : RunRecord} {o : RunOutcome} {b : Bool} {n : Nat} {s t : State}
    (h : EntersEnding p r o b n s t) (defers : o.defers = true) :
    (t.trailer p).deferral = some (((s.trailer p).deferral.map fun d => max d (s.now + 600)).getD (s.now + 600)) := by
  rw [h.deferral, if_pos defers, laterDeferral_eq]
  rfl

theorem running_of_phase {s : State} (h : s.phase = .running) : s.running = true := decide_eq_true h

/-- An event that changes nothing. -/
theorem exec_of_effect {i : Instr} {s u : State} (h : s.effect i = u) : exec i s = .next u.pumpTx := by
  rw [exec_eq_effect, h]

/-! ## The start timer (R96) -/

theorem startTimerRuns_iff (r : RunRecord) :
    r.startTimerRuns = true ↔ r.state = .commanded ∨ ∃ t cs, r.state = .suspended t .commanded cs := by
  unfold RunRecord.startTimerRuns
  cases r.state with
  | commanded => simp
  | heating t => simp
  | suspended t prior cs => cases prior <;> simp
  | ending t o e => simp

/-- Settles O44: the timer's condition, and entry to ENDING as START-FAILED. -/
theorem startTimerFailsTheRun : Obligations.StartTimerFailsTheRun := by
  refine fun p s => ⟨fun r phase hr counts due => ?_, fun still => exec_of_effect ?_⟩
  · have ends := entersEnding_enterEnding hr .startFailed false 0
    have apart := endsApart_enterEnding hr .startFailed false 0
    obtain ⟨l, run⟩ := ends.run
    have fires : s.startTimer p = s.enterEnding p .startFailed false 0 := by
      unfold State.startTimer
      rw [hr]
      exact if_pos ⟨running_of_phase phase, (startTimerRuns_iff r).mpr counts, due⟩
    have notHeating : r.heatingAt s.now = r.heatingTime := by
      unfold RunRecord.heatingAt
      obtain h | ⟨t, cs, h⟩ := counts <;> rw [h]
    exact ⟨_, _, exec_of_effect fires, run, rfl, rfl, rfl, rfl, rfl, notHeating, rfl, ends.deferral_of_defers rfl,
      ends.stands (running_of_phase phase) _ _ rfl, ends.f, apart.queues, apart.committed, apart.directory, apart.outside,
      apart.noRebuild, apart.others⟩
  · change s.startTimer p = s
    unfold State.startTimer
    obtain none | ⟨r, hr, no⟩ := still
    · rw [none]
    · rw [hr]
      refine if_neg fun ⟨_, counts, due⟩ => ?_
      rw [startTimerRuns_iff] at counts
      obtain early | ⟨t, h⟩ | ⟨t, cs, h⟩ | ⟨t, o, e, h⟩ := no
      · exact absurd due (not_le.mpr early)
      all_goals
        rw [h] at counts
        simp at counts

/-! ## The maximum duration (R97) -/

theorem heatingAt_of_heating {r : RunRecord} {start : Time} (h : r.state = .heating start) (now : Time) :
    r.heatingAt now = r.heatingTime + (now - start).toNat := by
  unfold RunRecord.heatingAt
  rw [h]
  rfl

/-- Settles O45: the timer's condition, and entry to ENDING as TIMED-OUT, which produces no finding. -/
theorem maxDurationTimesTheRunOut : Obligations.MaxDurationTimesTheRunOut := by
  refine fun p s => ⟨fun r start phase hr heating due => ?_, fun still => exec_of_effect ?_⟩
  · have fires : s.durationTimer p = s.editTrailer p fun t => t.entering r s.now .timedOut false 0 := by
      rw [← enterEnding_quiet hr 0 rfl]
      unfold State.durationTimer
      rw [hr]
      refine if_pos ⟨running_of_phase phase, ?_, ?_⟩
      · unfold RunRecord.isHeating
        rw [heating]
      · rw [heatingAt_of_heating heating]
        exact due
    have suspended : r.suspendedAt s.now = r.suspendedTime := by
      unfold RunRecord.suspendedAt
      rw [heating]
    refine ⟨_, exec_of_effect fires, State.editTrailer_changes s p _, ?_,
      fun q hq => State.trailer_editTrailer_other s p q _ hq⟩
    have changes : ((s.trailer p).entering r s.now .timedOut false 0).sealed ≠ (s.trailer p).sealed := by
      intro same
      have run : some (r.enter s.now .timedOut false 0) = s.run p := congrArg TrailerRecord.run same
      rw [hr, Option.some.injEq] at run
      have state : (r.enter s.now .timedOut false 0).state = .heating start := by rw [run, heating]
      cases state
    rw [State.trailer_editTrailer_changedTo, TrailerRecord.changedTo, if_neg changes]
    unfold TrailerRecord.entering RunRecord.enter RunRecord.closed
    rw [heatingAt_of_heating heating, suspended]
    rfl
  · change s.durationTimer p = s
    unfold State.durationTimer
    obtain none | ⟨r, hr, no⟩ := still
    · rw [none]
    · rw [hr]
      refine if_neg fun ⟨_, heating, due⟩ => ?_
      obtain no | ⟨t, h, early⟩ := no
      · unfold RunRecord.isHeating at heating
        split at heating
        · rename_i start h
          exact no start h
        all_goals cases heating
      · rw [heatingAt_of_heating h] at due
        exact absurd due (not_le.mpr early)

/-! ## The suspension limits (R104) -/

/-- The cause in force longest stands among the causes, and none precedes it. -/
theorem longestCause_spec {cs : List CauseEntry} (h : cs ≠ []) : ∃ c, longestCause cs = some c ∧ c ∈ cs ∧
    ∀ x ∈ cs, c.joined < x.joined ∨ (c.joined = x.joined ∧ c.cause.code ≤ x.cause.code) := by
  induction cs with
  | nil => exact absurd rfl h
  | cons e rest ih =>
    unfold longestCause
    by_cases none : rest = []
    · subst none
      refine ⟨e, rfl, List.mem_singleton_self e, fun x hx => ?_⟩
      rw [List.mem_singleton.mp hx]
      exact .inr ⟨rfl, le_rfl⟩
    · obtain ⟨c, found, mem, least⟩ := ih none
      rw [found]
      dsimp only
      split
      · rename_i first
        refine ⟨e, rfl, List.mem_cons_self, List.forall_mem_cons.mpr ⟨.inr ⟨rfl, le_rfl⟩, fun x hx => ?_⟩⟩
        have later := least x hx
        unfold Time at *
        omega
      · rename_i notFirst
        refine ⟨c, rfl, List.mem_cons_of_mem _ mem, List.forall_mem_cons.mpr ⟨?_, least⟩⟩
        unfold Time at *
        omega

theorem suspendedAt_of_suspended {r : RunRecord} {start : Time} {prior : PriorState} {cs : List CauseEntry}
    (h : r.state = .suspended start prior cs) (now : Time) :
    r.suspendedAt now = r.suspendedTime + (now - start).toNat := by
  unfold RunRecord.suspendedAt
  rw [h]
  rfl

theorem suspensionSpent_of_suspended {r : RunRecord} {start : Time} {prior : PriorState} {cs : List CauseEntry}
    (h : r.state = .suspended start prior cs) (now : Time) : r.suspensionSpent now = true ↔
      r.limits.suspendLimit ≤ (now - start).toNat ∨
        2 * r.limits.suspendLimit ≤ r.suspendedTime + (now - start).toNat := by
  unfold RunRecord.suspensionSpent
  rw [h, suspendedAt_of_suspended h]
  dsimp only
  rw [Bool.or_eq_true, decide_eq_true_eq, decide_eq_true_eq]
  rfl

theorem aborted_finding (c : SuspCause) : ∃ d, (RunOutcome.aborted c.abort).finding false = some (.defrostAborted, d) := by
  cases c <;> exact ⟨_, rfl⟩

theorem aborted_defers (c : SuspCause) : (RunOutcome.aborted c.abort).defers = true := by cases c <;> rfl

/-- Settles O46: the limits' condition, the cause in force longest, and entry to ENDING as ABORTED. -/
theorem suspensionLimitAbortsTheRun : Obligations.SuspensionLimitAbortsTheRun := by
  refine fun p s => ⟨fun r start prior cs phase hr suspended some spent => ?_, fun still => exec_of_effect ?_⟩
  · obtain ⟨c, longest, mem, least⟩ := longestCause_spec some
    have ends := entersEnding_enterEnding hr (.aborted c.cause.abort) false c.push
    have apart := endsApart_enterEnding hr (.aborted c.cause.abort) false c.push
    obtain ⟨l, run⟩ := ends.run
    obtain ⟨d, finding⟩ := aborted_finding c.cause
    have fires : s.suspensionTimer p = s.enterEnding p (.aborted c.cause.abort) false c.push := by
      have causes : r.causes = cs := by
        unfold RunRecord.causes
        rw [suspended]
      unfold State.suspensionTimer
      rw [hr]
      refine (if_pos ⟨running_of_phase phase, (suspensionSpent_of_suspended suspended s.now).mpr spent⟩).trans ?_
      unfold State.abortSuspension
      rw [causes, longest]
    have notHeating : r.heatingAt s.now = r.heatingTime := by
      unfold RunRecord.heatingAt
      rw [suspended]
    exact ⟨_, _, c, exec_of_effect fires, mem, least, run, rfl, rfl, suspendedAt_of_suspended suspended s.now, notHeating, rfl,
      rfl, rfl, ends.deferral_of_defers (aborted_defers _), ends.stands (running_of_phase phase) _ _ finding, ends.f,
      apart.queues, apart.committed, apart.directory, apart.outside, apart.noRebuild, apart.others⟩
  · change s.suspensionTimer p = s
    unfold State.suspensionTimer
    obtain none | ⟨r, hr, no⟩ := still
    · rw [none]
    · rw [hr]
      refine if_neg fun ⟨_, spent⟩ => ?_
      obtain no | ⟨t, o, cs, h, early, less⟩ := no
      · unfold RunRecord.suspensionSpent at spent
        split at spent
        · rename_i t o cs h
          exact no t o cs h
        all_goals cases spent
      · rw [suspensionSpent_of_suspended h] at spent
        omega

/-! ## The stuck timer (R106, R109) -/

/-- A run that is ENDING takes no cause. -/
theorem join_of_ending {r : RunRecord} (h : r.isEnding = true) (now : Time) (c : SuspCause) (n : Nat) :
    r.join now c n = r := by
  unfold RunRecord.isEnding RunRecord.outcome at h
  unfold RunRecord.join
  split at h <;> simp_all

/-- The state a raised class leaves before its action is applied: its frame pushed, the class active (R150). -/
def State.pushed (s : State) (p : Post) (c : FindingClass) (d k : Nat) : State :=
  (s.pushFrame p c d k).editTrailer p fun t => t.raising c d s.nextPush

theorem raiseFinding_eq (apply : State → Post → Action → Nat → State) (s : State) (p : Post) (c : FindingClass)
    (d k : Nat) : s.raiseFinding apply p c d k =
      (apply (s.pushed p c d k) p (s.tableEntry c).action s.nextPush).item p
        (.findingRaised c (s.tableEntry c).severity d s.nextPush k) := rfl

theorem pushed_run (s : State) (p : Post) (c : FindingClass) (d k : Nat) (q : Post) :
    (s.pushed p c d k).run q = s.run q :=
  State.field_editTrailer (s.pushFrame p c d k) p _ TrailerRecord.run (fun _ => rfl) rfl q

theorem pushed_stands {s : State} {p : Post} {c : FindingClass} (free : (s.trailer p).stands c = false) (d k : Nat)
    (x : FindingClass) : ((s.pushed p c d k).trailer p).stands x = ((s.trailer p).stands x || decide (x = c)) :=
  (State.stands_editTrailer (s.pushFrame p c d k) p _ x).trans (TrailerRecord.stands_raising free x)

section
variable {s : State} {p : Post} {r : RunRecord} (hr : s.run p = some r) (ending : r.isEnding = true)
include hr ending

/-- An action that comes into force leaves a run that is ENDING (R107). -/
theorem run_applyAction_of_ending (a : Action) (k : Nat) : (s.applyAction p a k).run p = some r := by
  have active : (s.activate p a k).run p = some r := by
    unfold State.run
    rw [State.activate_trailer]
    exact hr
  unfold State.applyAction
  split
  · exact hr
  · dsimp only
    split
    · exact active
    · exact active
    · unfold State.inhibitDefrost State.abortRun
      have removed : ((s.activate p .inhibitDefrost k).removeRequest p).run p = some r := by
        rw [removeRequest_run]
        exact active
      rw [removed]
      dsimp only
      rw [if_pos ending]
      exact removed
    · unfold State.causeJoins
      rw [active]
      dsimp only
      rw [join_of_ending ending]
      exact State.run_putRun_self _ p _

theorem run_produce_of_ending (c : FindingClass) (d k : Nat) : (s.produce p c d k).run p = some r := by
  have edited (u : State) (hu : u.run p = some r) (f : TrailerRecord → TrailerRecord) (hf : ∀ t, (f t).run = t.run) :
      (u.editTrailer p f).run p = some r :=
    (State.field_editTrailer_self u p f TrailerRecord.run fun _ => rfl).trans ((hf _).trans hu)
  unfold State.produce State.produceWith
  split
  · exact hr
  · split
    · rw [raiseFinding_eq, State.item_run]
      exact run_applyAction_of_ending ((pushed_run s p c d k p).trans hr) ending _ _
    · unfold State.noteFinding
      rw [State.item_run]
      exact edited s hr _ fun _ => rfl

end

/-- Nothing that applying an action does takes a class from a set. -/
def KeepsStanding (p : Post) (s t : State) : Prop := ∀ c, (s.trailer p).stands c = true → (t.trailer p).stands c = true

theorem keepsStanding_edit (s : State) (p : Post) (f : TrailerRecord → TrailerRecord)
    (hf : ∀ t c, (f t).stands c = t.stands c) : KeepsStanding p s (s.editTrailer p f) := fun c hc => by
  rw [State.stands_editTrailer, hf]
  exact hc

theorem keepsStanding_causeJoins (s : State) (p : Post) (c : SuspCause) (k : Nat) :
    KeepsStanding p s (s.causeJoins p c k) := by
  unfold State.causeJoins
  split
  · exact fun _ => id
  · exact keepsStanding_edit s p _ fun _ _ => rfl

theorem keepsStanding_applyAction (s : State) (p : Post) (a : Action) (k : Nat) :
    KeepsStanding p s (s.applyAction p a k) := by
  have active (c : FindingClass) (h : (s.trailer p).stands c = true) :
      ((s.activate p a k).trailer p).stands c = true := by
    rw [State.activate_trailer]
    exact h
  unfold State.applyAction
  split
  · exact fun _ => id
  · dsimp only
    split
    · exact active
    · exact active
    · intro c h
      have removed : (((s.activate p .inhibitDefrost k).removeRequest p).trailer p).stands c = true := by
        rw [removeRequest_trailer]
        exact active c h
      unfold State.inhibitDefrost State.abortRun
      split
      · exact removed
      · rename_i r hr
        split
        · exact removed
        · exact (entersEnding_enterEnding hr _ _ _).mono c removed
    · exact fun c h => keepsStanding_causeJoins _ p .cut k c (active c h)

/-- A class produced while the module runs stands, with those that stood. -/
theorem stands_produce (s : State) (p : Post) (c : FindingClass) (d k : Nat) :
    KeepsStanding p s (s.produce p c d k) ∧ (s.running = true → ((s.produce p c d k).trailer p).stands c = true) := by
  unfold State.produce
  cases running : s.running with
  | false =>
    rw [produceWith_of_drops _ _ _ (.inl running)]
    exact ⟨fun _ => id, nofun⟩
  | true =>
    cases free : (s.trailer p).stands c with
    | true =>
      rw [produceWith_of_drops _ _ _ (.inr free)]
      exact ⟨fun _ => id, fun _ => free⟩
    | false =>
      by_cases mask : (s.trailer p).mask.getLsbD c.num = true ∨ c = .custodyBreak
      · rw [produceWith_of_raises _ _ _ running free mask]
        have raised (x : FindingClass) (hx : ((s.trailer p).stands x || decide (x = c)) = true) :
            ((s.raiseFinding State.applyAction p c d k).trailer p).stands x = true := by
          rw [raiseFinding_eq, State.item_trailer]
          have joined : ((s.pushed p c d k).trailer p).stands x = true := (pushed_stands free d k x).trans hx
          generalize s.pushed p c d k = u at joined ⊢
          exact keepsStanding_applyAction u p _ _ x joined
        exact ⟨fun x hx => raised x (by rw [hx]; rfl), fun _ => raised c (by simp)⟩
      · obtain ⟨clear, hc⟩ := not_or.mp mask
        rw [produceWith_of_notes _ _ _ running free (Bool.eq_false_iff.mpr clear) hc]
        have noted (x : FindingClass) (hx : ((s.trailer p).stands x || decide (x = c)) = true) :
            ((s.noteFinding p c d).trailer p).stands x = true := by
          rw [noteFinding_trailer, State.stands_editTrailer, TrailerRecord.stands_noting free]
          exact hx
        exact ⟨fun x hx => noted x (by rw [hx]; rfl), fun _ => noted c (by simp)⟩

/-- A walk leaves the record of a trailer with no request. -/
theorem trailer_walk_of_unfiled {s : State} {p : Post} (h : s.Unfiled p) (q : Queue) :
    (s.walk q).trailer p = s.trailer p := by
  cases running : s.running with
  | false => rw [State.walk_of_not_running running]
  | true =>
    rw [State.walk_of_running running]
    have grants (l : List Request) (hl : ∀ r ∈ l, p ≠ r.post) (u : State) :
        (u.forEach l fun s' r => s'.grant q r).trailer p = u.trailer p := by
      induction l generalizing u with
      | nil => rfl
      | cons r l ih =>
        refine (ih (fun x hx => hl x (List.mem_cons_of_mem _ hx)) _).trans ?_
        exact (grant_creates u q r).others p (hl r List.mem_cons_self)
    exact grants _ (fun r hr => (h q r ((s.walked_divides q).granted.subset hr)).symm) _

/-- The record of an ended run with no request: the outcome's effect, and no run (R109). -/
theorem field_endRun {s : State} {p : Post} {r : RunRecord} (hr : s.run p = some r) (unfiled : s.Unfiled p)
    (o : RunOutcome) (b : Bool) {α : Type} (π : TrailerRecord → α) (hπ : ∀ t, π t.sealed = π t) :
    π ((s.endRun p o b).trailer p) = π { (s.trailer p).settleRun o r.f0 s.now with run := none } := by
  have rel := releaseRun_releases s p r o b
  have still : (s.releaseRun p r o b).Unfiled p := fun q x hx => unfiled q x (rel.queue q ▸ hx)
  rw [State.endRun_of_run hr, trailer_walk_of_unfiled still]
  unfold State.releaseRun
  dsimp only
  refine (State.field_editTrailer_self _ p _ π hπ).trans ?_
  rw [State.item_trailer]
  have settled : ((s.editTrailer p fun t => t.settleRun o r.f0 s.now).trailer p).sealed
      = ((s.trailer p).settleRun o r.f0 s.now).sealed := State.sealed_editTrailer_self s p _
  have norun (t : TrailerRecord) : π { t with run := none } = π { t.sealed with run := none } := by
    rw [← hπ, ← hπ { t.sealed with run := none }]
    rfl
  rw [norun, norun ((s.trailer p).settleRun o r.f0 s.now), ← settled]
  rfl

theorem endRun_directory (s : State) (p : Post) (o : RunOutcome) (b : Bool) :
    (s.endRun p o b).directory = s.directory :=
  have same : SameIdentity s (s.endRun p o b) := Kit.identity.endRun s p o b trivial
  same.directory

/-- Settles O47: the finding leaves the ENDING run, and the run's end settles the record. -/
theorem stuckTimerEndsTheRun : Obligations.StuckTimerEndsTheRun := by
  refine fun p s => ⟨fun r start o evaluated phase hr ending due unfiled => ?_, fun still => exec_of_effect ?_⟩
  · have isEnding : r.isEnding = true := by
      unfold RunRecord.isEnding RunRecord.outcome
      rw [ending]
      rfl
    have fires : s.stuckTimer p
        = (s.produce p .unitStuckDefrost (if evaluated then 1 else 2) (r.link.getD 0)).endRun p o true := by
      unfold State.stuckTimer
      rw [hr]
      dsimp only
      rw [ending]
      exact if_pos ⟨running_of_phase phase, due⟩
    have run := run_produce_of_ending hr isEnding .unitStuckDefrost (if evaluated then 1 else 2) (r.link.getD 0)
    have stands := (stands_produce s p .unitStuckDefrost (if evaluated then 1 else 2) (r.link.getD 0)).2
      (running_of_phase phase)
    have keeps := keepsGrants_produce s p .unitStuckDefrost (if evaluated then 1 else 2) (r.link.getD 0)
    have bulk := FindingKit.bulk.produce s (p := p) trivial .unitStuckDefrost (if evaluated then 1 else 2) (r.link.getD 0) p
    have framed (f : Framed) : f.rel ((s.produce p .unitStuckDefrost (if evaluated then 1 else 2) (r.link.getD 0)).endRun p o
        true) s := (f.endRun _ p o true).trans (f.produce s p _ _ _)
    have now : (s.produce p .unitStuckDefrost (if evaluated then 1 else 2) (r.link.getD 0)).now = s.now :=
      State.of_framed (fun f => f.produce s p _ _ _) State.now fun _ => rfl
    have directory := (identity_produce s p .unitStuckDefrost (if evaluated then 1 else 2) (r.link.getD 0)).directory
    generalize s.produce p .unitStuckDefrost (if evaluated then 1 else 2) (r.link.getD 0) = u at *
    have free : u.Unfiled p := State.Unfiled.shrinks unfiled keeps.shrinks
    have field {α : Type} (π : TrailerRecord → α) (hπ : ∀ t, π t.sealed = π t) := field_endRun run free o true π hπ
    have same {α : Type} (π : TrailerRecord → α) (hπ : ∀ t, π t.bulk = π t) : π (u.trailer p) = π (s.trailer p) := by
      rw [← hπ, bulk.bulk, hπ]
    refine ⟨_, exec_of_effect fires, field TrailerRecord.run fun _ => rfl, ?_, ?_, ?_, ?_, ?_, ?_,
      .of_framed fun f => framed f.toFramed, .of_framed framed⟩
    · rw [field (fun t => t.stands .unitStuckDefrost) fun _ => rfl, ← stands]
      cases o <;> rfl
    · rw [field TrailerRecord.f fun _ => rfl]
      cases o <;> rfl
    · rw [field TrailerRecord.r fun _ => rfl, ← same TrailerRecord.r fun _ => rfl]
      cases o <;> rfl
    · rw [field TrailerRecord.lastDefrostEnd fun _ => rfl, ← same TrailerRecord.lastDefrostEnd fun _ => rfl, ← now]
      cases o <;> rfl
    · rw [field TrailerRecord.state fun _ => rfl, ← same TrailerRecord.state fun _ => rfl]
      cases o <;> rfl
    · rw [endRun_directory, directory]
  · change s.stuckTimer p = s
    unfold State.stuckTimer
    obtain none | ⟨r, hr, no⟩ := still
    · rw [none]
    · rw [hr]
      dsimp only
      split
      · rename_i t o e h
        refine if_neg fun ⟨_, due⟩ => ?_
        obtain no | ⟨t', o', e', h', early⟩ := no
        · exact no t o e h
        · rw [h] at h'
          cases h'
          exact absurd due (not_le.mpr early)
      all_goals rfl

end Sys2Proof.Machine


/-! # A finding dropped, noted or raised (R147, R149, R150, R157, R158)

The statement O60. -/

namespace Sys2Proof.Machine

/-! ## The exception stack after a push (R157, R158) -/

theorem getLast_markBottom (l : List ExceptionFrame) (h : l ≠ []) :
    ∃ f, (markBottom l).getLast? = some f ∧ f.truncated = true := by
  induction l with
  | nil => exact absurd rfl h
  | cons a rest ih =>
    cases rest with
    | nil => exact ⟨_, rfl, rfl⟩
    | cons b rest =>
      obtain ⟨f, last, truncated⟩ := ih (by simp)
      refine ⟨f, ?_, truncated⟩
      rw [markBottom, List.getLast?_cons, last]
      rfl

theorem mem_markBottom_head (f g : ExceptionFrame) (l : List ExceptionFrame) : f ∈ markBottom (f :: g :: l) := by
  rw [markBottom]
  exact List.mem_cons_self

/-- A push leaves its own frame on top of the stack, unmarked. -/
theorem head_pushOnto (l : List ExceptionFrame) (f : ExceptionFrame) : ∃ rest, pushOnto l f = f :: rest := by
  unfold pushOnto
  split
  · exact ⟨l, rfl⟩
  · rename_i full
    match l, full with
    | [], full => exact absurd (by decide) full
    | g :: rest, _ => exact ⟨_, rfl⟩

/-- The frame on top stays through one push more. -/
theorem head_mem_pushOnto (f g : ExceptionFrame) (rest : List ExceptionFrame) : f ∈ pushOnto (f :: rest) g := by
  unfold pushOnto
  split
  · exact List.mem_cons_of_mem _ List.mem_cons_self
  · rename_i full
    match rest, full with
    | [], full => exact absurd (Nat.succ_lt_succ (Nat.succ_pos _)) full
    | x :: rest, _ => exact List.mem_cons_of_mem _ (mem_markBottom_head f x _)

/-- A push on a full stack leaves it full, with its bottom frame marked (R158). -/
theorem pushOnto_of_full {l : List ExceptionFrame} (full : l.length = 8) (f : ExceptionFrame) :
    (pushOnto l f).length = 8 ∧ ∃ x, (pushOnto l f).getLast? = some x ∧ x.truncated = true := by
  unfold pushOnto
  have frames : Config.stackFrames = 8 := rfl
  rw [if_neg (by omega)]
  refine ⟨?_, getLast_markBottom _ (by simp)⟩
  rw [length_markBottom, List.length_cons, List.length_take]
  omega

/-! ## What follows a raised class -/

/-- Standing active classes and actions in force that an operation leaves. -/
structure Grows (p : Post) (s t : State) : Prop where
  active : ∀ c a, (s.trailer p).activeOf c = some a → (t.trailer p).activeOf c = some a
  inForce : ∀ a, ((s.inForce p).of a).isSome → ((t.inForce p).of a).isSome

theorem Grows.refl (p : Post) (s : State) : Grows p s s := ⟨fun _ _ => id, fun _ => id⟩

theorem Grows.trans {p : Post} {s t u : State} (h : Grows p s t) (k : Grows p t u) : Grows p s u :=
  ⟨fun c a x => k.active c a (h.active c a x), fun a x => k.inForce a (h.inForce a x)⟩

theorem Grows.of_same {p : Post} {s t : State} (hr : t.records = s.records) (ha : t.actions = s.actions) :
    Grows p s t where
  active c a x := by
    unfold State.trailer at *
    rw [hr]
    exact x
  inForce a x := by
    unfold State.inForce at *
    rw [ha]
    exact x

section
variable (s : State) (p : Post)

theorem grows_edit (f : TrailerRecord → TrailerRecord)
    (hf : ∀ c a, (s.trailer p).activeOf c = some a → (f (s.trailer p)).activeOf c = some a) :
    Grows p s (s.editTrailer p f) where
  active c a x := (State.field_editTrailer_self s p f (fun t => t.activeOf c) fun _ => rfl).trans (hf c a x)
  inForce a x := by
    rw [State.editTrailer_changes]
    exact x

theorem grows_putRun (r : Option RunRecord) : Grows p s (s.putRun p r) := grows_edit s p _ fun _ _ => id

theorem grows_item (b : ItemBody) : Grows p s (s.item p b) := .of_same (s.item_records p b) (s.item_actions p b)

theorem grows_removeRequest : Grows p s (s.removeRequest p) := by
  rw [removeRequest_changes]
  exact .of_same rfl rfl

theorem inForce_lightBeacon : (s.lightBeacon p).inForce p = s.inForce p := by
  unfold State.lightBeacon
  split <;> rfl

/-- Applying an action puts it in force. -/
theorem inForce_activate (a : Action) (k : Nat) :
    (s.activate p a k).inForce p
      = if a = .none ∨ s.actionInForce p a then s.inForce p else (s.inForce p).put a (some k) := by
  unfold State.activate
  split
  · rfl
  · dsimp only
    split
    · rw [inForce_lightBeacon, State.inForce_putInForce_self]
    · rw [State.inForce_putInForce_self]

theorem ActionsInForce.of_put_some (x : ActionsInForce) {a : Action} (some : a ≠ .none) (k : Nat) (b : Action) :
    (x.put a (Option.some k)).of b = if b = a then Option.some k else x.of b := by
  cases a <;> cases b <;> simp_all [ActionsInForce.put, ActionsInForce.of]

theorem grows_activate (a : Action) (k : Nat) : Grows p s (s.activate p a k) where
  active c x h := by
    rw [State.activate_trailer]
    exact h
  inForce b h := by
    rw [inForce_activate]
    split
    · exact h
    · rename_i fresh
      rw [ActionsInForce.of_put_some _ (not_or.mp fresh).1]
      split
      · rfl
      · exact h

theorem of_activate {a : Action} (some : a ≠ .none) (k : Nat) : (((s.activate p a k).inForce p).of a).isSome := by
  rw [inForce_activate]
  split
  · rename_i no
    obtain no | inForce := no
    · exact absurd no some
    · exact inForce
  · rw [ActionsInForce.of_put_some _ some, if_pos rfl]
    rfl

theorem grows_raising {c : FindingClass} (free : (s.trailer p).stands c = false) (d n : Nat) :
    Grows p s (s.editTrailer p fun t => t.raising c d n) := by
  refine grows_edit s p _ fun k a h => ?_
  have other : k ≠ c := by
    rintro rfl
    rw [(TrailerRecord.not_stands_iff.mp free).1] at h
    cases h
  rw [TrailerRecord.activeOf_raising_other other]
  exact h

end

/-! ## An abort by the INHIBIT-DEFROST action (R107, R110) -/

theorem pushed_gather (s : State) (p : Post) (c : FindingClass) (d k : Nat) :
    (s.pushed p c d k).gather = s.gather := State.gather_editTrailer (s.pushFrame p c d k) p _

theorem activate_gather (s : State) (p : Post) (a : Action) (k : Nat) : (s.activate p a k).gather = s.gather := by
  rw [State.activate_changes]
  rfl

/-- A state with everything cleared but the exception stack. -/
def State.frames (s : State) : State := { State.reset with stack := s.stack, nextPush := s.nextPush }

theorem frames_editTrailer (s : State) (p : Post) (f : TrailerRecord → TrailerRecord) :
    (s.editTrailer p f).frames = s.frames := by
  rw [State.editTrailer_changes]
  rfl

theorem frames_item (s : State) (p : Post) (b : ItemBody) : (s.item p b).frames = s.frames := by
  rw [State.item_changes]
  rfl

theorem frames_activate (s : State) (p : Post) (a : Action) (k : Nat) : (s.activate p a k).frames = s.frames := by
  rw [State.activate_changes]
  rfl

theorem stack_of_frames {s t : State} (h : t.frames = s.frames) : t.stack = s.stack ∧ t.nextPush = s.nextPush := by
  have e : t.frames.stack = s.frames.stack ∧ t.frames.nextPush = s.frames.nextPush := by rw [h]; exact ⟨rfl, rfl⟩
  exact e

/-- What the abort of a run by the action leaves: `g` has its items, `f` its frames, and `link` is the run's link. -/
structure EndsByAction (p : Post) (n link : Nat) (g f s t : State) : Prop where
  grows : Grows p s t
  gather : t.gather = g.gather
  frames : t.frames = f.frames
  run : 0 < n → ∃ y, t.run p = some y ∧ y.state = .ending s.now (.aborted .inhibit) false ∧ y.byAction = true ∧
    y.link = some link

section
variable {s : State} {p : Post} {r : RunRecord}

theorem endsByAction_edit (r : RunRecord) (n : Nat) : EndsByAction p n n s s s
    (s.editTrailer p fun t => t.entering r s.now (.aborted .inhibit) true n) where
  grows := grows_edit s p _ fun _ _ => id
  gather := State.gather_editTrailer s p _
  frames := frames_editTrailer s p _
  run positive := ⟨_, State.field_editTrailer_self s p _ TrailerRecord.run fun _ => rfl, rfl, rfl,
    if_neg (Nat.ne_of_gt positive)⟩

/-- What a run's entry to ENDING leaves of what a finding reads. -/
theorem enteredAs (s : State) (p : Post) (r : RunRecord) (n : Nat) :
    (s.editTrailer p fun t => t.entering r s.now (.aborted .inhibit) true n).running = s.running ∧
    ((s.editTrailer p fun t => t.entering r s.now (.aborted .inhibit) true n).trailer p).stands .defrostAborted
      = (s.trailer p).stands .defrostAborted ∧
    ((s.editTrailer p fun t => t.entering r s.now (.aborted .inhibit) true n).trailer p).mask = (s.trailer p).mask ∧
    (s.editTrailer p fun t => t.entering r s.now (.aborted .inhibit) true n).tableEntry .defrostAborted
      = s.tableEntry .defrostAborted := by
  refine ⟨?_, State.stands_editTrailer s p _ .defrostAborted,
    State.field_editTrailer_self s p _ TrailerRecord.mask fun _ => rfl, ?_⟩ <;>
  · rw [State.editTrailer_changes]
    rfl

theorem relink_of_run (h : s.run p = some r) (k : Nat) :
    s.relink p (some k) = s.putRun p (some { r with link := some k }) := by
  unfold State.relink
  rw [h]

/-- What raising a finding of an ENDING run does. -/
theorem raisesEnding (s : State) (p : Post) (c : FindingClass) (d k : Nat) (free : (s.trailer p).stands c = false) :
    Grows p s (s.raiseFinding State.activate p c d k) ∧
    (s.raiseFinding State.activate p c d k).gather
      = (s.item p (.findingRaised c (s.tableEntry c).severity d s.nextPush k)).gather ∧
    (s.raiseFinding State.activate p c d k).frames = (s.pushFrame p c d k).frames ∧
    (s.raiseFinding State.activate p c d k).run p = s.run p := by
  rw [raiseFinding_eq]
  have base : Grows p s (s.pushFrame p c d k) := .of_same rfl rfl
  have grows : Grows p s (s.pushed p c d k) := base.trans (grows_raising (s.pushFrame p c d k) p free d s.nextPush)
  have gather := pushed_gather s p c d k
  have frames : (s.pushed p c d k).frames = (s.pushFrame p c d k).frames := frames_editTrailer _ p _
  have run := pushed_run s p c d k p
  generalize s.pushed p c d k = u at *
  refine ⟨(grows.trans (grows_activate u p _ _)).trans (grows_item _ p _), ?_, ?_, ?_⟩
  · exact State.gather_item_of ((activate_gather u p _ _).trans gather) p _
  · exact (frames_item _ p _).trans ((frames_activate u p _ _).trans frames)
  · rw [State.item_run, ← run]
    unfold State.run
    rw [State.activate_trailer]

variable (hr : s.run p = some r)
include hr

/-- The abort whose DEFROST-ABORTED is dropped: only the run changes. -/
theorem endsByAction_of_drops (n : Nat) (drops : s.running = false ∨ (s.trailer p).stands .defrostAborted = true) :
    EndsByAction p n n s s s (s.enterEnding p (.aborted .inhibit) true n) := by
  rw [enterEnding_of_run hr]
  have entered := endsByAction_edit (s := s) (p := p) r n
  obtain ⟨running, stands, -, -⟩ := enteredAs s p r n
  generalize (s.editTrailer p fun t => t.entering r s.now (.aborted .inhibit) true n) = u at *
  dsimp only [RunOutcome.finding]
  rw [if_pos rfl]
  dsimp only
  unfold State.produceEnding
  rw [produceWith_of_drops _ _ _ (by rw [running, stands]; exact drops)]
  exact entered

/-- The abort whose DEFROST-ABORTED is noted: one item more. -/
theorem endsByAction_of_notes (n : Nat) (running : s.running = true) (free : (s.trailer p).stands .defrostAborted = false)
    (mask : (s.trailer p).mask.getLsbD FindingClass.defrostAborted.num = false) :
    EndsByAction p n n (s.item p (.findingNoted .defrostAborted (s.tableEntry .defrostAborted).severity 5 0)) s s
      (s.enterEnding p (.aborted .inhibit) true n) := by
  rw [enterEnding_of_run hr]
  obtain ⟨grows, gather, frames, run⟩ := endsByAction_edit (s := s) (p := p) r n
  have entered := enteredAs s p r n
  generalize (s.editTrailer p fun t => t.entering r s.now (.aborted .inhibit) true n) = u at *
  obtain ⟨running', stands, mask', table⟩ := entered
  dsimp only [RunOutcome.finding]
  rw [if_pos rfl]
  dsimp only
  unfold State.produceEnding
  rw [produceWith_of_notes _ _ _ (running'.trans running) (stands.trans free) (mask'.symm ▸ mask) nofun, ← table]
  have noted : Grows p u (u.noteFinding p .defrostAborted 5) :=
    (grows_edit u p (fun t => t.noting .defrostAborted 5) fun _ _ => id).trans (grows_item _ p _)
  refine ⟨grows.trans noted, ?_, ?_, fun positive => ?_⟩
  · exact State.gather_item_of ((State.gather_editTrailer u p _).trans gather) p _
  · exact (frames_item _ p _).trans ((frames_editTrailer u p _).trans frames)
  · obtain ⟨y, found, fields⟩ := run positive
    refine ⟨y, ?_, fields⟩
    rw [← found]
    exact (State.item_run _ p p _).trans (State.field_editTrailer_self u p _ TrailerRecord.run fun _ => rfl)

/-- The abort whose DEFROST-ABORTED is raised: one frame and one item more, and the link its push number. -/
theorem endsByAction_of_raises {n m : Nat} (link : (r.enter s.now (.aborted .inhibit) true n).link.getD 0 = m) (running : s.running = true)
    (free : (s.trailer p).stands .defrostAborted = false)
    (mask : (s.trailer p).mask.getLsbD FindingClass.defrostAborted.num = true) :
    EndsByAction p n s.nextPush
      (s.item p (.findingRaised .defrostAborted (s.tableEntry .defrostAborted).severity 5 s.nextPush m))
      (s.pushFrame p .defrostAborted 5 m) s (s.enterEnding p (.aborted .inhibit) true n) := by
  rw [enterEnding_of_run hr]
  obtain ⟨grows, gather, frames, -⟩ := endsByAction_edit (s := s) (p := p) r n
  have entered := enteredAs s p r n
  have runEntered := State.field_editTrailer_self s p (fun t => t.entering r s.now (.aborted .inhibit) true n)
    TrailerRecord.run fun _ => rfl
  generalize (s.editTrailer p fun t => t.entering r s.now (.aborted .inhibit) true n) = u at *
  obtain ⟨running', stands, mask', table⟩ := entered
  obtain ⟨stack, next⟩ := stack_of_frames frames
  dsimp only [RunOutcome.finding]
  rw [if_pos rfl]
  dsimp only
  unfold State.produceEnding
  rw [link, produceWith_of_raises _ _ _ (running'.trans running) (stands.trans free) (.inl (mask'.symm ▸ mask)), ← table,
    raiseFinding_eq, next]
  dsimp only
  have raised := raisesEnding u p .defrostAborted 5 m (stands.trans free)
  rw [raiseFinding_eq, next] at raised
  generalize ((((u.pushed p .defrostAborted 5 m).activate p (u.tableEntry .defrostAborted).action s.nextPush).item p _)) = w
    at raised ⊢
  obtain ⟨grows', gather', frames', run'⟩ := raised
  have entering : u.run p = some (r.enter s.now (.aborted .inhibit) true n) := runEntered
  rw [relink_of_run (run'.trans entering)]
  refine ⟨(grows.trans grows').trans (grows_putRun w p _), ?_, ?_, fun _ => ⟨_, State.run_putRun_self w p _, rfl, rfl, rfl⟩⟩
  · exact (State.gather_editTrailer w p _).trans (gather'.trans (State.gather_item_of gather p _))
  · refine (frames_editTrailer w p _).trans (frames'.trans ?_)
    have yard : u.yardNow = s.yardNow := by
      have e : u.gather.yardNow = s.gather.yardNow := by rw [gather]
      exact e
    unfold State.pushFrame State.frames
    rw [yard, stack, next]

end

/-! ## A raised class and its action (R150, R154) -/

theorem isEnding_iff (r : RunRecord) : r.isEnding = true ↔ ∃ t o seen, r.state = .ending t o seen := by
  unfold RunRecord.isEnding RunRecord.outcome
  cases r.state <;> simp

/-- Whether INHIBIT-DEFROST comes into force over a run that is not ENDING. -/
def State.abortsBy (s : State) (p : Post) (a : Action) : Prop :=
  a = .inhibitDefrost ∧ (s.inForce p).inhibit = none ∧
    ∃ x, s.run p = some x ∧ ∀ t o seen, x.state ≠ .ending t o seen

theorem grows_causeJoins (s : State) (p : Post) (c : SuspCause) (k : Nat) : Grows p s (s.causeJoins p c k) := by
  unfold State.causeJoins
  split
  · exact .refl p s
  · exact grows_putRun s p _

/-- What an action that ends no run leaves. -/
structure AppliesQuietly (p : Post) (s t : State) : Prop where
  grows : Grows p s t
  gather : t.gather = s.gather
  frames : t.frames = s.frames

theorem AppliesQuietly.trans {p : Post} {s t u : State} (h : AppliesQuietly p s t) (k : AppliesQuietly p t u) :
    AppliesQuietly p s u := ⟨h.grows.trans k.grows, k.gather.trans h.gather, k.frames.trans h.frames⟩

theorem appliesQuietly_activate (s : State) (p : Post) (a : Action) (k : Nat) : AppliesQuietly p s (s.activate p a k) :=
  ⟨grows_activate s p a k, activate_gather s p a k, frames_activate s p a k⟩

theorem appliesQuietly_causeJoins (s : State) (p : Post) (c : SuspCause) (k : Nat) :
    AppliesQuietly p s (s.causeJoins p c k) := by
  refine ⟨grows_causeJoins s p c k, ?_, ?_⟩ <;>
  · rw [State.causeJoins_changes]
    rfl

theorem appliesQuietly_removeRequest (s : State) (p : Post) : AppliesQuietly p s (s.removeRequest p) := by
  refine ⟨grows_removeRequest s p, ?_, ?_⟩ <;>
  · rw [removeRequest_changes]
    rfl

theorem appliesQuietly_applyAction {s : State} {p : Post} {a : Action} (k : Nat) (h : ¬ s.abortsBy p a) :
    AppliesQuietly p s (s.applyAction p a k) := by
  have active := appliesQuietly_activate s p a k
  unfold State.applyAction
  split
  · exact ⟨.refl p s, rfl, rfl⟩
  · rename_i fresh
    dsimp only
    split
    · exact active
    · exact active
    · have removed := active.trans (appliesQuietly_removeRequest _ p)
      unfold State.inhibitDefrost State.abortRun
      split
      · exact removed
      · rename_i r hr
        rw [removeRequest_run, State.run, State.activate_trailer] at hr
        have off : (s.inForce p).inhibit = none := Option.not_isSome_iff_eq_none.mp (not_or.mp fresh).2
        have ending : r.isEnding = true := by
          rw [isEnding_iff]
          by_contra no
          exact h ⟨rfl, off, r, hr, fun t o seen e => no ⟨t, o, seen, e⟩⟩
        rw [if_pos ending]
        exact removed
    · exact active.trans (appliesQuietly_causeJoins _ p .cut k)

/-- INHIBIT-DEFROST coming into force over a run that is not ENDING. -/
theorem applyAction_of_aborts {s : State} {p : Post} {a : Action} (k : Nat) (h : s.abortsBy p a) :
    ∃ r, ((s.activate p a k).removeRequest p).run p = some r ∧
      s.applyAction p a k = ((s.activate p a k).removeRequest p).enterEnding p (.aborted .inhibit) true k := by
  obtain ⟨rfl, off, r, hr, no⟩ := h
  have run : ((s.activate p .inhibitDefrost k).removeRequest p).run p = some r := by
    rw [removeRequest_run, State.run, State.activate_trailer]
    exact hr
  refine ⟨r, run, ?_⟩
  have fresh : ¬ (Action.inhibitDefrost = .none ∨ s.actionInForce p .inhibitDefrost = true) := by
    rintro (e | e)
    · cases e
    · unfold State.actionInForce ActionsInForce.of at e
      rw [off] at e
      cases e
  unfold State.applyAction
  rw [if_neg fresh]
  dsimp only
  unfold State.inhibitDefrost State.abortRun
  rw [run]
  dsimp only
  rw [if_neg fun ending => ?_]
  obtain ⟨t, o, seen, e⟩ := (isEnding_iff r).mp ending
  exact no t o seen e

theorem link_enter {r : RunRecord} {n : Nat} (positive : 0 < n) (now : Time) (o : RunOutcome) (b : Bool) :
    (r.enter now o b n).link.getD 0 = n := by
  unfold RunRecord.enter
  rw [if_neg (Nat.ne_of_gt positive)]
  rfl

theorem grows_enterEnding_byAction {s : State} {p : Post} {r : RunRecord} (hr : s.run p = some r) (n : Nat) :
    Grows p s (s.enterEnding p (.aborted .inhibit) true n) ∧
      ((s.enterEnding p (.aborted .inhibit) true n).stack = s.stack ∨
        ∃ f, (s.enterEnding p (.aborted .inhibit) true n).stack = pushOnto s.stack f) := by
  by_cases drops : s.running = false ∨ (s.trailer p).stands .defrostAborted = true
  · have ends := endsByAction_of_drops hr n drops
    exact ⟨ends.grows, .inl (stack_of_frames ends.frames).1⟩
  · obtain ⟨running, free⟩ := not_or.mp drops
    rw [Bool.not_eq_false] at running
    rw [Bool.not_eq_true] at free
    cases mask : (s.trailer p).mask.getLsbD FindingClass.defrostAborted.num with
    | false =>
      have ends := endsByAction_of_notes hr n running free mask
      exact ⟨ends.grows, .inl (stack_of_frames ends.frames).1⟩
    | true =>
      have ends := endsByAction_of_raises hr (n := n) rfl running free mask
      exact ⟨ends.grows, .inr ⟨_, (stack_of_frames ends.frames).1⟩⟩

/-- An action that comes into force keeps what is active and in force, and pushes at most one frame. -/
theorem grows_applyAction (s : State) (p : Post) (a : Action) (k : Nat) :
    Grows p s (s.applyAction p a k) ∧
      ((s.applyAction p a k).stack = s.stack ∨ ∃ f, (s.applyAction p a k).stack = pushOnto s.stack f) := by
  by_cases aborts : s.abortsBy p a
  · obtain ⟨r, run, applied⟩ := applyAction_of_aborts k aborts
    rw [applied]
    have before := (appliesQuietly_activate s p a k).trans (appliesQuietly_removeRequest _ p)
    have ends := grows_enterEnding_byAction run k
    rw [(stack_of_frames before.frames).1] at ends
    exact ⟨before.grows.trans ends.1, ends.2⟩
  · have quiet := appliesQuietly_applyAction k aborts
    exact ⟨quiet.grows, .inl (stack_of_frames quiet.frames).1⟩

theorem of_applyAction (s : State) (p : Post) {a : Action} (some : a ≠ .none) (k : Nat) :
    (((s.applyAction p a k).inForce p).of a).isSome := by
  have active := of_activate s p some k
  have bring (u : State) (h : Grows p (s.activate p a k) u) : ((u.inForce p).of a).isSome := h.inForce a active
  unfold State.applyAction
  split
  · rename_i no
    exact no.resolve_left some
  · dsimp only
    split
    · exact active
    · exact active
    · unfold State.inhibitDefrost State.abortRun
      split
      · exact bring _ (grows_removeRequest _ p)
      · rename_i r hr
        split
        · exact bring _ (grows_removeRequest _ p)
        · exact bring _ ((grows_removeRequest _ p).trans (grows_enterEnding_byAction hr k).1)
    · exact bring _ (grows_causeJoins _ p .cut k)

/-- The law of the exception stack, as a kit. -/
def FindingKit.stackLaw : FindingKit fun _ => True where
  rel t s := s.StackLaw → t.StackLaw
  refl _ := id
  after x y z := x (y z)
  edit s p f _ _ law := by
    have same := stack_of_frames (frames_editTrailer s p f)
    exact law.of_same same.1 same.2
  output _ _ _ _ := id
  inForce _ _ _ _ := id
  item s p b _ law := law.of_same (s.item_stack p b) (s.item_nextPush p b)
  push s p c d k _ law := law.push p c d k
  unfile s p _ law := by
    have same := stack_of_frames (appliesQuietly_removeRequest s p).frames
    exact law.of_same same.1 same.2

section
variable {s : State} {p : Post} {c : FindingClass} {d k : Nat} (free : (s.trailer p).stands c = false)
include free

/-- The class and its frame once its action has been applied and its item produced. -/
theorem raised_stands (apply : ItemBody) (a : Action) :
    let u := ((s.pushed p c d k).applyAction p a s.nextPush).item p apply
    (u.trailer p).activeOf c = some { cls := c, detail := d, push := some s.nextPush } ∧
    { push := s.nextPush, cls := c, post := p, yardTime := s.yardNow, detail := d, cause := k, truncated := false } ∈ u.stack ∧
    (a ≠ .none → ((u.inForce p).of a).isSome) ∧
    (s.stack.length = 8 → ∃ f, u.stack.getLast? = some f ∧ f.truncated = true) := by
  dsimp only
  have active : ((s.pushed p c d k).trailer p).activeOf c = some { cls := c, detail := d, push := some s.nextPush } :=
    (State.field_editTrailer_self (s.pushFrame p c d k) p _ (fun t => t.activeOf c) fun _ => rfl).trans
      (TrailerRecord.activeOf_raising (TrailerRecord.not_stands_iff.mp free).1)
  have stack : (s.pushed p c d k).stack = pushOnto s.stack
      { push := s.nextPush, cls := c, post := p, yardTime := s.yardNow, detail := d, cause := k, truncated := false } :=
    (stack_of_frames (frames_editTrailer (s.pushFrame p c d k) p _)).1
  have grown := grows_applyAction (s.pushed p c d k) p a s.nextPush
  have inForce (some : a ≠ .none) := of_applyAction (s.pushed p c d k) p some s.nextPush
  generalize hw : (s.pushed p c d k).applyAction p a s.nextPush = w at *
  rw [State.item_stack]
  refine ⟨(grows_item w p apply).active _ _ (grown.1.active _ _ active), ?_,
    fun some => (grows_item w p apply).inForce _ (inForce some), fun full => ?_⟩
  · obtain ⟨rest, top⟩ := head_pushOnto s.stack
      { push := s.nextPush, cls := c, post := p, yardTime := s.yardNow, detail := d, cause := k, truncated := false }
    obtain same | ⟨g, pushed⟩ := grown.2
    · rw [same, stack, top]
      exact List.mem_cons_self
    · rw [pushed, stack, top]
      exact head_mem_pushOnto _ _ _
  · have first := pushOnto_of_full full
      { push := s.nextPush, cls := c, post := p, yardTime := s.yardNow, detail := d, cause := k, truncated := false }
    obtain same | ⟨g, pushed⟩ := grown.2
    · rw [same, stack]
      exact first.2
    · rw [pushed, stack]
      exact (pushOnto_of_full first.1 g).2

/-- The state before a raised class's action, as far as an abort reads it. -/
theorem pushed_reads (running : s.running = true) (a : Action) :
    ((s.pushed p c d k).abortsBy p a ↔ s.abortsBy p a) ∧
    (((s.pushed p c d k).activate p a s.nextPush).removeRequest p).running = true ∧
    (((s.pushed p c d k).activate p a s.nextPush).removeRequest p).now = s.now ∧
    (∀ x, (((s.pushed p c d k).activate p a s.nextPush).removeRequest p).tableEntry x = s.tableEntry x) ∧
    ((((s.pushed p c d k).activate p a s.nextPush).removeRequest p).trailer p).mask = (s.trailer p).mask ∧
    ((((s.pushed p c d k).activate p a s.nextPush).removeRequest p).trailer p).stands .defrostAborted
      = ((s.trailer p).stands .defrostAborted || decide (FindingClass.defrostAborted = c)) := by
  have trailer : (((s.pushed p c d k).activate p a s.nextPush).removeRequest p).trailer p = (s.pushed p c d k).trailer p := by
    rw [removeRequest_trailer, State.activate_trailer]
  have run := pushed_run s p c d k p
  have stands := pushed_stands free d k .defrostAborted
  have mask : ((s.pushed p c d k).trailer p).mask = (s.trailer p).mask :=
    State.field_editTrailer_self (s.pushFrame p c d k) p _ TrailerRecord.mask fun _ => rfl
  have pushed : s.pushed p c d k
      = { s.pushFrame p c d k with records := (s.pushed p c d k).records } := by
    have edited := State.editTrailer_changes (s.pushFrame p c d k) p fun t => t.raising c d s.nextPush
    exact edited
  have inForce : (s.pushed p c d k).inForce p = s.inForce p := by
    rw [pushed]
    rfl
  rw [trailer, mask, stands]
  refine ⟨?_, ?_, ?_, fun x => ?_, rfl, rfl⟩
  · unfold State.abortsBy
    rw [inForce, run]
  all_goals rw [removeRequest_changes, State.activate_changes, pushed]
  · exact running
  · rfl
  · rfl

/-- The items and the push numbers of a raised class, and the abort that its action makes (R107, R110). -/
theorem raised_items (running : s.running = true) (raised : ItemBody) (a : Action) :
    let u := ((s.pushed p c d k).applyAction p a s.nextPush).item p raised
    let x := FindingClass.defrostAborted
    let drops : Prop := c = x ∨ (s.trailer p).stands x = true
    let ends (link : Nat) : Prop := ∃ y, u.run p = some y ∧ y.state = .ending s.now (.aborted .inhibit) false ∧
      y.byAction = true ∧ y.link = some link
    (¬ (s.abortsBy p a ∧ ¬ drops) → SameNotices (s.item p raised) u ∧ u.nextPush = nextPushNumber s.nextPush) ∧
    (s.abortsBy p a → drops → 0 < s.nextPush → ends s.nextPush) ∧
    (s.abortsBy p a → ¬ drops → 0 < s.nextPush → (s.trailer p).mask.getLsbD x.num = false → ends s.nextPush ∧
      SameNotices ((s.item p (.findingNoted x (s.tableEntry x).severity 5 0)).item p raised) u ∧
        u.nextPush = nextPushNumber s.nextPush) ∧
    (s.abortsBy p a → ¬ drops → 0 < s.nextPush → (s.trailer p).mask.getLsbD x.num = true →
      ends (nextPushNumber s.nextPush) ∧
      SameNotices
        ((s.item p (.findingRaised x (s.tableEntry x).severity 5 (nextPushNumber s.nextPush) s.nextPush)).item p raised) u ∧
        u.nextPush = nextPushNumber (nextPushNumber s.nextPush)) := by
  dsimp only
  obtain ⟨aborts, on, now, table, mask', stands⟩ := pushed_reads (d := d) (k := k) free running a
  have gather := pushed_gather s p c d k
  have next : (s.pushed p c d k).nextPush = nextPushNumber s.nextPush :=
    (stack_of_frames (frames_editTrailer (s.pushFrame p c d k) p _)).2
  rw [State.item_run, State.item_nextPush, ← aborts]
  generalize s.pushed p c d k = v at *
  have before := (appliesQuietly_activate v p a s.nextPush).trans (appliesQuietly_removeRequest _ p)
  have applied (h : v.abortsBy p a) := applyAction_of_aborts s.nextPush h
  have quiet (h : ¬ v.abortsBy p a) := appliesQuietly_applyAction s.nextPush h
  generalize ((v.activate p a s.nextPush).removeRequest p) = e at *
  generalize v.applyAction p a s.nextPush = w at *
  have gather' := before.gather.trans gather
  have next' := (stack_of_frames before.frames).2.trans next
  have dropped (drops : c = .defrostAborted ∨ (s.trailer p).stands .defrostAborted = true) :
      e.running = false ∨ (e.trailer p).stands .defrostAborted = true := by
    rw [stands]
    obtain rfl | stood := drops <;> simp [*]
  have undropped (h : ¬ (c = .defrostAborted ∨ (s.trailer p).stands .defrostAborted = true)) :
      (e.trailer p).stands .defrostAborted = false := by
    obtain ⟨other, free'⟩ := not_or.mp h
    rw [stands, Bool.eq_false_iff.mpr free', decide_eq_false fun e => other e.symm]
    rfl
  refine ⟨fun no => ?_, fun yes drops positive => ?_, fun yes some positive off => ?_, fun yes some positive set => ?_⟩
  · by_cases yes : v.abortsBy p a
    · obtain ⟨r, run, rfl⟩ := applied yes
      have ends := endsByAction_of_drops run s.nextPush (dropped (not_not.mp fun some => no ⟨yes, some⟩))
      exact ⟨.of_gather (State.gather_item_of (ends.gather.trans gather') p _),
        (stack_of_frames ends.frames).2.trans next'⟩
    · exact ⟨.of_gather (State.gather_item_of ((quiet yes).gather.trans gather) p _),
        (stack_of_frames (quiet yes).frames).2.trans next⟩
  · obtain ⟨r, run, rfl⟩ := applied yes
    have ends := endsByAction_of_drops run s.nextPush (dropped drops)
    rw [← now]
    exact ends.run positive
  · obtain ⟨r, run, rfl⟩ := applied yes
    have ends := endsByAction_of_notes run s.nextPush on (undropped some) (mask'.symm ▸ off)
    rw [← now, ← table]
    exact ⟨ends.run positive,
      .of_gather (State.gather_item_of (ends.gather.trans (State.gather_item_of gather' p _)) p _),
      (stack_of_frames ends.frames).2.trans next'⟩
  · obtain ⟨r, run, rfl⟩ := applied yes
    have ends := endsByAction_of_raises run (link_enter positive _ _ _) on (undropped some) (mask'.symm ▸ set)
    rw [← now, ← table, ← next']
    exact ⟨ends.run positive,
      .of_gather (State.gather_item_of (ends.gather.trans (State.gather_item_of gather' p _)) p _),
      (stack_of_frames ends.frames).2⟩

end

/-- Settles O60: a finding dropped, noted or raised, with the abort that its action can make. -/
theorem findingIsDroppedNotedOrRaised : Obligations.FindingIsDroppedNotedOrRaised := by
  intro s p c d k
  refine ⟨fun drops => ?_, fun phase free mask other => ?_, fun phase free mask => ?_⟩
  · unfold State.produce
    rw [produceWith_of_drops]
    exact drops.imp_left fun no => decide_eq_false no
  · have produced : s.produce p c d k = s.noteFinding p c d := by
      unfold State.produce
      rw [produceWith_of_notes _ _ _ (running_of_phase phase) free mask other]
    rw [produced]
    refine ⟨?_, ?_, fun q hq => ?_, edit_item_changes s p _ _, txGoesOn_edit_item s p _ _,
      .of_gather (State.gather_item_of (State.gather_editTrailer s p _) p _)⟩
    · rw [noteFinding_trailer]
      exact (State.field_editTrailer_self s p _ (fun t => t.notedOf c) fun _ => rfl).trans
        (TrailerRecord.notedOf_noting (TrailerRecord.not_stands_iff.mp free).2)
    · rw [noteFinding_trailer]
      exact State.field_editTrailer_self s p _ TrailerRecord.active fun _ => rfl
    · rw [noteFinding_trailer]
      exact State.trailer_editTrailer_other s p q _ hq
  · have produced : s.produce p c d k = s.raiseFinding State.applyAction p c d k := by
      unfold State.produce
      rw [produceWith_of_raises _ _ _ (running_of_phase phase) free mask]
    have outside : OutsideSame s (s.produce p c d k) := .of_framed fun f => f.produce s p c d k
    have noRebuild : NoRebuild s (s.produce p c d k) := .of_framed fun f => f.produce s p c d k
    have others : OtherPostsSame p s (s.produce p c d k) := (FindingKit.others p).produce s rfl c d k
    have law : s.StackLaw → (s.produce p c d k).StackLaw := FindingKit.stackLaw.produce s trivial c d k
    rw [produced] at outside noRebuild others law ⊢
    rw [raiseFinding_eq] at outside noRebuild others law ⊢
    obtain ⟨active, frame, inForce, marked⟩ := raised_stands (d := d) (k := k) free
      (.findingRaised c (s.tableEntry c).severity d s.nextPush k) (s.tableEntry c).action
    refine ⟨active, frame, inForce, fun stackLaw => ⟨law stackLaw, marked⟩, ?_, outside, noRebuild, others⟩
    exact raised_items free (running_of_phase phase) _ _

end Sys2Proof.Machine


/-! # The frost step, the fuel level and an opening (chapters 3, 6 and 7)

The statements O57, O58 and O59. -/

namespace Sys2Proof.Machine

/-! ## The fuel level (R118 to R120) -/

theorem filterStep_up {f l : Nat} (h : f ≤ 16 * l) : filterStep f l = f + (16 * l - f) / 4 := by
  unfold filterStep
  rw [Int.tdiv_eq_ediv_of_nonneg (by omega)]
  omega

theorem filterStep_down {f l : Nat} (h : 16 * l ≤ f) : filterStep f l = f - (f - 16 * l) / 4 := by
  have flip : 16 * (l : Int) - f = -((f : Int) - 16 * l) := by omega
  unfold filterStep
  rw [flip, Int.neg_tdiv, Int.tdiv_eq_ediv_of_nonneg (by omega)]
  omega

/-- The filter stays between bounds that hold both where it stood and the level. -/
theorem filterStep_between {f l low high : Nat} (hf : 16 * low ≤ f ∧ f ≤ 16 * high) (hl : low ≤ l ∧ l ≤ high) :
    16 * low ≤ filterStep f l ∧ filterStep f l ≤ 16 * high := by
  obtain up | down := Nat.le_total f (16 * l)
  · rw [filterStep_up up]
    omega
  · rw [filterStep_down down]
    omega

theorem reportedLevel_between {f low high : Nat} (h : 16 * low ≤ f ∧ f ≤ 16 * high) :
    low ≤ reportedLevel f ∧ reportedLevel f ≤ high := by
  unfold reportedLevel
  omega

/-- The points of a curve rise: raw values strictly, litres weakly (R118). -/
def Rises (c : Vector (Nat × Nat) 9) : Prop :=
  ∀ i : Fin 8, (c.get i.castSucc).1 < (c.get i.succ).1 ∧ (c.get i.castSucc).2 ≤ (c.get i.succ).2

theorem rises_of_curveOk {pr : Profile} (h : pr.curveOk = true) : Rises pr.curve := by
  unfold Profile.curveOk at h
  rw [Bool.and_eq_true, List.all_eq_true, List.all_eq_true] at h
  exact fun i => of_decide_eq_true (h.2 i (List.mem_finRange i))

section
variable {c : Vector (Nat × Nat) 9} (h : Rises c)
include h

theorem Rises.raw : StrictMono fun i => (c.get i).1 := Fin.strictMono_iff_lt_succ.mpr fun i => (h i).1

theorem Rises.litres : Monotone fun i => (c.get i).2 := Fin.monotone_iff_le_succ.mpr fun i => (h i).2

theorem segmentLevel_right (i : Fin 8) : segmentLevel c i (c.get i.succ).1 = (c.get i.succ).2 := by
  obtain ⟨raw, litres⟩ := h i
  unfold segmentLevel
  dsimp only
  rw [Nat.mul_div_cancel_left _ (Nat.sub_pos_of_lt raw)]
  omega

omit h in
theorem segmentLevel_left (i : Fin 8) : segmentLevel c i (c.get i.castSucc).1 = (c.get i.castSucc).2 := by
  unfold segmentLevel
  dsimp only
  rw [Nat.sub_self, Nat.zero_mul, Nat.zero_div, Nat.add_zero]

/-- Whether a segment holds a reading. -/
def Holds (c : Vector (Nat × Nat) 9) (i : Fin 8) (x : Nat) : Prop := (c.get i.castSucc).1 ≤ x ∧ x ≤ (c.get i.succ).1

/-- Two segments that hold one reading share it as an end, where they give one level. -/
theorem segmentLevel_agree {i j : Fin 8} {x : Nat} (hi : Holds c i x) (hj : Holds c j x) :
    segmentLevel c i x = segmentLevel c j x := by
  have apart {i j : Fin 8} (less : i < j) (hi : Holds c i x) (hj : Holds c j x) :
      segmentLevel c i x = segmentLevel c j x := by
    have le : i.succ ≤ j.castSucc := by
      rw [Fin.le_def, Fin.val_succ, Fin.val_castSucc]
      exact less
    have shared : x = (c.get i.succ).1 := le_antisymm hi.2 ((h.raw.monotone le).trans hj.1)
    have shared' : x = (c.get j.castSucc).1 := le_antisymm (shared.le.trans (h.raw.monotone le)) hj.1
    have point : i.succ = j.castSucc := h.raw.injective (shared.symm.trans shared')
    rw [shared, segmentLevel_right h i, point, segmentLevel_left j]
  obtain less | rfl | less := lt_trichotomy i j
  · exact apart less hi hj
  · rfl
  · exact (apart less hj hi).symm

omit h in
/-- A reading within the curve lies on a segment. -/
theorem exists_holds {x : Nat} (low : (c.get 0).1 ≤ x) (high : x ≤ (c.get 8).1) : ∃ i, Holds c i x := by
  by_contra none
  have below (i : Fin 9) : (c.get i).1 ≤ x := by
    induction i using Fin.induction with
    | zero => exact low
    | succ i ih => exact (not_le.mp fun le => none ⟨i, ih, le⟩).le
  exact none ⟨7, below _, high⟩

theorem convert_of_holds {i : Fin 8} {x : Nat} (hi : Holds c i x) : convert c x = segmentLevel c i x := by
  have low : (c.get 0).1 ≤ x := (h.raw.monotone (Fin.zero_le _)).trans hi.1
  have high : x ≤ (c.get 8).1 := hi.2.trans (h.raw.monotone (Fin.le_last _))
  unfold convert
  rw [if_neg (not_lt.mpr low), if_neg (not_lt.mpr high)]
  split
  · rename_i j found
    have hj : Holds c j x := by simpa [Holds] using List.find?_some found
    exact segmentLevel_agree h hj hi
  · rename_i none
    exact absurd (decide_eq_true (p := (c.get i.castSucc).1 ≤ x ∧ x ≤ (c.get i.succ).1) hi) (List.find?_eq_none.mp none i (List.mem_finRange i))

theorem segmentLevel_between {i : Fin 8} {x : Nat} (hi : Holds c i x) :
    (c.get i.castSucc).2 ≤ segmentLevel c i x ∧ segmentLevel c i x ≤ (c.get i.succ).2 := by
  obtain ⟨raw, litres⟩ := h i
  have part : (x - (c.get i.castSucc).1) * ((c.get i.succ).2 - (c.get i.castSucc).2)
      / ((c.get i.succ).1 - (c.get i.castSucc).1) ≤ (c.get i.succ).2 - (c.get i.castSucc).2 :=
    Nat.div_le_of_le_mul (Nat.mul_le_mul_right _ (Nat.sub_le_sub_right hi.2 _))
  unfold segmentLevel
  dsimp only
  generalize (x - (c.get i.castSucc).1) * ((c.get i.succ).2 - (c.get i.castSucc).2)
    / ((c.get i.succ).1 - (c.get i.castSucc).1) = risen at part ⊢
  omega

theorem convert_between (x : Nat) : (c.get 0).2 ≤ convert c x ∧ convert c x ≤ (c.get 8).2 := by
  have ends : (c.get 0).2 ≤ (c.get 8).2 := h.litres (Fin.zero_le _)
  by_cases low : x < (c.get 0).1
  · unfold convert
    rw [if_pos low]
    exact ⟨le_rfl, ends⟩
  · by_cases high : (c.get 8).1 < x
    · unfold convert
      rw [if_neg low, if_pos high]
      exact ⟨ends, le_rfl⟩
    · obtain ⟨i, hi⟩ := exists_holds (not_lt.mp low) (not_lt.mp high)
      obtain ⟨left, right⟩ := segmentLevel_between h hi
      rw [convert_of_holds h hi]
      exact ⟨(h.litres (Fin.zero_le _)).trans left, right.trans (h.litres (Fin.le_last _))⟩

end

/-- Settles O58: the curve's segments, their shared ends, and the filter's rounding. -/
theorem fuelLevelStaysOnTheCurve : Obligations.FuelLevelStaysOnTheCurve := by
  refine ⟨fun f l => ⟨filterStep_up, filterStep_down, rfl⟩, fun pr x ok => ?_⟩
  have rises := rises_of_curveOk ok
  have within := convert_between rises x
  refine ⟨fun low => if_pos low, fun high => ?_, fun i left right => convert_of_holds rises ⟨left, right⟩, within.1, within.2,
    fun f low high => ?_⟩
  · have past : ¬ x < (pr.curve.get 0).1 := not_lt.mpr ((rises.raw.monotone (Fin.zero_le 8)).trans high.le)
    exact (if_neg past).trans (if_pos high)
  · have filter := filterStep_between ⟨low, high⟩ within
    have reported := reportedLevel_between filter
    exact ⟨filter.1, filter.2, reported.1, reported.2⟩

/-! ## The frost step (R49 to R67) -/

section
variable (t : TrailerRecord) (rep : StatusReport) (before : AtArrival) (m : Nat) (period : Int)

theorem frostCase_of_no_coil {mode : Mode} {dt : Nat} (h : t.tc = none) : t.frostCase mode before dt m period = t := by
  unfold TrailerRecord.frostCase
  rw [h]

theorem frostCase_of_run {mode : Mode} {dt : Nat} (h : before.runExists = true) :
    t.frostCase mode before dt m period = t := by
  unfold TrailerRecord.frostCase
  split
  · rfl
  · exact if_pos h

theorem frostCase_of_coil {mode : Mode} {dt : Nat} {tc : Int} (h : t.tc = some tc) (no : before.runExists = false) :
    t.frostCase mode before dt m period
      = if mode = .cool ∧ tc < 0 then t.accrue dt (coilTerm t.tr tc) (doorLoad (agedView before.history before.pn period)) m
        else if (mode = .null ∨ mode = .off) ∧ 20 ≤ tc then t.melt dt tc else t := by
  unfold TrailerRecord.frostCase Mode.cools Mode.idles
  rw [h, no]
  simp

end

theorem coilTerm_le (tr : Option Int) (tc : Int) : coilTerm tr tc ≤ 20 := by
  unfold coilTerm
  split <;> omega

theorem coilTerm_of_some (r tc : Int) : (coilTerm (some r) tc : Int) = max 0 (min 200 (r - tc)) / 10 := by
  unfold coilTerm
  dsimp only
  omega

theorem doorLoad_le (v : Word16) : doorLoad v ≤ 24 := by
  have bits (low : Nat) : setBits v low ≤ 8 := List.countP_le_length
  have high := bits 8
  have low := bits 0
  unfold doorLoad
  omega

theorem setBits_shifted (v : Word16) (k low : Nat) :
    setBits (v >>> k) low = (List.range 8).countP fun i => v.getLsbD (low + i + k) := by
  unfold setBits
  congr 1
  funext i
  rw [BitVec.getLsbD_ushiftRight, Nat.add_comm]

theorem doorLoad_zero : doorLoad 0 = 0 := by decide

/-- The account rises by the product where F does not saturate (R64). -/
theorem accrue_exact {t : TrailerRecord} {dt k d m : Nat} (fits : t.f + (dt * (k + d) * m + t.r) / 16 ≤ 65535) :
    16 * (t.accrue dt k d m).f + (t.accrue dt k d m).r = 16 * t.f + t.r + dt * (k + d) * m := by
  have split := Nat.div_add_mod (dt * (k + d) * m + t.r) 16
  unfold TrailerRecord.accrue
  dsimp only
  rw [Nat.min_eq_right fits]
  omega

/-- The record's frost step with the account of an evaluation (R50). -/
def State.frosted (s : State) (t : TrailerRecord) (rep : StatusReport) (before : AtArrival) : TrailerRecord :=
  match t.lastEval with
  | none => t
  | some last => t.frostCase rep.mode before (timeStep last s.now) (s.weather.moisture s.now s.config.mdef)
      (periodOf s.now s.config.hp)

section
variable (s : State) (p : Post) (rep : StatusReport) (before : AtArrival)

theorem frostStep_eq : s.frostStep p rep before
    = s.editTrailer p fun t => { s.frosted t rep before with lastEval := some s.now } := rfl

theorem frosted_of_first {t : TrailerRecord} (h : t.lastEval = none) : s.frosted t rep before = t := by
  unfold State.frosted
  rw [h]

theorem frosted_of_later {t : TrailerRecord} {last : Time} (h : t.lastEval = some last) : s.frosted t rep before
    = t.frostCase rep.mode before (timeStep last s.now) (s.weather.moisture s.now s.config.mdef)
      (periodOf s.now s.config.hp) := by
  unfold State.frosted
  rw [h]

/-- What leaves every later evaluation's record alone leaves the step's. -/
theorem frosted_of_case {t : TrailerRecord}
    (h : ∀ dt, t.frostCase rep.mode before dt (s.weather.moisture s.now s.config.mdef) (periodOf s.now s.config.hp) = t) :
    s.frosted t rep before = t := by
  unfold State.frosted
  split
  · rfl
  · exact h _

end

theorem standing_spec (w : Weather) (now : Time) :
    (∀ at', w.receipt = some at' → now - at' ≤ 7200 →
      w.standing now = if now - at' < 1800 then .current else .stale) ∧
    ((∀ at', w.receipt = some at' → 7200 < now - at') → w.standing now = .default) := by
  unfold Weather.standing
  split
  · rename_i none
    exact ⟨fun at' h => absurd (none.symm.trans h) nofun, fun _ => rfl⟩
  · rename_i t found
    refine ⟨fun at' h young => ?_, fun h => ?_⟩
    · cases Option.some.inj (found.symm.trans h)
      rw [if_pos young]
    · have old := h t found
      unfold Time at *
      rw [if_neg (by omega), if_neg (by omega)]

/-- Settles O57: the cases of the frost step by coil, run and mode, and the weather's standing by its age. -/
theorem frostAccountIsExact : Obligations.FrostAccountIsExact := by
  intro s p rep before
  dsimp only
  rw [frostStep_eq]
  have lastEval := State.field_editTrailer_self s p (fun t => { s.frosted t rep before with lastEval := some s.now })
    TrailerRecord.lastEval fun _ => rfl
  have hf := State.field_editTrailer_self s p (fun t => { s.frosted t rep before with lastEval := some s.now })
    TrailerRecord.f fun _ => rfl
  have hr := State.field_editTrailer_self s p (fun t => { s.frosted t rep before with lastEval := some s.now })
    TrailerRecord.r fun _ => rfl
  have changes := State.editTrailer_changes s p fun t => { s.frosted t rep before with lastEval := some s.now }
  have others (q : Post) (hq : q ≠ p) := State.trailer_editTrailer_other s p q
    (fun t => { s.frosted t rep before with lastEval := some s.now }) hq
  generalize (s.editTrailer p fun t => { s.frosted t rep before with lastEval := some s.now }) = u at *
  generalize s.trailer p = t at *
  have same (h : s.frosted t rep before = t) : (u.trailer p).f = t.f ∧ (u.trailer p).r = t.r := by
    rw [hf, hr, h]
    exact ⟨rfl, rfl⟩
  have noCase (h : ∀ dt, t.frostCase rep.mode before dt (s.weather.moisture s.now s.config.mdef)
      (periodOf s.now s.config.hp) = t) := same (frosted_of_case s rep before h)
  have idle {tc : Int} (coil : t.tc = some tc) (notCool : ¬ (rep.mode = .cool ∧ tc < 0))
      (notIdle : ¬ ((rep.mode = .null ∨ rep.mode = .off) ∧ 20 ≤ tc)) :
      (u.trailer p).f = t.f ∧ (u.trailer p).r = t.r := by
    refine noCase fun dt => ?_
    cases runs : before.runExists with
    | true => exact frostCase_of_run t before _ _ runs
    | false => rw [frostCase_of_coil t before _ _ coil runs, if_neg notCool, if_neg notIdle]
  refine ⟨lastEval, changes, others, fun first => same (frosted_of_first s rep before first),
    fun none => noCase fun _ => frostCase_of_no_coil t before _ _ none,
    fun runs => noCase fun _ => frostCase_of_run t before _ _ runs, fun cool null off => ?_,
    fun tc coil cool warm => idle coil (fun h => not_lt.mpr warm h.2) (by rw [cool]; simp),
    fun tc coil mode cold => idle coil (by rintro ⟨cool, -⟩; rw [cool] at mode; simp at mode) (fun h => not_lt.mpr h.2 cold),
    fun last tc dt later coil runs step => ⟨fun cool cold => ?_, fun mode warm => ?_⟩,
    fun w now mdef => ⟨fun at' received young => ?_, fun old => ?_⟩⟩
  · cases coil : t.tc with
    | none => exact noCase fun _ => frostCase_of_no_coil t before _ _ coil
    | some tc => exact idle coil (fun h => cool h.1) fun h => h.1.elim null off
  · have dtIs : timeStep last s.now = dt := by
      unfold timeStep
      rw [← step]
      rfl
    have stepped : s.frosted t rep before = t.accrue dt (coilTerm t.tr tc)
        (doorLoad (agedView before.history before.pn (periodOf s.now s.config.hp))) (s.weather.moisture s.now s.config.mdef) := by
      rw [frosted_of_later s rep before later, dtIs, frostCase_of_coil t before _ _ coil runs, if_pos ⟨cool, cold⟩]
    rw [hf, hr, stepped]
    refine ⟨_, _, _, coilTerm_le t.tr tc, doorLoad_le _, fun none => ?_, fun tr found => ?_, fun none => ?_, fun n found => ?_, rfl,
      rfl, rfl, fun fits => accrue_exact fits⟩
    · rw [none]
      rfl
    · rw [found, coilTerm_of_some]
    · rw [none]
      exact doorLoad_zero
    · rw [found]
      unfold doorLoad agedView
      dsimp only
      rw [setBits_shifted, setBits_shifted]
      simp only [Nat.zero_add]
      rfl
  · have dtIs : timeStep last s.now = dt := by
      unfold timeStep
      rw [← step]
      rfl
    have stepped : s.frosted t rep before = t.melt dt tc := by
      rw [frosted_of_later s rep before later, dtIs, frostCase_of_coil t before _ _ coil runs,
        if_neg (fun h => by rw [h.1] at mode; simp at mode), if_pos ⟨mode, warm⟩]
    rw [hf, hr, stepped]
    exact ⟨rfl, rfl⟩
  · have standing := (standing_spec w now).1 at' received young
    refine ⟨standing, ?_⟩
    unfold Weather.moisture
    rw [standing]
    split <;> rename_i h
    · rfl
    · rfl
    · split at h <;> cases h
  · have standing := (standing_spec w now).2 old
    refine ⟨standing, ?_⟩
    unfold Weather.moisture
    rw [standing]

/-! ## An opening (R137, R139, R144) -/

theorem historyAt_of_past {h : Word16} {n now : Int} (past : now ≤ n) : historyAt h (some n) now = (h, n) := if_pos past

theorem topBit_low : ∀ i < 15, (0x8000 : Word16).getLsbD i = false := by decide

theorem topBit_high : (0x8000 : Word16).getLsbD 15 = true := by decide

/-- The history word shifted to a later period, with the opening's bit. -/
theorem historyAt_of_later {h : Word16} {n now : Int} (later : n < now) :
    (historyAt h (some n) now).2 = now ∧ (historyAt h (some n) now).1.getLsbD 15 = true ∧
      ∀ i < 15, (historyAt h (some n) now).1.getLsbD i = h.getLsbD (i + (now - n).toNat) := by
  unfold historyAt
  dsimp only
  rw [if_neg (by omega)]
  split
  · rename_i far
    refine ⟨rfl, topBit_high, fun i hi => ?_⟩
    rw [BitVec.getLsbD_of_ge h _ (by omega)]
    exact topBit_low i hi
  · refine ⟨rfl, ?_, fun i hi => ?_⟩
    · rw [BitVec.getLsbD_or, topBit_high, Bool.or_true]
    · rw [BitVec.getLsbD_or, topBit_low i hi, Bool.or_false, BitVec.getLsbD_ushiftRight, Nat.add_comm]

/-- What the break of a declared custody leaves (R144). -/
structure BreaksCustody (p : Post) (s t : State) : Prop where
  door : (t.trailer p).door = (s.trailer p).door
  declared : ∀ tag, (s.trailer p).custody = .closed tag →
    (t.trailer p).custody = .broken tag ∧ (s.running = true → (t.trailer p).stands .custodyBreak = true)
  undeclared : (∀ tag, (s.trailer p).custody ≠ .closed tag) → (t.trailer p).custody = (s.trailer p).custody
  others : OtherPostsSame p s t

theorem breaksCustody_breakCustody (s : State) (p : Post) : BreaksCustody p s (s.breakCustody p) := by
  unfold State.breakCustody
  split
  · rename_i tag closed
    dsimp only
    have edited {α : Type} (π : TrailerRecord → α) (hπ : ∀ t, π t.sealed = π t) :
        π (((s.editTrailer p fun t => { t with custody := .broken tag }).item p (.custodyChanged (.broken tag))).trailer p)
          = π { s.trailer p with custody := .broken tag } := by
      rw [State.item_trailer]
      exact State.field_editTrailer_self s p _ π hπ
    have running : ((s.editTrailer p fun t => { t with custody := .broken tag }).item p (.custodyChanged (.broken tag))).running
        = s.running := by
      rw [edit_item_changes]
      rfl
    have others : OtherPostsSame p s
        ((s.editTrailer p fun t => { t with custody := .broken tag }).item p (.custodyChanged (.broken tag))) :=
      (OtherPostsSame.edit s p _).trans ((FindingKit.others p).item _ p _ rfl)
    generalize ((s.editTrailer p fun t => { t with custody := .broken tag }).item p (.custodyChanged (.broken tag))) = u at *
    generalize (if (s.trailer p).door.held = some .closed then 1 else 2) = d
    have bulk := FindingKit.bulk.produce u (p := p) trivial .custodyBreak d 0 p
    have stands := (stands_produce u p .custodyBreak d 0).2
    have apart := (FindingKit.others p).produce u rfl .custodyBreak d 0
    generalize u.produce p .custodyBreak d 0 = v at *
    have field {α : Type} (π : TrailerRecord → α) (hπ : ∀ t, π t.bulk = π t) : π (v.trailer p) = π (u.trailer p) := by
      rw [← hπ, bulk.bulk, hπ]
    refine ⟨?_, fun tag' closed' => ⟨?_, fun on => stands (running.trans on)⟩, fun open' => absurd closed (open' tag),
      others.trans apart⟩
    · exact (field TrailerRecord.door fun _ => rfl).trans (edited TrailerRecord.door fun _ => rfl)
    · cases closed.symm.trans closed'
      exact (field TrailerRecord.custody fun _ => rfl).trans (edited TrailerRecord.custody fun _ => rfl)
  all_goals
    rename_i other
    exact ⟨rfl, fun tag closed => absurd (other.symm.trans closed) nofun, fun _ => rfl, .refl p s⟩

/-- The door fields as an opening marks them, before the held state changes (R137, R139). -/
def DoorGroup.marked (d : DoorGroup) (now : Time) (period : Int) : DoorGroup :=
  { d with
    openingTime := some now, ajarReported := false
    history := (historyAt d.history d.pn period).1, pn := some (historyAt d.history d.pn period).2 }

theorem opening_eq (s : State) (p : Post) : s.opening p =
    ((s.editTrailer p fun t => { t with door := t.door.marked s.now (periodOf s.now s.config.hp) }).breakCustody p).editTrailer
      p fun t => { t with door := { t.door with held := some .opened } } := rfl

/-- What an opening leaves: the door's marks and the broken custody. -/
structure Opens (p : Post) (s t : State) : Prop where
  door : (t.trailer p).door
    = { (s.trailer p).door.marked s.now (periodOf s.now s.config.hp) with held := some .opened }
  declared : ∀ tag, (s.trailer p).custody = .closed tag →
    (t.trailer p).custody = .broken tag ∧ (s.running = true → (t.trailer p).stands .custodyBreak = true)
  undeclared : (∀ tag, (s.trailer p).custody ≠ .closed tag) → (t.trailer p).custody = (s.trailer p).custody
  others : OtherPostsSame p s t

theorem opens_opening (s : State) (p : Post) : Opens p s (s.opening p) := by
  rw [opening_eq]
  have marked {α : Type} (π : TrailerRecord → α) (hπ : ∀ t, π t.sealed = π t) := State.field_editTrailer_self s p
    (fun t => { t with door := t.door.marked s.now (periodOf s.now s.config.hp) }) π hπ
  have door := marked TrailerRecord.door fun _ => rfl
  have custody := marked TrailerRecord.custody fun _ => rfl
  have others := OtherPostsSame.edit s p fun t => { t with door := t.door.marked s.now (periodOf s.now s.config.hp) }
  have running : (s.editTrailer p fun t => { t with door := t.door.marked s.now (periodOf s.now s.config.hp) }).running
      = s.running := by
    rw [State.editTrailer_changes]
    rfl
  generalize (s.editTrailer p fun t => { t with door := t.door.marked s.now (periodOf s.now s.config.hp) }) = u at *
  dsimp only at door custody
  have breaks := breaksCustody_breakCustody u p
  generalize u.breakCustody p = v at *
  have edited {α : Type} (π : TrailerRecord → α) (hπ : ∀ t, π t.sealed = π t) := State.field_editTrailer_self v p
    (fun t => { t with door := { t.door with held := some .opened } }) π hπ
  have same := edited TrailerRecord.custody fun _ => rfl
  dsimp only at same
  refine ⟨?_, fun tag closed => ⟨?_, fun on => ?_⟩, fun open' => ?_,
    (others.trans breaks.others).trans (OtherPostsSame.edit v p _)⟩
  · rw [edited TrailerRecord.door fun _ => rfl]
    dsimp only
    rw [breaks.door, door]
  · rw [same]
    exact (breaks.declared tag (custody.trans closed)).1
  · exact (edited (fun t => t.stands .custodyBreak) fun _ => rfl).trans
      ((breaks.declared tag (custody.trans closed)).2 (running.trans on))
  · rw [same, breaks.undeclared (fun tag => custody.symm ▸ open' tag), custody]

/-- Settles O59: the door's marks around the break of custody. -/
theorem openingMarksAndBreaks : Obligations.OpeningMarksAndBreaks := by
  intro s p
  dsimp only
  obtain ⟨door, declared, undeclared, others⟩ := opens_opening s p
  have history : ((s.opening p).trailer p).door.history
      = (historyAt (s.trailer p).door.history (s.trailer p).door.pn (s.now / (s.config.hp : Int))).1 := by
    rw [door]
    rfl
  have period : ((s.opening p).trailer p).door.pn
      = some (historyAt (s.trailer p).door.history (s.trailer p).door.pn (s.now / (s.config.hp : Int))).2 := by
    rw [door]
    rfl
  refine ⟨by rw [door], by rw [door]; rfl, by rw [door]; rfl, fun none => ?_, fun n found => ⟨fun past => ?_, fun later => ?_⟩,
    fun tag closed => ⟨(declared tag closed).1, fun on => (declared tag closed).2 (running_of_phase on)⟩, undeclared,
    .of_framed fun f => f.opening s p, .of_framed fun f => f.opening s p, others⟩
  · rw [history, period, none]
    exact ⟨rfl, rfl⟩
  · rw [history, period, found, historyAt_of_past past]
    exact ⟨rfl, rfl⟩
  · obtain ⟨now, top, shifted⟩ := historyAt_of_later (h := (s.trailer p).door.history) later
    rw [history, period, found, now]
    exact ⟨rfl, top, shifted⟩

end Sys2Proof.Machine


/-! # The walk of a queue (R82, R84, R85)

The statement O56. -/

namespace Sys2Proof.Machine

/-! ## Which entries a walk grants -/

/-- An entry with grants behind it added to its pass count. -/
def Request.passed (r : Request) (n : Nat) : Request := { r with passes := r.passes + n }

/-- How many entries of a list a walk granted. -/
def grantedIn (granted l : List Request) : Nat := (l.filter fun x => decide (x ∈ granted)).length

/-- The loads that a walk granted of a list. -/
def loadOf (granted l : List Request) : Nat := ((l.filter fun x => decide (x ∈ granted)).map (·.load)).sum

section
variable {g : List Request} {x : Request} {l : List Request}

theorem grantedIn_cons_of_mem (h : x ∈ g) : grantedIn g (x :: l) = grantedIn g l + 1 := by
  unfold grantedIn
  rw [List.filter_cons_of_pos (by simpa using h), List.length_cons]

theorem grantedIn_cons_of_not_mem (h : x ∉ g) : grantedIn g (x :: l) = grantedIn g l := by
  unfold grantedIn
  rw [List.filter_cons_of_neg (by simpa using h)]

theorem loadOf_cons_of_mem (h : x ∈ g) : loadOf g (x :: l) = x.load + loadOf g l := by
  unfold loadOf
  rw [List.filter_cons_of_pos (by simpa using h), List.map_cons, List.sum_cons]

theorem loadOf_cons_of_not_mem (h : x ∉ g) : loadOf g (x :: l) = loadOf g l := by
  unfold loadOf
  rw [List.filter_cons_of_neg (by simpa using h)]

/-- A grant elsewhere does not count. -/
theorem filter_cons_granted (h : x ∉ l) : l.filter (fun y => decide (y ∈ x :: g)) = l.filter fun y => decide (y ∈ g) := by
  refine List.filter_congr fun y hy => ?_
  have other : y ≠ x := fun e => h (e ▸ hy)
  simp [other]

theorem grantedIn_cons_granted (h : x ∉ l) : grantedIn (x :: g) l = grantedIn g l := by
  unfold grantedIn
  rw [filter_cons_granted h]

theorem loadOf_cons_granted (h : x ∉ l) : loadOf (x :: g) l = loadOf g l := by
  unfold loadOf
  rw [filter_cons_granted h]

theorem grantedIn_nil (l : List Request) : grantedIn [] l = 0 := by simp [grantedIn]

end

/-- Whether a walk that reaches an entry after others grants it: eligible, its load fits, and no entry left in place before
it has ended the walk. -/
structure Due (capacity : Option Nat) (eligible : Request → Bool) (committed : Nat) (left : List (Request × Bool))
    (granted before : List Request) (e : Request) : Prop where
  elig : eligible e = true
  fits : ∀ c, capacity = some c → committed + loadOf granted before + e.load ≤ c
  open' : ∀ a x mid, before = a ++ x :: mid → eligible x = true → x ∉ granted → x.passes + grantedIn granted mid < 3
  waiting : ∀ y ∈ left, y.2 = true → y.1.passes + grantedIn granted before < 3

/-- What a walk grants of the entries not yet examined, and what becomes of the others. -/
structure WalksExactly (capacity : Option Nat) (eligible : Request → Bool) (committed : Nat) (left : List (Request × Bool))
    (rest : List Request) (w : List Request × List Request) : Prop where
  grants : ∀ before e after, rest = before ++ e :: after →
    (e ∈ w.1 ↔ Due capacity eligible committed left w.1 before e)
  stays : ∀ before e after, rest = before ++ e :: after → e ∉ w.1 →
    e.passed (if eligible e then grantedIn w.1 after else 0) ∈ w.2
  waits : ∀ y ∈ left, y.1.passed (if y.2 then grantedIn w.1 rest else 0) ∈ w.2

theorem fits_iff {capacity : Option Nat} {committed load : Nat} :
    fits capacity committed load = true ↔ ∀ c, capacity = some c → committed + load ≤ c := by
  unfold fits
  cases capacity <;> simp

theorem passed_zero (r : Request) : r.passed 0 = r := rfl

section
variable {capacity : Option Nat} {eligible : Request → Bool} {committed : Nat} {left : List (Request × Bool)}
  {h : Request} {t : List Request} {w : List Request × List Request}

/-- The first entry of a decomposition is the head, or the head stands before it. -/
theorem cons_eq_append {x : Request} {before after : List Request} (e : h :: t = before ++ x :: after) :
    (before = [] ∧ h = x ∧ t = after) ∨ ∃ b, before = h :: b ∧ t = b ++ x :: after := by
  cases before with
  | nil =>
    obtain ⟨rfl, rfl⟩ := List.cons_eq_cons.mp e
    exact .inl ⟨rfl, rfl, rfl⟩
  | cons y b =>
    obtain ⟨rfl, rfl⟩ := List.cons_eq_cons.mp e
    exact .inr ⟨b, rfl, rfl⟩

/-- An entry left in place goes before the rest of the walk. -/
theorem WalksExactly.of_left {b : Bool} (ih : WalksExactly capacity eligible committed (left ++ [(h, b)]) t w)
    (marked : eligible h = b) (out : h ∉ w.1) (notFits : b = true → ¬ fits capacity committed h.load = true) :
    WalksExactly capacity eligible committed left (h :: t) w where
  grants before e after eq := by
    obtain ⟨rfl, rfl, rfl⟩ | ⟨before, rfl, tail⟩ := cons_eq_append eq
    · refine iff_of_false out fun due => ?_
      have yes : b = true := marked.symm.trans due.elig
      exact notFits yes (fits_iff.mpr due.fits)
    · rw [ih.grants before e after tail]
      constructor
      · rintro ⟨elig, fits, open', waiting⟩
        refine ⟨elig, ?_, fun a x mid eq' eligX outX => ?_, fun y hy on => ?_⟩
        · rw [loadOf_cons_of_not_mem out]
          exact fits
        · obtain ⟨rfl, rfl, rfl⟩ | ⟨a, rfl, eqB⟩ := cons_eq_append eq'
          · exact waiting (h, b) (by simp) (marked.symm.trans eligX)
          · exact open' a x mid eqB eligX outX
        · rw [grantedIn_cons_of_not_mem out]
          exact waiting y (List.mem_append_left _ hy) on
      · rintro ⟨elig, fits, open', waiting⟩
        refine ⟨elig, ?_, fun a x mid eq' => open' (h :: a) x mid (by rw [eq']; rfl), fun y hy on => ?_⟩
        · rw [loadOf_cons_of_not_mem out] at fits
          exact fits
        · obtain hy | hy := List.mem_append.mp hy
          · rw [← grantedIn_cons_of_not_mem out]
            exact waiting y hy on
          · cases List.mem_singleton.mp hy
            exact open' [] h before rfl (marked.trans on) out
  stays before e after eq outE := by
    obtain ⟨rfl, rfl, rfl⟩ | ⟨before, rfl, tail⟩ := cons_eq_append eq
    · rw [marked]
      exact ih.waits (h, b) (by simp)
    · exact ih.stays before e after tail outE
  waits y hy := by
    rw [grantedIn_cons_of_not_mem out]
    exact ih.waits y (List.mem_append_left _ hy)

/-- A list of entries with no post twice: no entry twice. -/
theorem nodup_of_posts {l : List Request} (nodup : (l.map (·.post)).Nodup) : l.Nodup := List.Nodup.of_map _ nodup

theorem mem_bumpPassed {y : Request × Bool} (hy : y ∈ left) :
    ((if y.2 then y.1.passed 1 else y.1), y.2) ∈ bumpPassed left := by
  unfold bumpPassed
  refine List.mem_map.mpr ⟨y, hy, ?_⟩
  obtain ⟨r, b⟩ := y
  cases b <;> rfl

theorem of_mem_bumpPassed {z : Request × Bool} (hz : z ∈ bumpPassed left) :
    ∃ y ∈ left, z = ((if y.2 then y.1.passed 1 else y.1), y.2) := by
  unfold bumpPassed at hz
  obtain ⟨y, hy, rfl⟩ := List.mem_map.mp hz
  refine ⟨y, hy, ?_⟩
  obtain ⟨r, b⟩ := y
  cases b <;> rfl

/-- A granted entry goes before the rest of the walk. -/
theorem WalksExactly.of_granted
    (ih : WalksExactly capacity eligible (committed + h.load) (bumpPassed left) t w) (apart : h ∉ t)
    (due : Due capacity eligible committed left (h :: w.1) [] h) :
    WalksExactly capacity eligible committed left (h :: t) (h :: w.1, w.2) where
  grants before e after eq := by
    obtain ⟨rfl, rfl, rfl⟩ | ⟨before, rfl, tail⟩ := cons_eq_append eq
    · exact iff_of_true List.mem_cons_self due
    · have out : h ∉ before := fun m => apart (tail ▸ List.mem_append_left _ m)
      have other : e ≠ h := fun m => apart (by rw [tail, m]; simp)
      have inside : h ∈ h :: w.1 := List.mem_cons_self
      have count : grantedIn (h :: w.1) (h :: before) = grantedIn w.1 before + 1 := by
        rw [grantedIn_cons_of_mem inside, grantedIn_cons_granted out]
      have load : loadOf (h :: w.1) (h :: before) = h.load + loadOf w.1 before := by
        rw [loadOf_cons_of_mem inside, loadOf_cons_granted out]
      have mem : e ∈ h :: w.1 ↔ e ∈ w.1 := by simp [other]
      rw [mem, ih.grants before e after tail]
      constructor
      · rintro ⟨elig, fits, open', waiting⟩
        refine ⟨elig, fun c hc => ?_, fun a x mid eq' eligX outX => ?_, fun y hy on => ?_⟩
        · have := fits c hc
          rw [load]
          omega
        · obtain ⟨rfl, rfl, rfl⟩ | ⟨a, rfl, eqB⟩ := cons_eq_append eq'
          · exact absurd inside outX
          · rw [grantedIn_cons_granted fun m => out (by rw [eqB]; simp [m])]
            exact open' a x mid eqB eligX fun m => outX (List.mem_cons_of_mem _ m)
        · have less := waiting _ (mem_bumpPassed hy) on
          rw [on, if_pos rfl] at less
          unfold Request.passed at less
          dsimp only at less
          rw [count]
          omega
      · rintro ⟨elig, fits, open', waiting⟩
        refine ⟨elig, fun c hc => ?_, fun a x mid eq' eligX outX => ?_, fun z hz on => ?_⟩
        · have := fits c hc
          rw [load] at this
          omega
        · have otherX : x ≠ h := fun m => out (by rw [eq', m]; simp)
          have less := open' (h :: a) x mid (by rw [eq']; rfl) eligX (by simp [otherX, outX])
          rw [grantedIn_cons_granted fun m => out (by rw [eq']; simp [m])] at less
          exact less
        · obtain ⟨y, hy, rfl⟩ := of_mem_bumpPassed hz
          have less := waiting y hy on
          rw [count] at less
          dsimp only at on ⊢
          rw [on, if_pos rfl]
          unfold Request.passed
          dsimp only
          omega
  stays before e after eq outE := by
    obtain ⟨rfl, rfl, rfl⟩ | ⟨before, rfl, tail⟩ := cons_eq_append eq
    · exact absurd List.mem_cons_self outE
    · rw [grantedIn_cons_granted fun m => apart (by rw [tail]; simp [m])]
      exact ih.stays before e after tail fun m => outE (List.mem_cons_of_mem _ m)
  waits y hy := by
    have waits := ih.waits _ (mem_bumpPassed hy)
    rw [grantedIn_cons_of_mem List.mem_cons_self, grantedIn_cons_granted apart]
    obtain ⟨r, b⟩ := y
    cases b with
    | false => exact waits
    | true =>
      have sum : (r.passed 1).passed (grantedIn w.1 t) = r.passed (grantedIn w.1 t + 1) := by
        unfold Request.passed
        rw [Nat.add_assoc, Nat.add_comm 1]
      exact sum ▸ waits

theorem reachedThree_iff {l : List (Request × Bool)} :
    reachedThree l = true ↔ ∃ y ∈ l, y.2 = true ∧ 3 ≤ y.1.passes := by
  unfold reachedThree
  simp

/-- A walk that ends at an eligible entry passed over 3 times already. -/
theorem walksExactly_of_blocked (elig : eligible h = true) (notFits : ¬ fits capacity committed h.load = true)
    (many : 3 ≤ h.passes) :
    WalksExactly capacity eligible committed left (h :: t) ([], left.map (·.1) ++ h :: t) where
  grants before e after eq := by
    refine iff_of_false List.not_mem_nil fun due => ?_
    obtain ⟨rfl, rfl, rfl⟩ | ⟨before, rfl, tail⟩ := cons_eq_append eq
    · exact notFits (fits_iff.mpr due.fits)
    · have less := due.open' [] h before rfl elig List.not_mem_nil
      omega
  stays before e after eq _ := by
    rw [grantedIn_nil, ite_self, passed_zero, eq]
    simp
  waits y hy := by
    rw [grantedIn_nil, ite_self, passed_zero]
    exact List.mem_append_left _ (List.mem_map_of_mem hy)

/-- A walk that a grant ends, as it brings an entry's pass count to 3. -/
theorem walksExactly_of_three (apart : h ∉ t) (three : ∃ z ∈ bumpPassed left, z.2 = true ∧ 3 ≤ z.1.passes)
    (due : Due capacity eligible committed left [h] [] h) :
    WalksExactly capacity eligible committed left (h :: t) ([h], (bumpPassed left).map (·.1) ++ t) where
  grants before e after eq := by
    obtain ⟨rfl, rfl, rfl⟩ | ⟨before, rfl, tail⟩ := cons_eq_append eq
    · exact iff_of_true List.mem_cons_self due
    · have other : e ≠ h := fun m => apart (by rw [tail, m]; simp)
      refine iff_of_false (by simp [other]) fun due => ?_
      obtain ⟨z, hz, on, high⟩ := three
      obtain ⟨y, hy, rfl⟩ := of_mem_bumpPassed hz
      have less := due.waiting y hy on
      rw [grantedIn_cons_of_mem List.mem_cons_self] at less
      dsimp only at on high
      rw [on, if_pos rfl] at high
      unfold Request.passed at high
      dsimp only at high
      omega
  stays before e after eq outE := by
    obtain ⟨rfl, rfl, rfl⟩ | ⟨before, rfl, tail⟩ := cons_eq_append eq
    · exact absurd List.mem_cons_self outE
    · rw [grantedIn_cons_granted fun m => apart (by rw [tail]; simp [m]), grantedIn_nil, ite_self, passed_zero]
      exact List.mem_append_right _ (by rw [tail]; simp)
  waits y hy := by
    have bumped := List.mem_map_of_mem (f := Prod.fst) (mem_bumpPassed hy)
    rw [grantedIn_cons_of_mem List.mem_cons_self, grantedIn_cons_granted apart, grantedIn_nil]
    refine List.mem_append_left _ ?_
    obtain ⟨r, b⟩ := y
    cases b <;> exact bumped

/-- A walk over distinct entries, none passed over 3 times already, grants and leaves exactly what is due. -/
theorem walkFrom_exact (capacity : Option Nat) (eligible : Request → Bool) (committed : Nat)
    (left : List (Request × Bool)) {rest : List Request} (nodup : rest.Nodup)
    (low : ∀ y ∈ left, y.2 = true → y.1.passes < 3) :
    WalksExactly capacity eligible committed left rest (walkFrom capacity eligible committed left rest) := by
  induction rest generalizing committed left with
  | nil =>
    refine ⟨fun before e after eq => by simp at eq, fun before e after eq => by simp at eq, fun y hy => ?_⟩
    unfold walkFrom
    rw [grantedIn_nil, ite_self, passed_zero]
    exact List.mem_map_of_mem hy
  | cons h t ih =>
    obtain ⟨apart, nodup⟩ := List.nodup_cons.mp nodup
    have subset (committed : Nat) (left : List (Request × Bool)) : h ∉ (walkFrom capacity eligible committed left t).1 :=
      fun m => apart ((walkFrom_divides capacity eligible committed left t).granted.subset m)
    have lowWith {b : Bool} (hb : b = true → h.passes < 3) : ∀ y ∈ left ++ [(h, b)], y.2 = true → y.1.passes < 3 := by
      intro y hy on
      obtain hy | hy := List.mem_append.mp hy
      · exact low y hy on
      · cases List.mem_singleton.mp hy
        exact hb on
    unfold walkFrom
    cases elig : eligible h with
    | false =>
      rw [Bool.not_false, if_pos rfl]
      exact (ih committed _ nodup (lowWith (b := false) nofun)).of_left elig (subset _ _) nofun
    | true =>
      rw [Bool.not_true, if_neg Bool.false_ne_true]
      split
      · rename_i fit
        dsimp only
        have due (g : List Request) : Due capacity eligible committed left (h :: g) [] h :=
          ⟨elig, fits_iff.mp fit, fun a x mid eq => by simp at eq, low⟩
        split
        · rename_i three
          exact walksExactly_of_three apart (reachedThree_iff.mp three) (due _)
        · rename_i notThree
          refine (ih (committed + h.load) _ nodup fun z hz on => ?_).of_granted apart (due _)
          by_contra high
          exact notThree (reachedThree_iff.mpr ⟨z, hz, on, not_lt.mp high⟩)
      · rename_i notFits
        split
        · rename_i few
          exact (ih committed _ nodup (lowWith fun _ => few)).of_left elig (subset _ _) fun _ => notFits
        · rename_i many
          exact walksExactly_of_blocked elig notFits (not_lt.mp many)

/-- The grants of a walk keep within the capacity (R84). -/
theorem walkFrom_within (eligible : Request → Bool) (c committed : Nat) (left : List (Request × Bool))
    (rest : List Request) (any : (walkFrom (some c) eligible committed left rest).1 ≠ []) :
    committed + ((walkFrom (some c) eligible committed left rest).1.map (·.load)).sum ≤ c := by
  induction rest generalizing committed left with
  | nil => exact absurd rfl any
  | cons h t ih =>
    unfold walkFrom at any ⊢
    split at any <;> rename_i elig
    · rw [if_pos elig]
      exact ih _ _ any
    · rw [if_neg elig]
      split at any <;> rename_i fit
      · have room := fits_iff.mp fit c rfl
        rw [if_pos fit]
        dsimp only
        split
        · simpa using room
        · dsimp only
          rw [List.map_cons, List.sum_cons, ← Nat.add_assoc]
          by_cases none : (walkFrom (.some c) eligible (committed + h.load) (bumpPassed left) t).1 = []
          · rw [none]
            exact room
          · exact ih _ _ none
      · rw [if_neg fit]
        split at any <;> rename_i few
        · rw [if_pos few]
          exact ih _ _ any
        · exact absurd rfl any

/-- Every entry of a list is one of another, its pass count no lower. -/
def Covers (base l : List Request) : Prop := ∀ r ∈ l, ∃ r₀ ∈ base, r₀.post = r.post ∧ r₀.passes ≤ r.passes

theorem Covers.of_subset {base l : List Request} (h : l ⊆ base) : Covers base l := fun r hr => ⟨r, h hr, rfl, le_rfl⟩

theorem Covers.trans {a b c : List Request} (h : Covers a b) (k : Covers b c) : Covers a c := fun r hr =>
  have ⟨x, hx, post, less⟩ := k r hr
  have ⟨y, hy, post', less'⟩ := h x hx
  ⟨y, hy, post'.trans post, less'.trans less⟩

theorem Covers.append {a b c d : List Request} (h : Covers a b) (k : Covers c d) : Covers (a ++ c) (b ++ d) := fun r hr =>
  (List.mem_append.mp hr).elim
    (fun m => have ⟨x, hx, e⟩ := h r m; ⟨x, List.mem_append_left _ hx, e⟩)
    fun m => have ⟨x, hx, e⟩ := k r m; ⟨x, List.mem_append_right _ hx, e⟩

theorem covers_bumpPassed (left : List (Request × Bool)) : Covers (left.map (·.1)) ((bumpPassed left).map (·.1)) := by
  intro r hr
  obtain ⟨z, hz, rfl⟩ := List.mem_map.mp hr
  obtain ⟨y, hy, rfl⟩ := of_mem_bumpPassed hz
  refine ⟨y.1, List.mem_map_of_mem hy, ?_⟩
  dsimp only
  split
  · exact ⟨rfl, Nat.le_succ _⟩
  · exact ⟨rfl, le_rfl⟩

/-- An entry that stays is one that stood, its pass count no lower. -/
theorem walkFrom_covers (capacity : Option Nat) (eligible : Request → Bool) (committed : Nat) (left : List (Request × Bool))
    (rest : List Request) : Covers (left.map (·.1) ++ rest) (walkFrom capacity eligible committed left rest).2 := by
  induction rest generalizing committed left with
  | nil =>
    rw [List.append_nil]
    exact .of_subset fun _ => id
  | cons h t ih =>
    have with' (b : Bool) : (left ++ [(h, b)]).map (·.1) ++ t = left.map (·.1) ++ h :: t := by simp
    have tail : Covers (h :: t) t := .of_subset fun _ => List.mem_cons_of_mem h
    unfold walkFrom
    split
    · exact with' false ▸ ih committed _
    · split
      · dsimp only
        split
        · exact (covers_bumpPassed left).append tail
        · exact ((covers_bumpPassed left).append tail).trans (ih _ _)
      · split
        · exact with' true ▸ ih committed _
        · exact .of_subset fun _ => id

/-- Pass counts of at most 3 stay so: a walk ends as one reaches 3 (R85). -/
theorem walkFrom_passes (capacity : Option Nat) (eligible : Request → Bool) (committed : Nat) (left : List (Request × Bool))
    {rest : List Request} (low : ∀ y ∈ left, y.1.passes ≤ 3 ∧ (y.2 = true → y.1.passes < 3)) (high : ∀ r ∈ rest, r.passes ≤ 3) :
    ∀ r ∈ (walkFrom capacity eligible committed left rest).2, r.passes ≤ 3 := by
  have firsts : ∀ r ∈ left.map (·.1), r.passes ≤ 3 := fun r hr => by
    obtain ⟨y, hy, rfl⟩ := List.mem_map.mp hr
    exact (low y hy).1
  induction rest generalizing committed left with
  | nil => exact firsts
  | cons h t ih =>
    obtain ⟨head, tail⟩ := List.forall_mem_cons.mp high
    have again (committed : Nat) (left : List (Request × Bool))
        (low : ∀ y ∈ left, y.1.passes ≤ 3 ∧ (y.2 = true → y.1.passes < 3)) :=
      ih committed left low tail fun r hr => by
        obtain ⟨y, hy, rfl⟩ := List.mem_map.mp hr
        exact (low y hy).1
    have bumped : ∀ z ∈ bumpPassed left, z.1.passes ≤ 3 := fun z hz => by
      obtain ⟨⟨r, b⟩, hy, rfl⟩ := of_mem_bumpPassed hz
      obtain ⟨le, less⟩ := low _ hy
      cases b with
      | false => exact le
      | true => exact less rfl
    unfold walkFrom
    split
    · refine again committed _ fun y hy => ?_
      obtain hy | hy := List.mem_append.mp hy
      · exact low y hy
      · cases List.mem_singleton.mp hy
        exact ⟨head, nofun⟩
    · split
      · dsimp only
        split
        · intro r hr
          obtain hr | hr := List.mem_append.mp hr
          · obtain ⟨z, hz, rfl⟩ := List.mem_map.mp hr
            exact bumped z hz
          · exact tail r hr
        · rename_i notThree
          refine again _ _ fun z hz => ⟨bumped z hz, fun on => ?_⟩
          by_contra reached
          exact notThree (reachedThree_iff.mpr ⟨z, hz, on, not_lt.mp reached⟩)
      · split
        · rename_i few
          refine again committed _ fun y hy => ?_
          obtain hy | hy := List.mem_append.mp hy
          · exact low y hy
          · cases List.mem_singleton.mp hy
            exact ⟨head, fun _ => few⟩
        · intro r hr
          obtain hr | hr := List.mem_append.mp hr
          · exact firsts r hr
          · exact high r hr

/-- A granted entry is eligible. -/
theorem eligible_of_walkFrom (capacity : Option Nat) (eligible : Request → Bool) (committed : Nat)
    (left : List (Request × Bool)) (rest : List Request) :
    ∀ r ∈ (walkFrom capacity eligible committed left rest).1, eligible r = true := by
  induction rest generalizing committed left with
  | nil => nofun
  | cons h t ih =>
    unfold walkFrom
    split
    · exact ih _ _
    · rename_i elig
      have yes : eligible h = true := by simpa using elig
      split
      · dsimp only
        split
        · exact fun r hr => List.mem_singleton.mp hr ▸ yes
        · exact List.forall_mem_cons.mpr ⟨yes, ih _ _⟩
      · split
        · exact ih _ _
        · nofun

end

/-! ## The runs that a walk creates (R86, R93) -/

/-- What a run holds from its grant on. -/
def RunRecord.terms (r : RunRecord) : RequestClass × Queue × Nat × Time × Nat := (r.cls, r.queue, r.load, r.grantTime, r.f0)

theorem RunRecord.join_terms (r : RunRecord) (now : Time) (c : SuspCause) (n : Nat) : (r.join now c n).terms = r.terms := by
  unfold RunRecord.join
  dsimp only
  split
  · rfl
  · rfl
  · split <;> rfl
  · rfl

/-- Beside the records, the queues and the loads only the notices change. -/
def ArbiterAlone (s u : State) : Prop :=
  u = { s with
    records := u.records, queues := u.queues, committed := u.committed, stations := u.stations
    notices := u.notices, noticesLost := u.noticesLost, tx := u.tx }

theorem ArbiterAlone.refl (s : State) : ArbiterAlone s s := rfl

theorem ArbiterAlone.trans {s t u : State} (h : ArbiterAlone s t) (k : ArbiterAlone t u) : ArbiterAlone s u := by
  unfold ArbiterAlone at *
  refine k.trans ?_
  rw [h]

theorem arbiterAlone_editTrailer (s : State) (p : Post) (f : TrailerRecord → TrailerRecord) :
    ArbiterAlone s (s.editTrailer p f) := by
  unfold ArbiterAlone
  have changes := State.editTrailer_changes s p f
  generalize s.editTrailer p f = u at changes ⊢
  rw [changes]

theorem arbiterAlone_item (s : State) (p : Post) (b : ItemBody) : ArbiterAlone s (s.item p b) := by
  unfold ArbiterAlone
  have changes := State.item_changes s p b
  generalize s.item p b = u at changes ⊢
  rw [changes]
  rfl

theorem arbiterAlone_causeJoins (s : State) (p : Post) (c : SuspCause) (n : Nat) :
    ArbiterAlone s (s.causeJoins p c n) := by
  unfold State.causeJoins
  split
  · rfl
  · exact arbiterAlone_editTrailer s p _

/-- A run as its grant creates it, with its item. -/
structure StartsRun (q : Queue) (r : Request) (s t : State) : Prop where
  alone : ArbiterAlone s t
  run : ∃ y, t.run r.post = some y ∧ y.terms = (r.cls, q, r.load, s.now, (s.trailer r.post).f)
  gather : t.gather = (s.item r.post (.defrostStarted r.cls q r.load r.cls.firstState)).gather

theorem startsRun_createRun (s : State) (q : Queue) (r : Request) : StartsRun q r s (s.createRun q r) := by
  have joins {u : State} (h : StartsRun q r s u) (c : SuspCause) (n : Nat) :
      StartsRun q r s (u.causeJoins r.post c n) := by
    obtain ⟨y, run, terms⟩ := h.run
    refine ⟨h.alone.trans (arbiterAlone_causeJoins u _ c n), ⟨y.join u.now c n, ?_, (y.join_terms _ _ _).trans terms⟩,
      (appliesQuietly_causeJoins u r.post c n).gather.trans h.gather⟩
    unfold State.causeJoins
    rw [run]
    exact State.run_putRun_self u r.post _
  have started : StartsRun q r s ((s.putRun r.post (some (s.newRun q r))).item r.post
      (.defrostStarted r.cls q r.load r.cls.firstState)) := by
    refine ⟨(arbiterAlone_editTrailer s _ _).trans (arbiterAlone_item _ _ _), ⟨s.newRun q r, ?_, rfl⟩,
      State.gather_item_of (State.gather_editTrailer s _ _) _ _⟩
    rw [State.item_run]
    exact State.run_putRun_self s r.post _
  have doored (b : Prop) [Decidable b] {u : State} (h : StartsRun q r s u) :
      StartsRun q r s (if b then u.causeJoins r.post .door 0 else u) := by
    split
    · exact joins h _ _
    · exact h
  unfold State.createRun
  dsimp only
  split
  · exact joins (doored _ started) _ _
  · exact doored _ started

/-- The items of a queue's grants, in their order. -/
def State.grantItems (s : State) (q : Queue) (l : List Request) : State :=
  s.forEach l fun v r => v.item r.post (.defrostStarted r.cls q r.load r.cls.firstState)

theorem gather_grantItems {s t : State} (h : t.gather = s.gather) (q : Queue) (l : List Request) :
    (t.grantItems q l).gather = (s.grantItems q l).gather := by
  induction l generalizing s t with
  | nil => exact h
  | cons r l ih => exact ih (State.gather_item_of h _ _)

/-- What granting a list of entries leaves. -/
structure Grants (q : Queue) (l : List Request) (s u : State) : Prop where
  alone : ArbiterAlone s u
  queues : ∀ q', u.queue q' = s.queue q'
  load : u.load q = s.load q + (l.map (·.load)).sum
  loads : ∀ q', q' ≠ q → u.load q' = s.load q'
  runs : ∀ x ∈ l, ∃ y, u.run x.post = some y ∧ y.terms = (x.cls, q, x.load, s.now, (s.trailer x.post).f)
  bulk : ∀ p, (u.trailer p).bulk = (s.trailer p).bulk
  others : ∀ p, (∀ x ∈ l, x.post ≠ p) → u.trailer p = s.trailer p
  gather : u.gather = (s.grantItems q l).gather

theorem ArbiterAlone.now {s u : State} (h : ArbiterAlone s u) : u.now = s.now := by
  unfold ArbiterAlone at h
  rw [h]
  rfl

/-- A grant of one entry. -/
theorem grants_one (s : State) (q : Queue) (r : Request) : Grants q [r] s (s.grant q r) := by
  have creates := grant_creates s q r
  have starts := startsRun_createRun (s.putLoad q (s.load q + r.load)) q r
  refine ⟨ArbiterAlone.trans (t := s.putLoad q (s.load q + r.load)) rfl starts.alone, queue_grant s q r, ?_, fun q' hq => ?_,
    fun x hx => ?_, fun p => ?_, fun p hp => ?_, ?_⟩
  · rw [creates.arbiter.load, State.load_putLoad_self]
    simp
  · rw [creates.arbiter.load, State.load_putLoad_other _ _ _ _ hq]
  · cases List.mem_singleton.mp hx
    exact starts.run
  · by_cases hp : p = r.post
    · subst hp
      exact creates.bulk
    · rw [creates.others p hp]
      rfl
  · rw [creates.others p fun e => hp r List.mem_cons_self e.symm]
    rfl
  · refine starts.gather.trans ?_
    exact State.gather_item_of (s := s) (t := s.putLoad q (s.load q + r.load)) rfl _ _

theorem grants_list {l : List Request} (nodup : (l.map (·.post)).Nodup) (s : State) (q : Queue) :
    Grants q l s (s.forEach l fun s' r => s'.grant q r) := by
  induction l generalizing s with
  | nil => exact ⟨rfl, fun _ => rfl, rfl, fun _ _ => rfl, nofun, fun _ => rfl, fun _ _ => rfl, rfl⟩
  | cons r l ih =>
    obtain ⟨apart, nodup⟩ := List.nodup_cons.mp nodup
    have one := grants_one s q r
    have rest := ih nodup (s.grant q r)
    have step : s.forEach (r :: l) (fun s' r => s'.grant q r) = (s.grant q r).forEach l fun s' r => s'.grant q r := rfl
    rw [step]
    generalize s.grant q r = t at *
    generalize (t.forEach l fun s' r => s'.grant q r) = u at *
    have away : ∀ x ∈ l, x.post ≠ r.post := fun x hx e => apart (List.mem_map.mpr ⟨x, hx, e⟩)
    refine ⟨one.alone.trans rest.alone, fun q' => (rest.queues q').trans (one.queues q'), ?_,
      fun q' hq => (rest.loads q' hq).trans (one.loads q' hq), fun x hx => ?_, fun p => (rest.bulk p).trans (one.bulk p),
      fun p hp => ?_, ?_⟩
    · rw [rest.load, one.load]
      simp [Nat.add_assoc]
    · obtain hx | hx := List.mem_cons.mp hx
      · subst hx
        unfold State.run
        rw [rest.others x.post away]
        exact one.runs x List.mem_cons_self
      · obtain ⟨y, run, terms⟩ := rest.runs x hx
        refine ⟨y, run, ?_⟩
        rw [terms, one.alone.now, one.others x.post fun z hz => List.mem_singleton.mp hz ▸ (away x hx).symm]
    · rw [rest.others p fun x hx => hp x (List.mem_cons_of_mem _ hx),
        one.others p fun x hx => List.mem_singleton.mp hx ▸ hp r List.mem_cons_self]
    · refine rest.gather.trans ?_
      exact gather_grantItems one.gather q l

/-- What a walk of a queue leaves: the entries that stay, and the grants. -/
structure Walks (q : Queue) (s u : State) : Prop where
  alone : ArbiterAlone s u
  queue : u.queue q = (s.walked q).2
  queues : ∀ q', q' ≠ q → u.queue q' = s.queue q'
  load : u.load q = s.load q + ((s.walked q).1.map (·.load)).sum
  loads : ∀ q', q' ≠ q → u.load q' = s.load q'
  runs : ∀ x ∈ (s.walked q).1, ∃ y, u.run x.post = some y ∧
    y.terms = (x.cls, q, x.load, s.now, (s.trailer x.post).f)
  bulk : ∀ p, (u.trailer p).bulk = (s.trailer p).bulk
  others : ∀ p, (∀ x ∈ (s.walked q).1, x.post ≠ p) → u.trailer p = s.trailer p
  gather : u.gather = (s.grantItems q (s.walked q).1).gather

theorem walks_walk {s : State} (running : s.running = true) {q : Queue} (nodup : ((s.queue q).map (·.post)).Nodup) :
    Walks q s (s.walk q) := by
  have granted : ((s.walked q).1.map (·.post)).Nodup := ((s.walked_divides q).granted.map _).nodup nodup
  obtain ⟨alone, queues, load, loads, runs, bulk, others, gather⟩ := grants_list granted (s.putQueue q (s.walked q).2) q
  rw [State.walk_of_running running]
  refine ⟨ArbiterAlone.trans (t := s.putQueue q (s.walked q).2) rfl alone, ?_, fun q' hq => ?_, load, loads, runs, bulk, others,
    gather.trans (gather_grantItems (by rfl) q _)⟩
  · rw [queues, State.queue_putQueue_self]
  · rw [queues, State.queue_putQueue_other _ _ _ _ hq]

/-! ## The walk of each queue -/

theorem ineligible_eq_none_iff {s : State} {q : Queue} {p : Post} {pr : Profile} (h : s.profileOf (s.trailer p) = some pr) :
    s.ineligible q p = none ↔
      (s.line (postLine p)).state = .up ∧ (s.entry p).map (·.state) = some .live ∧
        (q.val = 8 → pr.sender = true → 20 ≤ (s.trailer p).fuel.hours) := by
  have bay : q = Queue.engineBay ↔ q.val = 8 := by
    rw [Fin.ext_iff]
    rfl
  have fuel : s.fuelForDefrost p = true ↔ (pr.sender = true → 20 ≤ (s.trailer p).fuel.hours) := by
    unfold State.fuelForDefrost
    rw [h]
    have hours : Config.engineBayHours = 20 := rfl
    rw [hours]
    dsimp only
    cases pr.sender <;> simp
  have up : s.lineUp p = true ↔ (s.line (postLine p)).state = .up := by
    unfold State.lineUp
    exact decide_eq_true_iff
  unfold State.ineligible
  rw [← up, ← bay, ← fuel]
  by_cases hup : s.lineUp p = true
  · by_cases live : (s.entry p).map (·.state) = some .live
    · by_cases hq : q = Queue.engineBay <;> simp [hup, live, hq]
    · simp [hup, live]
  · simp [hup]

/-- Settles O56: the walk as a division of the queue by what is due, and each queue walked so. -/
theorem walkGrantsWithinCapacity : Obligations.WalkGrantsWithinCapacity := by
  refine ⟨fun s q => ⟨fun f hf => ?_, fun hq => ?_, fun p pr h => ineligible_eq_none_iff h, fun off => ?_,
    fun phase law => ?_⟩, fun capacity eligible committed queue => ?_⟩
  · unfold State.capacityOf
    rw [dif_pos (hf ▸ f.isLt)]
    congr 2
    exact Fin.ext hf
  · exact dif_neg (by omega)
  · exact State.walk_of_not_running (decide_eq_false off) q
  · dsimp only
    obtain ⟨alone, queue, queues, load, loads, runs, bulk, others, -⟩ :=
      walks_walk (running_of_phase phase) (law.onePerQueue q)
    refine ⟨queue, load, fun x hx => ?_, fun q' hq => ⟨queues q' hq, loads q' hq⟩, others, alone,
      (OutsideSame.of_framed fun f => f.walk s q).tx⟩
    obtain ⟨y, run, terms⟩ := runs x hx
    have same : ((s.walk q).trailer x.post).bulk.f = (s.trailer x.post).bulk.f := by rw [bulk]
    simp only [RunRecord.terms, Prod.mk.injEq] at terms
    obtain ⟨cls, queue, load, grant, f0⟩ := terms
    exact ⟨y, run, cls, load, queue, grant, f0, same⟩
  · have divides := walkFrom_divides capacity eligible committed [] queue
    have covers := walkFrom_covers capacity eligible committed [] queue
    have passes (high : ∀ r ∈ queue, r.passes ≤ 3) := walkFrom_passes capacity eligible committed [] nofun high
    have within (c : Nat) (hc : capacity = some c) := walkFrom_within eligible c committed [] queue
    have elig := eligible_of_walkFrom capacity eligible committed [] queue
    have exact' (nodup : queue.Nodup) := walkFrom_exact capacity eligible committed [] nodup nofun
    refine ⟨_, _, rfl, ?_, fun r hr => ⟨divides.granted.subset hr, elig r hr⟩, fun c hc any => ?_, divides.granted, divides.left,
      passes, covers, fun nodup high before e after eq => ?_⟩
    · have keys := divides.all.map Prod.fst
      rw [← map_post_of_key, ← map_post_of_key] at keys
      exact keys
    · subst hc
      exact within c rfl any
    · obtain ⟨grants, stays, -⟩ := exact' (nodup_of_posts nodup)
      refine ⟨(grants before e after eq).trans ⟨fun due => ⟨due.elig, due.fits, due.open'⟩, fun ⟨a, b, c⟩ => ⟨a, b, c, nofun⟩⟩,
        stays before e after eq⟩

end Sys2Proof.Machine


/-! # A departure, and a request of the host (R30, R47, R87)

The statements O21 and O23. -/

namespace Sys2Proof.Machine

/-! ## A departure (R30) -/

/-- The end of a run before its walk: its item, and the queues as they stood. -/
theorem gather_releaseRun (s : State) (p : Post) (r : RunRecord) (o : RunOutcome) (b : Bool) :
    (s.releaseRun p r o b).gather
      = (s.item p (.defrostEnded o r.f0 (r.heatingAt s.now) (r.suspendedAt s.now) b)).gather := by
  unfold State.releaseRun
  dsimp only
  refine (State.gather_editTrailer _ p _).trans (State.gather_item_of ?_ p _)
  exact State.gather_editTrailer s p _

theorem arbiterAlone_releaseRun (s : State) (p : Post) (r : RunRecord) (o : RunOutcome) (b : Bool) :
    ArbiterAlone s (s.releaseRun p r o b) := by
  unfold State.releaseRun
  dsimp only
  have settled := arbiterAlone_editTrailer s p fun t => t.settleRun o r.f0 s.now
  generalize s.editTrailer p (fun t => t.settleRun o r.f0 s.now) = u at settled ⊢
  have released : ArbiterAlone u (u.putLoad r.queue (u.load r.queue - r.load)) := rfl
  exact (settled.trans released).trans ((arbiterAlone_item _ p _).trans (arbiterAlone_editTrailer _ p _))

theorem arbiterAlone_grants (q : Queue) (l : List Request) (s : State) :
    ArbiterAlone s (s.forEach l fun s' r => s'.grant q r) := by
  induction l generalizing s with
  | nil => rfl
  | cons r l ih => exact (grants_one s q r).alone.trans (ih _)

theorem arbiterAlone_walk (s : State) (q : Queue) : ArbiterAlone s (s.walk q) := by
  cases running : s.running with
  | false => rw [State.walk_of_not_running running]; rfl
  | true =>
    rw [State.walk_of_running running]
    exact ArbiterAlone.trans (t := s.putQueue q (s.walked q).2) rfl (arbiterAlone_grants q _ _)

theorem ArbiterAlone.frames {s u : State} (h : ArbiterAlone s u) : u.frames = s.frames := by
  unfold ArbiterAlone at h
  rw [h]
  rfl

theorem ArbiterAlone.actions {s u : State} (h : ArbiterAlone s u) : u.actions = s.actions := by
  unfold ArbiterAlone at h
  rw [h]

theorem ArbiterAlone.running {s u : State} (h : ArbiterAlone s u) : u.running = s.running := by
  unfold ArbiterAlone at h
  rw [h]
  rfl

/-- The items that an ended run and the grants of the load it set free produce, of the entries that stood. -/
inductive EndItems (p : Post) (o : RunOutcome) (b : Bool) (s u : State) : Prop
  | none (run : s.run p = none) (gather : u.gather = s.gather)
  | some (x : RunRecord) (granted : List Request) (run : s.run p = some x) (stood : ∀ r ∈ granted, r ∈ s.queue x.queue)
      (gather : u.gather = ((s.item p (.defrostEnded o x.f0 (x.heatingAt s.now) (x.suspendedAt s.now) b)).grantItems
        x.queue granted).gather)

theorem EndItems.of_gather {p : Post} {o : RunOutcome} {b : Bool} {s t u : State} (h : EndItems p o b s t)
    (e : u.gather = t.gather) : EndItems p o b s u := by
  cases h with
  | none run gather => exact .none run (e.trans gather)
  | some x granted run stood gather => exact .some x granted run stood (e.trans gather)

/-- What the end of a run leaves, its arbiter's walk among it. -/
structure EndsRun (p : Post) (o : RunOutcome) (b : Bool) (s u : State) : Prop where
  alone : ArbiterAlone s u
  items : EndItems p o b s u

theorem endsRun_endRun {s : State} (law : s.GrantLaw) (running : s.running = true) (p : Post) (o : RunOutcome) (b : Bool) :
    EndsRun p o b s (s.endRun p o b) := by
  cases hr : s.run p with
  | none =>
    rw [State.endRun_of_none hr]
    exact ⟨rfl, .none hr rfl⟩
  | some r =>
    have releases := releaseRun_releases s p r o b
    have alone := arbiterAlone_releaseRun s p r o b
    have gather := gather_releaseRun s p r o b
    rw [State.endRun_of_run hr]
    generalize s.releaseRun p r o b = u at *
    have queue := releases.queue r.queue
    have walks := walks_walk (alone.running.trans running) (q := r.queue) (queue.symm ▸ law.onePerQueue r.queue)
    refine ⟨alone.trans walks.alone, .some r _ hr (fun x hx => ?_) (walks.gather.trans (gather_grantItems gather _ _))⟩
    exact queue ▸ (u.walked_divides r.queue).granted.subset hx

theorem inForce_withdrawAction (s : State) (p : Post) (a b : Action) (h : ((s.inForce p).of b) = none) :
    ((s.withdrawAction p a).inForce p).of b = none := by
  have ended : ((s.putInForce p ((s.inForce p).put a none)).inForce p).of b = none := by
    rw [State.inForce_putInForce_self]
    cases a <;> cases b <;> simp_all [ActionsInForce.put, ActionsInForce.of]
  unfold State.withdrawAction
  split
  · dsimp only
    split
    · exact ended
    · exact ended
    · exact ended
    · rw [State.causeLeaves_changes]
      exact ended
  · exact h

theorem inForce_withdrawActions (s : State) (p : Post) : (s.withdrawActions p).inForce p = .none := by
  have beacon := of_withdrawAction s p .beacon
  have beacon' := inForce_withdrawAction _ p .inhibitDefrost _ (inForce_withdrawAction _ p .cutHeater _ beacon)
  have cut := inForce_withdrawAction _ p .inhibitDefrost _ (of_withdrawAction (s.withdrawAction p .beacon) p .cutHeater)
  have inhibit := of_withdrawAction ((s.withdrawAction p .beacon).withdrawAction p .cutHeater) p .inhibitDefrost
  have unfolded : s.withdrawActions p
      = ((s.withdrawAction p .beacon).withdrawAction p .cutHeater).withdrawAction p .inhibitDefrost := rfl
  rw [unfolded]
  generalize (((s.withdrawAction p .beacon).withdrawAction p .cutHeater).withdrawAction p .inhibitDefrost).inForce p = a at *
  obtain ⟨x, y, z⟩ := a
  cases beacon'
  cases cut
  cases inhibit
  rfl

theorem frames_of_withdraws {p : Post} {s t : State} (h : Withdraws p s t) : t.frames = s.frames := by
  have e : t.shelf.frames = s.shelf.frames := by rw [h.shelf]
  exact e

theorem frames_withdrawActions (s : State) (p : Post) : (s.withdrawActions p).frames = s.frames :=
  (frames_of_withdraws (withdraws_withdrawAction _ p .inhibitDefrost)).trans
    ((frames_of_withdraws (withdraws_withdrawAction _ p .cutHeater)).trans
      (frames_of_withdraws (withdraws_withdrawAction s p .beacon)))

theorem gather_withdrawActions (s : State) (p : Post) : (s.withdrawActions p).gather = s.gather :=
  (State.gather_withdrawAction _ p .inhibitDefrost).trans
    ((State.gather_withdrawAction _ p .cutHeater).trans (State.gather_withdrawAction s p .beacon))

/-- What the emptying of both finding sets leaves. -/
structure EmptiesSets (p : Post) (s t : State) : Prop where
  gather : t.gather = s.gather
  frames : t.frames = s.frames
  inForce : t.inForce p = .none
  identity : SameIdentity s t

theorem emptiesSets_emptySets (s : State) (p : Post) : EmptiesSets p s (s.emptySets p) where
  gather := (gather_withdrawActions _ p).trans (State.gather_editTrailer s p _)
  frames := (frames_withdrawActions _ p).trans (frames_editTrailer s p _)
  inForce := inForce_withdrawActions _ p
  identity := identity_emptySets s p

/-- What a departure leaves (R30). -/
structure Departs (p : Post) (s u : State) : Prop where
  vacant : u.trailer p = .vacant
  inForce : u.inForce p = .none
  unfiled : u.Unfiled p
  vacated : Vacated p s u
  frames : u.frames = s.frames
  items : ∃ v, EndItems p (.aborted .departure) false s v ∧
    u.gather = (v.item p (.departed (s.trailer p).serial)).gather

theorem departs_depart {s : State} (law : s.GrantLaw) (running : s.running = true) (p : Post) :
    Departs p s (s.depart p) := by
  have vacated := vacated_depart s p
  have ends := endsRun_endRun law running p (.aborted .departure) false
  have cut := law.cutShort p .departure
  have same := identity_cutShort s p .departure
  have removed := appliesQuietly_removeRequest (s.endRun p (.aborted .departure) false) p
  have cutIs : (s.endRun p (.aborted .departure) false).removeRequest p = s.cutShort p .departure := rfl
  unfold State.depart at vacated ⊢
  rw [cutIs] at removed
  generalize s.cutShort p .departure = c at *
  have empties := emptiesSets_emptySets c p
  have keeps := keepsGrants_emptySets c p
  dsimp only at *
  generalize c.emptySets p = e at *
  have serial : (e.trailer p).serial = (s.trailer p).serial := (empties.identity.serial p).trans (same.serial p)
  rw [serial] at vacated ⊢
  have item := keepsGrants_item e p (.departed (s.trailer p).serial)
  have frames := frames_item e p (.departed (s.trailer p).serial)
  have actions := State.item_actions e p (.departed (s.trailer p).serial)
  have gather := State.gather_item_of (empties.gather.trans removed.gather) p (.departed (s.trailer p).serial)
  generalize e.item p (.departed (s.trailer p).serial) = i at *
  refine ⟨State.trailer_putTrailer_self _ p _, ?_, ?_, vacated, ?_, ⟨_, ends.items, gather⟩⟩
  · have same : i.inForce p = e.inForce p := congrArg (fun v : Vector ActionsInForce 240 => v.get p) actions
    exact same.trans empties.inForce
  · exact (cut.2.unfiled.shrinks keeps.shrinks).shrinks item.shrinks
  · exact frames.trans (empties.frames.trans (removed.frames.trans ends.alone.frames))

/-- Settles O21: the departure's parts, with the items of the run that it ends. -/
theorem releasePostDeparts : Obligations.ReleasePostDeparts := by
  intro tag b s ready law
  refine ⟨fun high => exec_of_refuses ready rfl rfl rfl (withPost_of_high high), fun p hp vacant => ?_, fun p hp present => ?_⟩
  · exact exec_of_refuses ready rfl rfl rfl ((withPost_of_val hp).trans (withTrailer_of_vacant vacant))
  · have departs := departs_depart law (running_of_phase ready.1) p
    obtain ⟨stack, next⟩ := stack_of_frames departs.frames
    obtain ⟨v, items, gather⟩ := departs.items
    refine ⟨_, exec_of_answers ready rfl rfl rfl ((withPost_of_val hp).trans (withTrailer_of_present present)), departs.vacant,
      departs.inForce, departs.unfiled, departs.vacated.directory, departs.vacated.others, fun none => ?_, fun x some => ?_,
      stack, next, .of_framed fun f => f.depart s p, .of_framed fun f => f.depart s p⟩
    · cases items with
      | none _ same => exact .of_gather (gather.trans (State.gather_item_of same p _))
      | some x granted run stood same => exact absurd (none.symm.trans run) nofun
    · cases items with
      | none run same => exact absurd (run.symm.trans some) nofun
      | some x' granted run stood same =>
        cases run.symm.trans some
        exact ⟨granted, stood, .of_gather (gather.trans (State.gather_item_of same p _))⟩

/-! ## A request filed (R76, R83, R87) -/

theorem trailer_grants_of_apart {p : Post} (q : Queue) {l : List Request} (apart : ∀ r ∈ l, r.post ≠ p) (s : State) :
    (s.forEach l fun s' r => s'.grant q r).trailer p = s.trailer p := by
  induction l generalizing s with
  | nil => rfl
  | cons r l ih =>
    refine (ih (fun x hx => apart x (List.mem_cons_of_mem _ hx)) _).trans ?_
    exact (grant_creates s q r).others p fun e => apart r List.mem_cons_self e.symm

theorem queue_grants (q q' : Queue) (l : List Request) (s : State) :
    (s.forEach l fun s' r => s'.grant q r).queue q' = s.queue q' := by
  induction l generalizing s with
  | nil => rfl
  | cons r l ih => exact (ih _).trans (queue_grant s q r q')

/-- The run of a trailer granted once among others. -/
theorem run_grants_of_mem {q : Queue} {l : List Request} {x : Request} (hx : x ∈ l)
    (once : (l.map (·.post)).count x.post = 1) (s : State) :
    ∃ y, (s.forEach l fun s' r => s'.grant q r).run x.post = some y ∧
      y.terms = (x.cls, q, x.load, s.now, (s.trailer x.post).f) := by
  obtain ⟨a, b, rfl⟩ := List.append_of_mem hx
  have counts : (a.map (·.post)).count x.post = 0 ∧ (b.map (·.post)).count x.post = 0 := by
    simp only [List.map_append, List.map_cons, List.count_append, List.count_cons_self] at once
    omega
  have away {l : List Request} (h : (l.map (·.post)).count x.post = 0) : ∀ r ∈ l, r.post ≠ x.post := fun r hr e =>
    List.count_eq_zero.mp h (List.mem_map.mpr ⟨r, hr, e⟩)
  have split : s.forEach (a ++ x :: b) (fun s' r => s'.grant q r)
      = (((s.forEach a fun s' r => s'.grant q r).grant q x).forEach b fun s' r => s'.grant q r) := by
    unfold State.forEach
    rw [List.foldl_append, List.foldl_cons]
  have before := trailer_grants_of_apart q (away counts.1) s
  have now := (arbiterAlone_grants q a s).now
  rw [split]
  generalize (s.forEach a fun s' r => s'.grant q r) = t at *
  obtain ⟨y, run, terms⟩ := (grants_one t q x).runs x List.mem_cons_self
  have after := trailer_grants_of_apart q (away counts.2) (t.grant q x)
  refine ⟨y, ?_, ?_⟩
  · unfold State.run
    rw [after]
    exact run
  · rw [terms, now, before]

/-- What filing a request of a trailer with no run and no request leaves. -/
structure Files (p : Post) (c : RequestClass) (load : Nat) (s u : State) : Prop where
  alone : ArbiterAlone s u
  queues : ∀ q, q ≠ s.queueOf p → u.queue q = s.queue q
  outcome : (u.Unfiled p ∧ ∃ y, u.run p = some y ∧ y.terms = (c, s.queueOf p, load, s.now, (s.trailer p).f)) ∨
    (u.trailer p = s.trailer p ∧
      (∃ n, { post := p, cls := c, filed := s.now, load := load, passes := n } ∈ u.queue (s.queueOf p)) ∧
      ∀ q, ∀ x ∈ u.queue q, x.post = p → q = s.queueOf p ∧ x.cls = c)

theorem count_post_eq_zero {s : State} {p : Post} (h : s.Unfiled p) (q : Queue) :
    ((s.queue q).map (·.post)).count p = 0 :=
  List.count_eq_zero.mpr fun m => by
    obtain ⟨r, hr, e⟩ := List.mem_map.mp m
    exact h q r hr e

theorem files_fileRequest {s : State} (running : s.running = true) {p : Post} (free : s.Unfiled p) (c : RequestClass)
    (load : Nat) : Files p c load s (s.fileRequest p c load) := by
  unfold State.fileRequest State.joinQueue
  generalize hq : s.queueOf p = q
  have unfiled := free q
  generalize he : ({ post := p, cls := c, filed := s.now, load := load, passes := 0 } : Request) = e
  have ePost : e.post = p := by rw [← he]
  generalize ht : s.putQueue q (insertRequest e (s.queue q)) = t
  have tAlone : ArbiterAlone s t := by rw [← ht]; rfl
  have tRecords : t.records = s.records := by rw [← ht]; rfl
  have tQueue : t.queue q = insertRequest e (s.queue q) := by rw [← ht, State.queue_putQueue_self]
  have tQueues (q' : Queue) (h : q' ≠ q) : t.queue q' = s.queue q' := by rw [← ht, State.queue_putQueue_other _ _ _ _ h]
  have tTrailer : t.trailer p = s.trailer p := by
    unfold State.trailer
    rw [tRecords]
  have mem {x : Request} (hx : x ∈ t.queue q) (post : x.post = p) : x = e := by
    rw [tQueue] at hx
    exact (mem_insertRequest.mp hx).resolve_right fun old => unfiled x old post
  have divides := t.walked_divides q
  have posts : (((t.walked q).1 ++ (t.walked q).2).map (·.post)).count p = 1 := by
    have perm := divides.all.map Prod.fst
    rw [← map_post_of_key, ← map_post_of_key] at perm
    rw [perm.count_eq, List.nil_append, tQueue, ((insertRequest_perm e _).map _).count_eq, List.map_cons, ePost,
      List.count_cons_self, count_post_eq_zero free]
  have stays {x : Request} (hx : x ∈ (t.walked q).2) (post : x.post = p) : x.key = e.key := by
    obtain ⟨r₀, h₀, same⟩ := divides.post_of_left hx
    have post₀ : r₀.post = p := (congrArg Prod.fst same).trans post
    rw [← same, mem h₀ post₀]
  rw [State.walk_of_running (tAlone.running.trans running)]
  have alone := arbiterAlone_grants q (t.walked q).1 (t.putQueue q (t.walked q).2)
  have queueAfter (q' : Queue) := queue_grants q q' (t.walked q).1 (t.putQueue q (t.walked q).2)
  have apart := trailer_grants_of_apart (p := p) q (l := (t.walked q).1)
  have granted {x : Request} := run_grants_of_mem (q := q) (l := (t.walked q).1) (x := x)
  have now : (t.putQueue q (t.walked q).2).now = s.now := tAlone.now
  generalize t.walked q = w at *
  have putTrailer : (t.putQueue q w.2).trailer p = s.trailer p := tTrailer
  have putQueue := State.queue_putQueue_self t q w.2
  have putQueues (q' : Queue) (h : q' ≠ q) := (State.queue_putQueue_other t q q' w.2 h).trans (tQueues q' h)
  have aloneT : ArbiterAlone s (t.putQueue q w.2) := tAlone.trans (by rfl)
  generalize t.putQueue q w.2 = v at *
  have granted' {x : Request} (hx : x ∈ w.1) (once : (w.1.map (·.post)).count x.post = 1) := granted hx once v
  have apart' (h : ∀ r ∈ w.1, r.post ≠ p) := apart h v
  generalize (v.forEach w.1 fun s' r => s'.grant q r) = u at *
  refine ⟨aloneT.trans alone, fun q' h => ?_, ?_⟩
  · rw [hq] at h
    rw [queueAfter, putQueues q' h]
  · rw [hq]
    rw [List.map_append, List.count_append] at posts
    by_cases any : (w.1.map (·.post)).count p = 0
    · refine .inr ⟨?_, ?_, fun q' x hx post => ?_⟩
      · exact (apart' fun r hr post => List.count_eq_zero.mp any (List.mem_map.mpr ⟨r, hr, post⟩)).trans putTrailer
      · have some : p ∈ w.2.map (·.post) := List.count_pos_iff.mp (by omega)
        obtain ⟨x, hx, post⟩ := List.mem_map.mp some
        refine ⟨x.passes, ?_⟩
        rw [queueAfter, putQueue]
        have key := stays hx post
        rw [← he] at key
        obtain ⟨a, b, c', d, n⟩ := x
        simp only [Request.key, Prod.mk.injEq] at key
        obtain ⟨rfl, rfl, rfl, rfl⟩ := key
        exact hx
      · rw [queueAfter] at hx
        by_cases same : q' = q
        · subst same
          rw [putQueue] at hx
          have key := stays hx post
          rw [← he] at key
          simp only [Request.key, Prod.mk.injEq] at key
          exact ⟨rfl, key.2.1⟩
        · rw [putQueues q' same] at hx
          exact absurd post (free q' x hx)
    · obtain ⟨x, hx, post⟩ := List.mem_map.mp (List.count_pos_iff.mp (Nat.pos_of_ne_zero any))
      have isE : x = e := mem (divides.granted.subset hx) post
      subst isE
      obtain ⟨y, run, terms⟩ := granted' hx (by rw [ePost]; omega)
      refine .inl ⟨fun q' r hr post' => ?_, y, ePost ▸ run, ?_⟩
      · rw [queueAfter] at hr
        by_cases same : q' = q
        · subst same
          rw [putQueue] at hr
          have none : (w.2.map (·.post)).count p = 0 := by omega
          exact List.count_eq_zero.mp none (List.mem_map.mpr ⟨r, hr, post'⟩)
        · rw [putQueues q' same] at hr
          exact free q' r hr post'
      · rw [terms, now, ePost, putTrailer, ← he]

/-! ## DEFROST_NOW (R87) -/

section
variable {s : State} {tag : Word16} {b : Byte} {p : Post}

theorem takes_defrostNow (hp : b.toNat = p.val) : s.ownerTakes (.defrostNow tag b) =
    s.withTrailer .defrostNow tag p fun t =>
      if t.state ≠ .enrolled ∨ t.run.isSome then s.refuse .defrostNow tag .wrongState
      else
        match s.defrostBlock p with
        | some n => s.answer .defrostNow tag .wrongState (num1 n)
        | none => (s.askDefrost p).answer .defrostNow tag .ok ((s.askDefrost p).askedFields p) := withPost_of_val hp

theorem takes_defrostNow_enrolled (hp : b.toNat = p.val) (enrolled : (s.trailer p).state = .enrolled)
    (noRun : s.run p = none) : s.ownerTakes (.defrostNow tag b) =
      match s.defrostBlock p with
      | some n => s.answer .defrostNow tag .wrongState (num1 n)
      | none => (s.askDefrost p).answer .defrostNow tag .ok ((s.askDefrost p).askedFields p) := by
  have present : (s.trailer p).state ≠ .vacant := by rw [enrolled]; nofun
  have run : (s.trailer p).run = none := noRun
  refine (takes_defrostNow hp).trans ((withTrailer_of_present present).trans (if_neg ?_))
  rw [enrolled, run]
  simp

/-- The request after others of a trailer are gone from a queue. -/
theorem requestOf_of_same {t : State} {q : Queue} {r r' : Request} (h : s.requestOf p = some (q, r))
    (others : ∀ q', q' ≠ q → t.queue q' = s.queue q')
    (found : (t.queue q).find? (fun r => decide (r.post = p)) = some r') : t.requestOf p = some (q, r') := by
  unfold State.requestOf at h ⊢
  rw [List.findSome?_eq_some_iff] at h ⊢
  obtain ⟨l₁, a, l₂, split, here, before⟩ := h
  obtain ⟨x, -, e⟩ := Option.map_eq_some_iff.mp here
  obtain ⟨rfl, rfl⟩ := Prod.mk.inj e
  refine ⟨l₁, a, l₂, split, by rw [found]; rfl, fun q' hq' => ?_⟩
  have nodup : (l₁ ++ a :: l₂).Nodup := split ▸ List.nodup_finRange 9
  have apart : q' ≠ a := fun e => (List.disjoint_of_nodup_append nodup) (e ▸ hq') List.mem_cons_self
  rw [others q' apart]
  exact before q' hq'

/-- What the upgrade of a request leaves (R75). -/
structure Upgrades (p : Post) (q : Queue) (r : Request) (s u : State) : Prop where
  changes : u = { s with queues := u.queues }
  queues : ∀ q', q' ≠ q → u.queue q' = s.queue q'
  queue : (u.queue q).Perm (r :: (s.queue q).filter fun x => decide (x.post ≠ p))
  request : u.requestOf p = some (q, r)

theorem upgrades_upgradeRequest {q : Queue} {r : Request} (h : s.requestOf p = some (q, r)) (c : RequestClass) :
    Upgrades p q { r with cls := c } s (s.upgradeRequest p c) := by
  have post : r.post = p := (State.requestOf_spec h).2
  have removed : s.removeRequest p = s.putQueue q ((s.queue q).filter fun r => decide (r.post ≠ p)) := by
    unfold State.removeRequest
    rw [h]
  have upgraded : s.upgradeRequest p c = (s.removeRequest p).joinQueue q { r with cls := c } := by
    unfold State.upgradeRequest
    rw [h]
  rw [upgraded, removed]
  unfold State.joinQueue
  rw [State.queue_putQueue_self]
  have queues (l l' : List Request) (q' : Queue) (hq : q' ≠ q) : ((s.putQueue q l).putQueue q l').queue q' = s.queue q' := by
    rw [State.queue_putQueue_other _ _ _ _ hq, State.queue_putQueue_other _ _ _ _ hq]
  have perm := insertRequest_perm { r with cls := c } ((s.queue q).filter fun r => decide (r.post ≠ p))
  refine ⟨by rfl, fun q' hq => queues _ _ q' hq, ?_, requestOf_of_same h (fun q' hq => queues _ _ q' hq) ?_⟩
  · rw [State.queue_putQueue_self]
    exact perm
  · rw [State.queue_putQueue_self]
    have only : ∀ x ∈ insertRequest { r with cls := c } ((s.queue q).filter fun r => decide (r.post ≠ p)),
        decide (x.post = p) = true → x = { r with cls := c } := fun x hx hp =>
      (mem_insertRequest.mp hx).resolve_right fun old => by
        have apart := (List.mem_filter.mp old).2
        rw [decide_eq_true_eq] at hp apart
        exact apart hp
    cases found : (insertRequest { r with cls := c } ((s.queue q).filter fun r => decide (r.post ≠ p))).find?
        fun r => decide (r.post = p) with
    | none =>
      have no := List.find?_eq_none.mp found { r with cls := c } (mem_insertRequest.mpr (.inl rfl))
      exact absurd (decide_eq_true post) no
    | some x =>
      have here := List.find?_some found
      rw [only x (List.mem_of_find?_eq_some found) here]

theorem askedFields_of_request {q : Queue} {r : Request} (h : s.requestOf p = some (q, r)) :
    s.askedFields p = num1 q.val ++ num1 r.cls.code ++ num1 (placeIn p (s.queue q)) := by
  unfold State.askedFields
  rw [h]

theorem askDefrost_of_high {q : Queue} {r : Request} (h : s.requestOf p = some (q, r))
    (high : r.cls = .forced ∨ r.cls = .host) : s.askDefrost p = s := by
  unfold State.askDefrost
  rw [h]
  dsimp only
  obtain high | high := high <;> rw [high]

theorem askDefrost_of_low {q : Queue} {r : Request} (h : s.requestOf p = some (q, r))
    (low : r.cls = .unit ∨ r.cls = .threshold) : s.askDefrost p = s.upgradeRequest p .host := by
  unfold State.askDefrost
  rw [h]
  dsimp only
  obtain low | low := low <;> rw [low]

end

/-- Settles O23: the blocks in their order, the upgrade in place, and the filing with its walk. -/
theorem defrostNowFilesOrIsRefused : Obligations.DefrostNowFilesOrIsRefused := by
  refine ⟨fun tag b s ready => ⟨fun high => exec_of_refuses ready rfl rfl rfl (withPost_of_high high), fun p hp =>
    ⟨fun vacant => ?_, fun present wrong => ?_, fun enrolled noRun => ?_⟩⟩,
    fun tag b p pr s ready hp enrolled noRun profile inhibit action deferral => ?_⟩
  · exact exec_of_refuses ready rfl rfl rfl ((takes_defrostNow hp).trans (withTrailer_of_vacant vacant))
  · exact exec_of_refuses ready rfl rfl rfl
      ((takes_defrostNow hp).trans ((withTrailer_of_present present).trans (if_pos wrong)))
  · have blocked {n : Nat} (h : s.defrostBlock p = some n) :
        exec (.defrostNow tag b) s = .next (s.answer .defrostNow tag .wrongState (num1 n)).pumpTx := by
      rw [exec_of_ready ready rfl rfl rfl, takes_defrostNow_enrolled hp enrolled noRun, h]
    refine ⟨fun on => blocked ?_, fun off inForce => blocked ?_, fun d off none later waits => blocked ?_⟩
    · unfold State.defrostBlock
      rw [if_pos on]
    · have active : s.actionInForce p .inhibitDefrost = true := inForce
      unfold State.defrostBlock
      rw [off, if_neg Bool.false_ne_true, if_pos active]
    · have idle : s.actionInForce p .inhibitDefrost = false := by
        unfold State.actionInForce ActionsInForce.of
        rw [none]
        rfl
      unfold State.defrostBlock deferralPassed
      rw [off, idle, later]
      simp [waits]
  · have free : s.defrostBlock p = none := by
      have idle : s.actionInForce p .inhibitDefrost = false := by
        unfold State.actionInForce ActionsInForce.of
        rw [action]
        rfl
      have passed : deferralPassed (s.trailer p).deferral s.now = true := by
        unfold deferralPassed
        split
        · rfl
        · rename_i d found
          exact decide_eq_true (deferral d found)
      unfold State.defrostBlock
      rw [inhibit, idle, passed]
      rfl
    have answers : exec (.defrostNow tag b) s
        = .next ((s.askDefrost p).replied .defrostNow tag ((s.askDefrost p).askedFields p)) := by
      refine exec_of_answers ready rfl rfl rfl ?_
      rw [takes_defrostNow_enrolled hp enrolled noRun, free]
    refine ⟨fun q r found high => ?_, fun q r found low => ?_, fun none => ?_⟩
    · rw [answers, askDefrost_of_high found high, askedFields_of_request found]
    · obtain ⟨changes, queues, queue, request⟩ := upgrades_upgradeRequest found .host
      rw [answers, askDefrost_of_low found low, askedFields_of_request request]
      rw [(State.requestOf_spec found).2] at queue
      exact ⟨_, rfl, changes, queues, queue⟩
    · have load : s.loadOf p = pr.load := by
        unfold State.loadOf
        rw [profile]
        rfl
      have filed : s.askDefrost p = s.fileRequest p .host pr.load := by
        unfold State.askDefrost
        rw [none, load]
      have files := files_fileRequest (running_of_phase ready.1) (State.requestOf_eq_none_iff.mp none) .host pr.load
      have outside : OutsideSame s (s.fileRequest p .host pr.load) := .of_framed fun f => f.fileRequest s p .host pr.load
      have noRebuild : NoRebuild s (s.fileRequest p .host pr.load) := .of_framed fun f => f.fileRequest s p .host pr.load
      rw [answers, filed]
      generalize s.fileRequest p .host pr.load = u at *
      obtain ⟨stack, next⟩ := stack_of_frames files.alone.frames
      have directory : u.directory = s.directory := by
        have alone := files.alone
        unfold ArbiterAlone at alone
        rw [alone]
      refine ⟨u, outside, noRebuild, directory, stack, next, ?_⟩
      obtain ⟨unfiled, y, run, terms⟩ | ⟨same, ⟨n, stands⟩, only⟩ := files.outcome
      · simp only [RunRecord.terms, Prod.mk.injEq] at terms
        obtain ⟨cls, queue, load, grant, -⟩ := terms
        refine .inl ⟨y, run, cls, queue, load, grant, unfiled, ?_⟩
        unfold State.askedFields
        rw [State.requestOf_eq_none_iff.mpr unfiled, run]
        dsimp only
        rw [queue, cls]
        rfl
      · have idle : u.run p = Option.none := by
          unfold State.run
          rw [same]
          exact noRun
        refine .inr ⟨idle, n, stands, ?_⟩
        cases request : u.requestOf p with
        | none => exact absurd rfl (State.requestOf_eq_none_iff.mp request _ _ stands)
        | some x =>
          obtain ⟨q, r⟩ := x
          obtain ⟨hr, post⟩ := State.requestOf_spec request
          obtain ⟨rfl, cls⟩ := only q r hr post
          rw [askedFields_of_request request, cls]
          rfl

end Sys2Proof.Machine


/-! # The beginning of a restart (R188, R194, R195, R197)

The statements O31 and O50. -/

namespace Sys2Proof.Machine

/-! ## The flush of every station -/

theorem txFree_of_waiting {s : State} (h : s.replies ≠ [] ∨ s.tx ≠ none) : s.txFree = false := by
  unfold State.txFree
  obtain h | h := h <;> simp [h]

theorem offerNotice_of_waiting {s : State} (h : s.replies ≠ [] ∨ s.tx ≠ none) (n : Notice) :
    (s.offerNotice n).tx = s.tx ∧ (s.offerNotice n).replies = s.replies := by
  unfold State.offerNotice
  rw [txFree_of_waiting h, if_neg Bool.false_ne_true]
  split <;> exact ⟨rfl, rfl⟩

theorem flushStation_of_waiting {s : State} (h : s.replies ≠ [] ∨ s.tx ≠ none) (p : Post) :
    (s.flushStation p).tx = s.tx ∧ (s.flushStation p).replies = s.replies := by
  unfold State.flushStation
  split
  · exact ⟨rfl, rfl⟩
  · exact offerNotice_of_waiting (s := { s with stations := s.stations.filter fun x => decide (x.post ≠ p) }) h _

/-- A transmitter that has a reply to send takes up no notice. -/
theorem flushAll_of_waiting (n : Nat) {s : State} (h : s.replies ≠ [] ∨ s.tx ≠ none) :
    (State.flushAll n s).tx = s.tx := by
  induction n generalizing s with
  | zero => rfl
  | succ n ih =>
    unfold State.flushAll
    split
    · rfl
    · rename_i e _
      obtain ⟨tx, replies⟩ := flushStation_of_waiting h e.post
      rw [ih (by rw [tx, replies]; exact h), tx]

theorem offerNotice_stations (s : State) (n : Notice) : (s.offerNotice n).stations = s.stations := by
  unfold State.offerNotice
  split
  · rfl
  · split <;> rfl

/-- Flushing as many stations as are open leaves none. -/
theorem flushAll_stations (n : Nat) {s : State} (h : s.stations.length ≤ n) : (State.flushAll n s).stations = [] := by
  induction n generalizing s with
  | zero => exact List.length_eq_zero_iff.mp (Nat.le_zero.mp h)
  | succ n ih =>
    unfold State.flushAll
    by_cases none : s.stations = []
    · rw [none]
      exact none
    · obtain ⟨before, e, after, found, split, -, -⟩ := earliestStation_split s.stations none
      have mem : e ∈ s.stations := by rw [split]; simp
      rw [found]
      refine ih ?_
      cases open' : s.stationOf e.post with
      | none =>
        have no := List.find?_eq_none.mp open' e mem
        simp at no
      | some st =>
        rw [State.flushStation_of_station open', offerNotice_stations]
        have less : (s.stations.filter fun x => decide (x.post ≠ e.post)).length < s.stations.length :=
          List.length_filter_lt_length_iff_exists.mpr ⟨e, mem, by simp⟩
        exact Nat.le_of_lt_succ (less.trans_le h)

theorem gather_offerNotices {s t : State} (h : t.gather = s.gather) (l : List Station) :
    (t.forEach l fun u st => u.offerNotice st.notice).gather = (s.forEach l fun u st => u.offerNotice st.notice).gather := by
  induction l generalizing s t with
  | nil => exact h
  | cons x l ih =>
    refine ih ?_
    rw [State.gather_offerNotice, h, ← State.gather_offerNotice]

/-- A flush of every station reads and changes the notices alone. -/
theorem FlushesAll.of_gather {s s' t t' : State} (h : FlushesAll s t) (hs : s'.gather = s.gather)
    (ht : SameNotices t t') : FlushesAll s' t' := by
  obtain ⟨order, perm, sorted, same⟩ := h
  have stations : s'.stations = s.stations := (SameNotices.of_gather hs).stations
  refine ⟨order, stations ▸ perm, sorted, ?_⟩
  have emptied : State.gather { s' with stations := [] } = State.gather { s with stations := [] } := by
    have e : ({ s'.gather with stations := [] } : State) = { s.gather with stations := [] } := by rw [hs]
    exact e
  have moved := SameNotices.of_gather (gather_offerNotices emptied order)
  exact ⟨ht.stations.trans (same.stations.trans moved.stations.symm), ht.notices.trans (same.notices.trans moved.notices.symm),
    ht.noticesLost.trans (same.noticesLost.trans moved.noticesLost.symm), ht.tx.trans (same.tx.trans moved.tx.symm)⟩

/-! ## The flush and the restart -/

/-- The flush of records that all verify: no rebuild, and the first block is being written (R196). -/
theorem beginFlush_of_sound {s : State} (held : s.heldCauses = []) (sound : ∀ p, (s.trailer p).verifies = true) :
    s.beginFlush = { s with phase := .flushing 38 (flushBlocks (flushNumber s.imageNumber) s.packedRecords) } := by
  have none : s.flushOrder.filter (fun p => !(s.trailer p).verifies) = [] := by
    rw [List.filter_eq_nil_iff]
    exact fun p _ => by simp [sound p]
  unfold State.beginFlush
  rw [none]
  dsimp only
  unfold State.forEach
  rw [List.foldl_nil, held]
  rw [List.foldl_nil, ← held]
  rfl

/-- The state as a restart has stopped the lines, before its stations flush. -/
def State.stoppedFor (s : State) (r : Reason) : State :=
  { s with
    restartRecord := { primary := some r, secondary := none }, phase := .flushWaiting
    lineA := { s.lineA with round := none }, lineB := { s.lineB with round := none } }

/-- The state as a restart has flushed its stations. -/
def State.flushedFor (s : State) (r : Reason) : State := State.flushAll s.stations.length (s.stoppedFor r)

theorem beginRestart_eq (s : State) (r : Reason) : s.beginRestart r =
    (let settled := if r = .mainsLoss then (s.flushedFor r).abandonWrite else s.flushedFor r
     if settled.write.isNone then settled.beginFlush else settled) := rfl

section
variable (s : State) (r : Reason)

theorem flushedFor_changes : s.flushedFor r = { s.stoppedFor r with
    stations := [], notices := (s.flushedFor r).notices, noticesLost := (s.flushedFor r).noticesLost
    tx := (s.flushedFor r).tx } := by
  have empty := flushAll_stations s.stations.length (s := s.stoppedFor r) le_rfl
  have changes := State.flushAll_changes s.stations.length (s.stoppedFor r)
  unfold State.flushedFor
  generalize State.flushAll s.stations.length (s.stoppedFor r) = t at *
  rw [changes, ← empty]
  rfl

theorem flushesAll_flushedFor (nodup : (s.stations.map (·.post)).Nodup) : FlushesAll s (s.flushedFor r) :=
  (flushAll_spec _ (s.stoppedFor r) rfl nodup).2.of_gather (by rfl) ⟨rfl, rfl, rfl, rfl⟩

end

/-- A block spoiled with no mark, and the reply RESTARTING, of a write abandoned (R194). -/
structure Abandons (w : StoreWrite) (s t : State) : Prop where
  changes : t = { s with
    write := none, store := t.store, freeCount := t.freeCount
    replies := s.replies ++ [{ type := 0x15, tag := w.tag, status := .restarting, body := [] }] }
  mark : (t.block w.block).mark = false
  bytes : (t.block w.block).bytes.length = 256
  others : ∀ b, b ≠ w.block → t.block b = s.block b

theorem freeBytes_length (s : State) (n : Nat) : (s.freeBytes n).1.length = n := by
  unfold State.freeBytes
  dsimp only
  rw [List.length_map, List.length_range]

theorem block_putBlock_self (s : State) (b : Fin 102) (k : StoreBlock) : (s.putBlock b k).block b = k := by
  unfold State.putBlock State.block
  exact Vector.getElem_set_self b.isLt

theorem block_putBlock_other (s : State) {b c : Fin 102} (h : c ≠ b) (k : StoreBlock) :
    (s.putBlock b k).block c = s.block c := by
  unfold State.putBlock State.block
  exact Vector.getElem_set_ne b.isLt c.isLt fun e => h (Fin.ext e.symm)

theorem abandons_abandonWrite {s : State} {w : StoreWrite} (h : s.write = some w) : Abandons w s s.abandonWrite := by
  unfold State.abandonWrite
  rw [h]
  dsimp only
  unfold State.spoilBlock State.formReply
  dsimp only
  have length := freeBytes_length { s with write := none } 256
  have free : (State.freeBytes { s with write := none } 256).2
      = { s with write := none, freeCount := s.freeCount + 256 } := rfl
  rw [free]
  generalize (State.freeBytes { s with write := none } 256).1 = bytes at *
  refine ⟨rfl, ?_, ?_, fun b hb => ?_⟩
  · have put := block_putBlock_self { s with write := none, freeCount := s.freeCount + 256 } w.block { bytes := bytes, mark := false }
    exact congrArg StoreBlock.mark put
  · have put := block_putBlock_self { s with write := none, freeCount := s.freeCount + 256 } w.block { bytes := bytes, mark := false }
    exact (congrArg (fun k : StoreBlock => k.bytes.length) put).trans length
  · exact block_putBlock_other { s with write := none, freeCount := s.freeCount + 256 } hb { bytes := bytes, mark := false }

theorem abandonWrite_of_none {s : State} (h : s.write = none) : s.abandonWrite = s := by
  unfold State.abandonWrite
  rw [h]

theorem write_abandonWrite (s : State) : s.abandonWrite.write = none := by
  cases h : s.write with
  | none => rw [abandonWrite_of_none h, h]
  | some w => rw [(abandons_abandonWrite h).changes]

theorem flushedFor_write (s : State) (r : Reason) : (s.flushedFor r).write = s.write := by
  rw [flushedFor_changes]
  rfl

theorem beginRestart_of_other (s : State) {r : Reason} (h : r ≠ .mainsLoss) : s.beginRestart r =
    if s.write.isNone then (s.flushedFor r).beginFlush else s.flushedFor r := by
  rw [beginRestart_eq]
  dsimp only
  simp only [if_neg h]
  rw [flushedFor_write]

theorem beginRestart_of_mainsLoss (s : State) :
    s.beginRestart .mainsLoss = (s.flushedFor .mainsLoss).abandonWrite.beginFlush := by
  rw [beginRestart_eq]
  dsimp only
  simp only [if_true]
  rw [write_abandonWrite]
  rfl

/-- Settles O31: the reply, the restart's stop and the flush of the stations, and the start of the image flush. -/
theorem restartBeginsTheFlush : Obligations.RestartBeginsTheFlush := by
  intro tag s ready held sound
  generalize ht : s.answer .restart tag .ok [] = t
  have takes : s.ownerTakes (.restart tag) = t.beginRestart .hostRestart := by
    have running : (s.answer .restart tag .ok []).phase = .running := ready.1
    change (s.answer .restart tag .ok []).takeCause .hostRestart = _
    unfold State.takeCause
    rw [running, ht]
  have replied : t = { s with replies := s.replies ++ [{ type := 0x17, tag := tag, status := .ok, body := [] }] } := ht.symm
  have changes := flushedFor_changes t .hostRestart
  have tx : (t.flushedFor .hostRestart).tx = s.tx := by
    have waiting : (t.stoppedFor .hostRestart).replies ≠ [] := by
      rw [replied]
      exact List.append_ne_nil_of_right_ne_nil _ (List.cons_ne_nil _ _)
    refine (flushAll_of_waiting _ (.inl waiting)).trans ?_
    rw [replied]
    rfl
  have flushes := flushesAll_flushedFor t .hostRestart
  refine ⟨t.beginRestart .hostRestart, by rw [exec_of_ready ready rfl rfl rfl, takes], ?_⟩
  rw [beginRestart_of_other t (by decide)]
  have write : t.write = s.write := by rw [replied]
  rw [write]
  have stations : t.stations = s.stations := by rw [replied]
  rw [stations] at flushes
  generalize t.flushedFor .hostRestart = v at *
  rw [tx, replied] at changes
  rw [replied] at flushes
  by_cases none : s.write = none
  · have isNone : s.write.isNone = true := by rw [none]; rfl
    have isSome : s.write.isSome = false := by rw [none]; rfl
    have sound' : ∀ p, (v.trailer p).verifies = true := by
      rw [changes]
      exact sound
    have held' : v.heldCauses = [] := by
      rw [changes]
      exact held
    have packed : v.packedRecords = s.packedRecords := by
      rw [changes]
      rfl
    have number : v.imageNumber = s.imageNumber := by
      rw [changes]
      rfl
    rw [isNone, isSome, if_pos rfl, beginFlush_of_sound held' sound', packed, number]
    refine ⟨?_, fun law => (flushes law.2.2.1).of_gather (by rfl) ⟨rfl, rfl, rfl, rfl⟩⟩
    rw [changes]
    rfl
  · have isSome : s.write.isSome = true := Option.isSome_iff_ne_none.mpr none
    have isNone : s.write.isNone = false := by rw [← Option.not_isSome, isSome]; rfl
    rw [isNone, isSome, if_neg Bool.false_ne_true]
    exact ⟨changes, fun law => (flushes law.2.2.1).of_gather (by rfl) ⟨rfl, rfl, rfl, rfl⟩⟩

/-! ## MAINS_LOSS (R195, R197) -/

/-- The restart record with MAINS-LOSS in its slot (R197). -/
theorem RestartRecord.take_mainsLoss {r : RestartRecord} (h : r.primary ≠ some .mainsLoss) :
    r.take .mainsLoss = { r with secondary := some .mainsLoss } := by
  unfold RestartRecord.take
  rw [if_neg h]
  obtain ⟨first, second⟩ := r
  cases second with
  | none => rfl
  | some x => cases x <;> rfl

/-- What an image flush of a state reads. -/
structure FlushReads (s t : State) : Prop where
  held : t.heldCauses = s.heldCauses
  records : t.records = s.records
  packed : t.packedRecords = s.packedRecords
  number : t.imageNumber = s.imageNumber

theorem FlushReads.trans {s t u : State} (h : FlushReads s t) (k : FlushReads t u) : FlushReads s u :=
  ⟨k.held.trans h.held, k.records.trans h.records, k.packed.trans h.packed, k.number.trans h.number⟩

theorem flushReads_flushedFor (s : State) (r : Reason) : FlushReads s (s.flushedFor r) := by
  rw [flushedFor_changes]
  exact ⟨rfl, rfl, rfl, rfl⟩

theorem flushReads_abandonWrite (s : State) : FlushReads s s.abandonWrite := by
  cases h : s.write with
  | none =>
    rw [abandonWrite_of_none h]
    exact ⟨rfl, rfl, rfl, rfl⟩
  | some w =>
    rw [(abandons_abandonWrite h).changes]
    exact ⟨rfl, rfl, rfl, rfl⟩

/-- The flush begun from a state that reads as one whose records all verify. -/
theorem FlushReads.beginFlush {s t : State} (h : FlushReads s t) (held : s.heldCauses = [])
    (sound : ∀ p, (s.trailer p).verifies = true) :
    t.beginFlush = { t with phase := .flushing 38 (flushBlocks (flushNumber s.imageNumber) s.packedRecords) } := by
  have sound' : ∀ p, (t.trailer p).verifies = true := by
    unfold State.trailer
    rw [h.records]
    exact sound
  rw [beginFlush_of_sound (h.held.trans held) sound', h.packed, h.number]

/-- The effect of MAINS_LOSS while the module runs: a restart that abandons a write in flight. -/
theorem effect_mainsLoss_of_running {s : State} (phase : s.phase = .running) : s.effect .mainsLoss
    = ((State.flushedFor { s with mainsPresent := false } .mainsLoss).abandonWrite).beginFlush := by
  have lost : s.effect .mainsLoss = State.takeCause { s with mainsPresent := false } .mainsLoss := rfl
  have same : ({ s with mainsPresent := false } : State).phase = .running := phase
  rw [lost, ← beginRestart_of_mainsLoss]
  unfold State.takeCause
  rw [same]

/-- The effect of MAINS_LOSS while a restart with another reason is pending. -/
theorem effect_mainsLoss_of_pending {s : State} (pending : s.phase.restartPending = true)
    (fresh : s.restartRecord.primary ≠ some .mainsLoss) : s.effect .mainsLoss =
      if s.write.isSome then
        (State.abandonWrite { s with
          mainsPresent := false, restartRecord := { s.restartRecord with secondary := some .mainsLoss } }).beginFlush
      else { s with mainsPresent := false, restartRecord := { s.restartRecord with secondary := some .mainsLoss } } := by
  have lost : s.effect .mainsLoss = State.takeCause { s with mainsPresent := false } .mainsLoss := rfl
  have taken : State.takeCause { s with mainsPresent := false } .mainsLoss
      = State.pendingCause { s with mainsPresent := false } .mainsLoss := by
    have same : ({ s with mainsPresent := false } : State).phase = s.phase := rfl
    unfold State.takeCause
    rw [same]
    cases h : s.phase with
    | flushWaiting | flushing _ _ | awaitingMains => rfl
    | running | starting _ | off =>
      rw [h] at pending
      cases pending
  rw [lost, taken]
  unfold State.pendingCause
  rw [RestartRecord.take_mainsLoss fresh]
  simp only [true_and]

/-- Settles O50: the cause's ways into a restart by phase and write. -/
theorem mainsLossBeginsARestart : Obligations.MainsLossBeginsARestart := by
  intro s
  have begun := @effect_mainsLoss_of_running s
  have changes := flushedFor_changes { s with mainsPresent := false } .mainsLoss
  have flushes := flushesAll_flushedFor { s with mainsPresent := false } .mainsLoss
  have absent : FlushReads s { s with mainsPresent := false } := ⟨rfl, rfl, rfl, rfl⟩
  have reads := absent.trans (flushReads_flushedFor { s with mainsPresent := false } .mainsLoss)
  have tx : TxGoesOn s (State.flushedFor { s with mainsPresent := false } .mainsLoss) :=
    FramedTable.transmitter.flushAll s.stations.length (State.stoppedFor { s with mainsPresent := false } .mainsLoss)
  have inFlight := flushedFor_write { s with mainsPresent := false } .mainsLoss
  generalize State.flushedFor { s with mainsPresent := false } .mainsLoss = v at *
  refine ⟨fun phase write held sound => ?_, fun w phase write held sound => ?_, fun w phase write fresh held sound => ?_,
    fun pending write fresh => ?_⟩
  · refine ⟨_, exec_of_effect (begun phase), ?_⟩
    rw [abandonWrite_of_none (inFlight.trans write), reads.beginFlush held sound]
    refine ⟨?_, tx, fun law => (flushes law.2.2.1).of_gather (by rfl) ⟨rfl, rfl, rfl, rfl⟩⟩
    rw [changes]
    rfl
  · refine ⟨_, exec_of_effect (begun phase), ?_⟩
    have abandons := abandons_abandonWrite (inFlight.trans write)
    rw [(reads.trans (flushReads_abandonWrite v)).beginFlush held sound]
    generalize v.abandonWrite = a at *
    obtain ⟨change, mark, bytes, others⟩ := abandons
    have store : v.store = s.store := by rw [changes]; rfl
    have replies : v.replies = s.replies := by rw [changes]; rfl
    refine ⟨?_, mark, bytes, fun b hb => (others b hb).trans ?_, ?_, ?_, rfl, ?_, ?_, ?_, ?_, ?_, fun law =>
      (flushes law.2.2.1).of_gather (by rfl) ?_⟩
    · rw [change]
    · unfold State.block
      rw [store]
    · rw [change, replies]
    all_goals rw [change]
    · rw [changes]
      rfl
    · rw [changes]
      rfl
    · rw [changes]
      rfl
    · rw [changes]
    · exact reads.records
    · rw [changes]
      rfl
    · exact ⟨rfl, rfl, rfl, rfl⟩
  · have pending : s.phase.restartPending = true := by rw [phase]; rfl
    have isSome : s.write.isSome = true := by rw [write]; rfl
    refine ⟨_, exec_of_effect ((effect_mainsLoss_of_pending pending fresh).trans (if_pos isSome)), ?_⟩
    have abandons := abandons_abandonWrite (s := { s with
      mainsPresent := false, restartRecord := { s.restartRecord with secondary := some .mainsLoss } }) write
    have recorded : FlushReads s { s with
        mainsPresent := false, restartRecord := { s.restartRecord with secondary := some .mainsLoss } } := ⟨rfl, rfl, rfl, rfl⟩
    have reads' := recorded.trans (flushReads_abandonWrite { s with
      mainsPresent := false, restartRecord := { s.restartRecord with secondary := some .mainsLoss } })
    rw [reads'.beginFlush held sound]
    generalize State.abandonWrite { s with
      mainsPresent := false, restartRecord := { s.restartRecord with secondary := some .mainsLoss } } = a at *
    obtain ⟨change, mark, bytes, others⟩ := abandons
    refine ⟨?_, mark, bytes, others⟩
    rw [change]
  · have isSome : ¬ s.write.isSome = true := by rw [write]; nofun
    exact exec_of_effect ((effect_mainsLoss_of_pending pending fresh).trans (if_neg isSome))

end Sys2Proof.Machine


/-! # The judgement of the blocks at a start (R191, R193)

What blocks 1 to 37 hold once a start has judged them in ascending order. -/

namespace Sys2Proof.Machine

/-! ## The place of a block's content -/

/-- The block that content belongs to (11.1). -/
def BlockContent.place : BlockContent → Nat
  | .lines _ _ => 1
  | .postMap _ _ => 2
  | .capacities _ => 3
  | .findingTable _ => 4
  | .defaults _ _ => 5
  | .profile i _ => 6 + i.val

theorem place_of_readBlock {b : Nat} {bs : List Byte} {c : BlockContent} (h : readBlock b bs = some c) : c.place = b := by
  unfold readBlock at h
  split at h
  · split at h
    · cases h
      exact Eq.symm ‹_›
    · cases h
  · split at h
    · obtain ⟨m, -, rfl⟩ := Option.map_eq_some_iff.mp h
      exact Eq.symm ‹_›
    · split at h
      · obtain ⟨m, -, rfl⟩ := Option.map_eq_some_iff.mp h
        exact Eq.symm ‹_›
      · split at h
        · obtain ⟨m, -, rfl⟩ := Option.map_eq_some_iff.mp h
          exact Eq.symm ‹_›
        · split at h
          · obtain ⟨m, -, rfl⟩ := Option.map_eq_some_iff.mp h
            exact Eq.symm ‹_›
          · split at h
            · rename_i range
              obtain ⟨m, -, rfl⟩ := Option.map_eq_some_iff.mp h
              change 6 + (b - 6) % 32 = b
              omega
            · cases h

/-- The block of a profile. -/
theorem block_of_high (y : YardConfig) {b : Nat} (h : 6 ≤ b) :
    y.block b = .profile (Fin.ofNat 32 (b - 6)) (y.profiles.get (Fin.ofNat 32 (b - 6))) := by
  unfold YardConfig.block
  rw [if_neg (by omega), if_neg (by omega), if_neg (by omega), if_neg (by omega), if_neg (by omega)]

theorem block_of_profile (y : YardConfig) (i : ProfileId) : y.block (6 + i.val) = .profile i (y.profiles.get i) := by
  have index : Fin.ofNat 32 (6 + i.val - 6) = i := by
    rw [Nat.add_sub_cancel_left]
    exact Fin.ext (Nat.mod_eq_of_lt i.isLt)
  rw [block_of_high y (Nat.le_add_right 6 _), index]

theorem block_put_self (y : YardConfig) (c : BlockContent) : (y.put c).block c.place = c := by
  cases c with
  | profile i p =>
    refine (block_of_profile _ i).trans ?_
    congr 1
    exact get_set_self _ _ _
  | lines | postMap | capacities | findingTable | defaults => rfl

theorem block_put_other (y : YardConfig) {c : BlockContent} {b : Nat} (h : c.place ≠ b) (range : 1 ≤ b ∧ b ≤ 37) :
    (y.put c).block b = y.block b := by
  by_cases high : 6 ≤ b
  · rw [block_of_high _ high, block_of_high _ high]
    congr 1
    cases c with
    | profile i p =>
      refine get_set_other _ _ _ _ fun e => h ?_
      have value : (b - 6) % 32 = i.val := congrArg Fin.val e
      change 6 + i.val = b
      omega
    | lines | postMap | capacities | findingTable | defaults => rfl
  · obtain ⟨low, -⟩ := range
    have cases' : b = 1 ∨ b = 2 ∨ b = 3 ∨ b = 4 ∨ b = 5 := by omega
    cases c with
    | profile i p => obtain rfl | rfl | rfl | rfl | rfl := cases' <;> rfl
    | lines | postMap | capacities | findingTable | defaults =>
      obtain rfl | rfl | rfl | rfl | rfl := cases' <;> first | rfl | exact absurd rfl h

/-! ## The judgement in order -/

/-- The judgement of blocks 1 to `n`. -/
def judgeTo (store : Vector StoreBlock 102) (n : Nat) : YardConfig × List Nat :=
  (List.range n).foldl (fun acc i => judgeBlock store acc (i + 1)) (.factory, [])

theorem judgeTo_succ (store : Vector StoreBlock 102) (n : Nat) :
    judgeTo store (n + 1) = judgeBlock store (judgeTo store n) (n + 1) := by
  unfold judgeTo
  rw [List.range_succ, List.foldl_append]
  rfl

/-- What a block's judgement does: its content joins, or its number does. -/
inductive Judges (store : Vector StoreBlock 102) (b : Nat) (acc acc' : YardConfig × List Nat) : Prop
  | joins (c : BlockContent) (mark : (store.get (Fin.ofNat 102 b)).mark = true)
      (read : readBlock b (store.get (Fin.ofNat 102 b)).bytes = some c) (admits : acc.1.admits c = true)
      (eq : acc' = (acc.1.put c, acc.2))
  | unread (h : (store.get (Fin.ofNat 102 b)).mark = false ∨ readBlock b (store.get (Fin.ofNat 102 b)).bytes = none)
      (eq : acc' = (acc.1, acc.2 ++ [b]))
  | repeats (c : BlockContent) (read : readBlock b (store.get (Fin.ofNat 102 b)).bytes = some c)
      (admits : acc.1.admits c = false) (eq : acc' = (acc.1, acc.2 ++ [b]))

theorem judges_judgeBlock (store : Vector StoreBlock 102) (acc : YardConfig × List Nat) (b : Nat) :
    Judges store b acc (judgeBlock store acc b) := by
  unfold judgeBlock
  dsimp only
  cases mark : (store.get (Fin.ofNat 102 b)).mark with
  | false => exact .unread (.inl mark) rfl
  | true =>
    cases read : readBlock b (store.get (Fin.ofNat 102 b)).bytes with
    | none =>
      refine .unread (.inr read) ?_
      rw [if_pos rfl]
    | some c =>
      rw [if_pos rfl]
      dsimp only
      cases admits : acc.1.admits c with
      | true => exact .joins c mark read admits rfl
      | false => exact .repeats c read admits rfl

/-- The judgement of the blocks up to one, as the configuration's blocks and the invalid numbers. -/
structure JudgedTo (store : Vector StoreBlock 102) (n : Nat) (acc : YardConfig × List Nat) : Prop where
  ascending : acc.2.Pairwise (· < ·)
  range : ∀ b ∈ acc.2, 1 ≤ b ∧ b ≤ n
  factory : ∀ b, 1 ≤ b → b ≤ 37 → (n < b ∨ b ∈ acc.2) → acc.1.block b = YardConfig.factory.block b

section
variable {store : Vector StoreBlock 102} {n : Nat}

theorem judgedTo_judgeTo (h : n ≤ 37) : JudgedTo store n (judgeTo store n) := by
  induction n with
  | zero => exact ⟨.nil, nofun, fun _ _ _ _ => rfl⟩
  | succ n ih =>
    obtain ⟨ascending, range, factory⟩ := ih (Nat.le_of_succ_le h)
    have judges := judges_judgeBlock store (judgeTo store n) (n + 1)
    rw [← judgeTo_succ] at judges
    have joined (eq : judgeTo store (n + 1) = ((judgeTo store n).1, (judgeTo store n).2 ++ [n + 1])) :
        JudgedTo store (n + 1) (judgeTo store (n + 1)) := by
      rw [eq]
      refine ⟨?_, fun b hb => ?_, fun b low high out => factory b low high ?_⟩
      · refine List.pairwise_append.mpr ⟨ascending, List.pairwise_singleton _ _, fun x hx y hy => ?_⟩
        rw [List.mem_singleton.mp hy]
        exact Nat.lt_succ_of_le (range x hx).2
      · obtain hb | hb := List.mem_append.mp hb
        · exact ⟨(range b hb).1, (range b hb).2.trans (Nat.le_succ n)⟩
        · rw [List.mem_singleton.mp hb]
          exact ⟨Nat.succ_pos n, le_rfl⟩
      · obtain out | out := out
        · exact .inl (Nat.lt_of_succ_lt out)
        · obtain out | out := List.mem_append.mp out
          · exact .inr out
          · rw [List.mem_singleton.mp out]
            exact .inl (Nat.lt_succ_self n)
    cases judges with
    | joins c _ read _ eq =>
      rw [eq]
      refine ⟨ascending, fun b hb => ⟨(range b hb).1, (range b hb).2.trans (Nat.le_succ n)⟩, fun b low high out => ?_⟩
      have apart : c.place ≠ b := by
        rw [place_of_readBlock read]
        obtain out | out := out
        · exact out.ne
        · have le := (range b out).2
          omega
      rw [block_put_other _ apart ⟨low, high⟩]
      exact factory b low high (out.imp_left Nat.lt_of_succ_lt)
    | unread _ eq => exact joined eq
    | repeats _ _ _ eq => exact joined eq

/-- A block's judgement stands through those after it. -/
theorem judgeTo_stable {b m : Nat} (low : 1 ≤ b) (hb : b ≤ m) (hm : m ≤ n) (hn : n ≤ 37) :
    (judgeTo store n).1.block b = (judgeTo store m).1.block b ∧ (b ∈ (judgeTo store n).2 ↔ b ∈ (judgeTo store m).2) := by
  induction n, hm using Nat.le_induction with
  | base => exact ⟨rfl, Iff.rfl⟩
  | succ n hmn ih =>
    obtain ⟨block, mem⟩ := ih (Nat.le_of_succ_le hn)
    have judges := judges_judgeBlock store (judgeTo store n) (n + 1)
    rw [← judgeTo_succ] at judges
    rw [← block, ← mem]
    have appended : b ∈ (judgeTo store n).2 ++ [n + 1] ↔ b ∈ (judgeTo store n).2 := by
      rw [List.mem_append, List.mem_singleton, or_iff_left (by omega)]
    cases judges with
    | joins c _ read _ eq =>
      have apart : c.place ≠ b := by
        rw [place_of_readBlock read]
        omega
      rw [eq]
      exact ⟨block_put_other _ apart ⟨low, by omega⟩, Iff.rfl⟩
    | unread _ eq =>
      rw [eq]
      exact ⟨rfl, appended⟩
    | repeats _ _ _ eq =>
      rw [eq]
      exact ⟨rfl, appended⟩

/-- The judgement of one block among all, as it was made. -/
theorem judges_at {b : Nat} (low : 1 ≤ b) : Judges store b (judgeTo store (b - 1)) (judgeTo store b) := by
  have judges := judges_judgeBlock store (judgeTo store (b - 1)) b
  obtain ⟨k, rfl⟩ : ∃ k, b = k + 1 := ⟨b - 1, by omega⟩
  rw [judgeTo_succ]
  exact judges

/-- A profile that comes earlier, once it has been judged, stands to the end. -/
theorem profile_of_earlier {i j : ProfileId} (h : j.val < i.val) :
    (judgeTo store (6 + i.val - 1)).1.profiles.get j = (judgeTo store 37).1.profiles.get j := by
  have stable := (judgeTo_stable (store := store) (b := 6 + j.val) (m := 6 + i.val - 1) (n := 37) (by omega) (by omega)
    (by omega) le_rfl).1
  rw [block_of_profile, block_of_profile] at stable
  simp only [BlockContent.profile.injEq, true_and] at stable
  exact stable.symm

/-- A profile that comes later has not been judged. -/
theorem profile_of_later {i j : ProfileId} (h : i.val < j.val) : (judgeTo store (6 + i.val - 1)).1.profiles.get j = none := by
  have judged := judgedTo_judgeTo (store := store) (n := 6 + i.val - 1) (by omega)
  have factory := judged.factory (6 + j.val) (by omega) (by omega) (.inl (by omega))
  rw [block_of_profile, block_of_profile] at factory
  simp only [BlockContent.profile.injEq, true_and] at factory
  rw [factory]
  simp [YardConfig.factory, Vector.get_eq_getElem]

end

theorem admits_profile (y : YardConfig) (i : ProfileId) (p : Profile) : y.admits (.profile i (some p)) = true ↔
    p.model = 0 ∨ ∀ j q, j ≠ i → y.profiles.get j = some q → q.model ≠ p.model := by
  unfold YardConfig.admits
  rw [Bool.or_eq_true, decide_eq_true_eq, List.all_eq_true]
  refine or_congr_right ⟨fun h j q apart found => ?_, fun h j _ => ?_⟩
  · have here := h j (List.mem_finRange j)
    rw [found] at here
    simpa [apart] using here
  · cases found : y.profiles.get j with
    | none => simp
    | some q =>
      by_cases same : j = i
      · simp [same]
      · simpa [same] using h j q same found

theorem ofNat_val (b : Fin 102) : Fin.ofNat 102 b.val = b := Fin.ext (Nat.mod_eq_of_lt b.isLt)

/-- A state whose configuration and invalid blocks come from the judgement of its store. -/
theorem blocksJudged_of_judge {s : State} (config : s.config = (judgeTo s.store 37).1)
    (invalid : s.invalidBlocks = (judgeTo s.store 37).2) (asFactory : s.asFactory = s.invalidBlocks) : s.BlocksJudged := by
  have judged := judgedTo_judgeTo (store := s.store) (n := 37) le_rfl
  have stable {b : Nat} (low : 1 ≤ b) (high : b ≤ 37) :=
    judgeTo_stable (store := s.store) (b := b) (m := b) (n := 37) low le_rfl high le_rfl
  have appended {b : Nat} {acc : YardConfig × List Nat} (low : 1 ≤ b) (high : b ≤ 37)
      (eq : judgeTo s.store b = (acc.1, acc.2 ++ [b])) : b ∈ s.invalidBlocks := by
    rw [invalid, (stable low high).2, eq]
    simp
  refine ⟨invalid ▸ judged.ascending, invalid ▸ judged.range, asFactory, fun b low high no => ?_,
    fun b i j p q low high read model less found same => ?_, fun b c low high mark read alone => ?_, fun b hb => ?_⟩
  · cases judges_at (store := s.store) low with
    | joins c mark read _ _ =>
      rw [ofNat_val] at mark read
      obtain no | no := no
      · exact absurd (mark.symm.trans no) nofun
      · exact absurd (read.symm.trans no) nofun
    | unread _ eq => exact appended low high eq
    | repeats _ _ _ eq => exact appended low high eq
  · cases judges_at (store := s.store) low with
    | joins c mark read' admits _ =>
      rw [ofNat_val] at read'
      cases read.symm.trans read'
      have place : 6 + i.val = b.val := place_of_readBlock read
      rw [← place] at admits
      obtain zero | others := (admits_profile _ i p).mp admits
      · exact absurd zero model
      · refine absurd same (others j q (fun e => less.ne (congrArg Fin.val e)) ?_)
        rw [profile_of_earlier less, ← config]
        exact found
    | unread _ eq => exact appended low high eq
    | repeats _ _ _ eq => exact appended low high eq
  · cases judges_at (store := s.store) low with
    | joins c' _ read' _ eq =>
      rw [ofNat_val] at read'
      cases read.symm.trans read'
      refine ⟨fun mem => ?_, ?_⟩
      · rw [invalid, (stable low high).2, eq] at mem
        have before := ((judgedTo_judgeTo (store := s.store) (n := b.val - 1) (by omega)).range b.val mem).2
        omega
      · have put := block_put_self (judgeTo s.store (b.val - 1)).1 c
        rw [place_of_readBlock read] at put
        rw [config, (stable low high).1, eq]
        exact put
    | unread no _ =>
      rw [ofNat_val] at no
      obtain no | no := no
      · exact absurd (mark.symm.trans no) nofun
      · exact absurd (read.symm.trans no) nofun
    | repeats c' read' refused _ =>
      rw [ofNat_val] at read'
      cases read.symm.trans read'
      match c, read, alone, refused with
      | .profile i (some p), read, alone, refused =>
        have place : 6 + i.val = b.val := place_of_readBlock read
        rw [← place] at refused
        refine absurd ((admits_profile _ i p).mpr ?_) (Bool.eq_false_iff.mp refused)
        by_cases zero : p.model = 0
        · exact .inl zero
        · refine .inr fun j q apart found => ?_
          obtain less | same | less := lt_trichotomy j.val i.val
          · rw [profile_of_earlier less, ← config] at found
            exact alone i j p q rfl zero less found
          · exact absurd (Fin.ext same) apart
          · rw [profile_of_later less] at found
            cases found
  · rw [invalid] at hb
    rw [config]
    exact judged.factory b (judged.range b hb).1 (judged.range b hb).2 (.inr hb)

end Sys2Proof.Machine


/-! # The restore of the image at a start (R42, R130, R133, R198)

What a packed record restores, and the table, the directory and the actions that a start builds of an image. -/

namespace Sys2Proof.Machine

/-! ## A record's actions settled where no trailer has a run -/

/-- The cause an action of a record settles to (R152, R156). -/
def State.settledCause (s : State) (p : Post) (a : Action) : Option Nat :=
  match s.carrier p a with
  | some x => if ((s.inForce p).of a).isSome then (s.inForce p).of a else some (x.push.getD 0)
  | none => none

/-- What settling some actions of a trailer with no run leaves. -/
structure SettlesIdle (p : Post) (settled : List Action) (s t : State) : Prop where
  changes : t = { s with actions := t.actions, outputs := t.outputs, queues := t.queues }
  others : ∀ q, q ≠ p → t.inForce q = s.inForce q
  self : ∀ a, (t.inForce p).of a = if a ∈ settled then s.settledCause p a else (s.inForce p).of a
  queues : s.Unfiled p → t.queues = s.queues
  shrinks : Shrinks s t

theorem SettlesIdle.trailer {p : Post} {l : List Action} {s t : State} (h : SettlesIdle p l s t) (q : Post) :
    t.trailer q = s.trailer q := by
  rw [h.changes]
  rfl

theorem SettlesIdle.trans {p : Post} {l m : List Action} {s t u : State} (h : SettlesIdle p l s t)
    (k : SettlesIdle p m t u) (apart : ∀ a ∈ m, a ∉ l) : SettlesIdle p (l ++ m) s u where
  changes := by
    have first := h.changes
    refine k.changes.trans ?_
    rw [first]
  others q hq := (k.others q hq).trans (h.others q hq)
  self a := by
    have carrier : t.carrier p a = s.carrier p a := by
      rw [h.changes]
      rfl
    rw [k.self, h.self]
    by_cases here : a ∈ m
    · have before := apart a here
      rw [if_pos here, if_pos (List.mem_append_right l here)]
      unfold State.settledCause
      rw [carrier, h.self, if_neg before]
    · rw [if_neg here]
      simp only [List.mem_append, here, or_false]
  queues unfiled := (k.queues (State.Unfiled.shrinks unfiled h.shrinks)).trans (h.queues unfiled)
  shrinks q := (k.shrinks q).trans (h.shrinks q)

theorem queue_of_queues {s t : State} (h : t.queues = s.queues) (q : Queue) : t.queue q = s.queue q :=
  congrArg (fun v : Vector (List Request) 9 => v.get q) h

theorem inForce_activate_other (s : State) {p q : Post} (h : q ≠ p) (a : Action) (k : Nat) :
    (s.activate p a k).inForce q = s.inForce q :=
  ((FindingKit.others p).activate s rfl a k q h).2.2

theorem removeRequest_of_unfiled {s : State} {p : Post} (h : s.Unfiled p) : s.removeRequest p = s := by
  unfold State.removeRequest
  rw [State.requestOf_eq_none_iff.mpr h]

theorem ActionsInForce.of_put (x : ActionsInForce) {a : Action} (some : a ≠ .none) (v : Option Nat) (b : Action) :
    (x.put a v).of b = if b = a then v else x.of b := by
  cases a <;> cases b <;> simp_all [ActionsInForce.put, ActionsInForce.of]

section
variable {s : State} {p : Post} (idle : s.run p = none)
include idle

/-- An action that comes into force for a trailer with no run. -/
theorem applyAction_of_idle (a : Action) (k : Nat) : s.applyAction p a k = s.activate p a k ∨
    (a = .inhibitDefrost ∧ s.applyAction p a k = (s.activate p a k).removeRequest p) := by
  have run : (s.activate p a k).run p = none := by
    unfold State.run
    rw [State.activate_trailer]
    exact idle
  unfold State.applyAction
  split
  · rename_i no
    refine .inl ?_
    unfold State.activate
    rw [if_pos no]
  · dsimp only
    cases a with
    | none | beacon => exact .inl rfl
    | inhibitDefrost =>
      refine .inr ⟨rfl, ?_⟩
      dsimp only
      unfold State.inhibitDefrost State.abortRun
      rw [removeRequest_run, run]
    | cutHeater =>
      refine .inl ?_
      dsimp only
      unfold State.causeJoins
      rw [run]

/-- An action withdrawn from a trailer with no run. -/
theorem withdrawAction_of_idle (a : Action) : s.withdrawAction p a =
    if s.actionInForce p a then s.putInForce p ((s.inForce p).put a none) else s := by
  unfold State.withdrawAction
  split
  · have run : (s.putInForce p ((s.inForce p).put a none)).run p = none := idle
    dsimp only
    split
    · rfl
    · rfl
    · rfl
    · unfold State.causeLeaves
      rw [run]
  · rfl

theorem settlesIdle_settleAction {a : Action} (some : a ≠ .none) : SettlesIdle p [a] s (s.settleAction p a) := by
  unfold State.settleAction
  cases carrier : s.carrier p a with
  | none =>
    dsimp only
    rw [withdrawAction_of_idle idle]
    split
    · refine ⟨rfl, fun q hq => State.inForce_putInForce_other s p q _ hq, fun b => ?_, fun _ => rfl, fun _ => .refl _⟩
      rw [State.inForce_putInForce_self, ActionsInForce.of_put _ some]
      simp only [List.mem_singleton]
      split
      · rename_i e
        rw [e, State.settledCause, carrier]
      · rfl
    · rename_i off
      refine ⟨rfl, fun _ _ => rfl, fun b => ?_, fun _ => rfl, fun _ => .refl _⟩
      simp only [List.mem_singleton]
      split
      · rename_i e
        rw [e, State.settledCause, carrier]
        unfold State.actionInForce at off
        simpa using off
      · rfl
  | some x =>
    dsimp only
    have changes := State.activate_changes s p a (x.push.getD 0)
    have active : SettlesIdle p [a] s (s.activate p a (x.push.getD 0)) := by
      refine ⟨?_, fun q hq => inForce_activate_other s hq a _, fun b => ?_, fun _ => ?_, fun q => ?_⟩
      · rw [changes]
      · rw [inForce_activate]
        simp only [List.mem_singleton]
        split
        · rename_i no
          split
          · rename_i e
            rw [e, State.settledCause, carrier]
            exact (if_pos (no.resolve_left some)).symm
          · rfl
        · rename_i fresh
          rw [ActionsInForce.of_put _ some]
          split
          · rename_i e
            rw [e, State.settledCause, carrier]
            exact (if_neg (not_or.mp fresh).2).symm
          · rfl
      · rw [changes]
      · rw [changes]
        exact .refl _
    obtain same | ⟨rfl, removed⟩ := applyAction_of_idle idle a (x.push.getD 0)
    · rw [same]
      exact active
    · rw [removed]
      generalize s.activate p .inhibitDefrost (x.push.getD 0) = t at *
      have change := removeRequest_changes t p
      refine ⟨?_, fun q hq => ?_, fun b => ?_, fun unfiled => ?_, fun q => ?_⟩
      · have first := active.changes
        generalize t.removeRequest p = w at change ⊢
        rw [change, first]
      · rw [change]
        exact active.others q hq
      · rw [change]
        exact active.self b
      · rw [removeRequest_of_unfiled (State.Unfiled.shrinks unfiled active.shrinks)]
        exact active.queues unfiled
      · exact (t.removeRequest_shrinks p q).trans (active.shrinks q)

end

/-- The actions of a record with no run settled (R152, R156). -/
theorem settlesIdle_settleActions {s : State} {p : Post} (idle : s.run p = none) :
    SettlesIdle p [.beacon, .cutHeater, .inhibitDefrost] s (s.settleActions p) := by
  have unfolded : s.settleActions p
      = ((s.settleAction p .beacon).settleAction p .cutHeater).settleAction p .inhibitDefrost := rfl
  rw [unfolded]
  have first := settlesIdle_settleAction idle (a := .beacon) nofun
  have idle₁ : (s.settleAction p .beacon).run p = none := by
    unfold State.run
    rw [first.trailer]
    exact idle
  generalize s.settleAction p .beacon = t at *
  have second := settlesIdle_settleAction idle₁ (a := .cutHeater) nofun
  have idle₂ : (t.settleAction p .cutHeater).run p = none := by
    unfold State.run
    rw [second.trailer]
    exact idle₁
  generalize t.settleAction p .cutHeater = u at *
  have third := settlesIdle_settleAction idle₂ (a := .inhibitDefrost) nofun
  exact (first.trans second (by simp)).trans third (by simp)

/-! ## The values of a packed record (10.6) -/

theorem beNat_lt (bs : List Byte) : beNat bs < 256 ^ bs.length := by
  unfold beNat
  induction bs using List.reverseRecOn with
  | nil => simp
  | append_singleton bs b ih =>
    have byte := b.isLt
    rw [List.foldl_append, List.length_append, List.length_singleton, pow_succ]
    simp only [List.foldl_cons, List.foldl_nil]
    omega

theorem takeNumber_lt {present : Bool} {k n : Nat} {bs rest : List Byte} (h : takeNumber present k bs = some (n, rest)) :
    n < 256 ^ k := by
  unfold takeNumber at h
  split at h
  · split at h
    · rename_i room
      cases h
      have small := beNat_lt (bs.take k)
      rw [List.length_take, Nat.min_eq_left room] at small
      exact small
    · cases h
  · cases h
    exact Nat.pow_pos (by omega)

theorem bind_some {α β : Type} {x : Option α} {f : α → Option β} {b : β} (h : (x >>= f) = some b) :
    ∃ a, x = some a ∧ f a = some b := Option.bind_eq_some_iff.mp h

/-- The saved values that a packed record carries: within their ranges, the serial in four bytes. -/
theorem takeRecord_ok {bs rest : List Byte} {v : Saved} (h : takeRecord bs = some (v, rest)) :
    v.ok = true ∧ v.serial < 2 ^ 32 := by
  unfold takeRecord at h
  obtain ⟨⟨_, _⟩, -, h⟩ := bind_some h
  obtain ⟨⟨_, _⟩, -, h⟩ := bind_some h
  obtain ⟨⟨_, _⟩, hs, h⟩ := bind_some h
  obtain ⟨⟨_, _⟩, -, h⟩ := bind_some h
  obtain ⟨⟨_, _⟩, -, h⟩ := bind_some h
  obtain ⟨⟨_, _⟩, -, h⟩ := bind_some h
  obtain ⟨⟨_, _⟩, -, h⟩ := bind_some h
  obtain ⟨⟨_, _⟩, -, h⟩ := bind_some h
  obtain ⟨⟨_, _⟩, -, h⟩ := bind_some h
  obtain ⟨⟨_, _⟩, -, h⟩ := bind_some h
  obtain ⟨⟨_, _⟩, -, h⟩ := bind_some h
  obtain ⟨⟨_, _⟩, -, h⟩ := bind_some h
  obtain ⟨⟨_, _⟩, -, h⟩ := bind_some h
  obtain ⟨⟨_, _⟩, -, h⟩ := bind_some h
  obtain ⟨⟨_, _⟩, -, h⟩ := bind_some h
  obtain ⟨⟨_, _⟩, -, h⟩ := bind_some h
  obtain ⟨⟨_, _⟩, -, h⟩ := bind_some h
  obtain ⟨⟨_, _⟩, -, h⟩ := bind_some h
  obtain ⟨_, -, h⟩ := bind_some h
  obtain ⟨ok, h⟩ := Option.ite_none_right_eq_some.mp h
  cases h
  exact ⟨ok, takeNumber_lt hs⟩

theorem takeRecords_ok {n : Nat} {bs : List Byte} {vs : List Saved} (h : takeRecords n bs = some vs) :
    ∀ v ∈ vs, v.ok = true ∧ v.serial < 2 ^ 32 := by
  induction n generalizing bs vs with
  | zero =>
    unfold takeRecords at h
    split at h <;> cases h
    nofun
  | succ n ih =>
    unfold takeRecords at h
    split at h
    · cases h
    · rename_i v rest taken
      obtain ⟨ws, hw, rfl⟩ := Option.map_eq_some_iff.mp h
      exact List.forall_mem_cons.mpr ⟨takeRecord_ok taken, ih hw⟩

theorem readImageBlock_ok {k n : Nat} {bs : List Byte} {vs : List Saved} (h : readImageBlock k bs = some (n, vs)) :
    ∀ v ∈ vs, v.ok = true ∧ v.serial < 2 ^ 32 := by
  unfold readImageBlock at h
  dsimp only at h
  split at h
  · obtain ⟨ws, hw, e⟩ := Option.map_eq_some_iff.mp h
    cases e
    exact takeRecords_ok hw
  · cases h

theorem readOnward_ok (n k : Nat) (l : List (List Byte)) : ∀ v ∈ readOnward n k l, v.ok = true ∧ v.serial < 2 ^ 32 := by
  induction l generalizing k with
  | nil => nofun
  | cons b rest ih =>
    unfold readOnward
    split
    · rename_i m rs read
      split
      · exact fun v hv => (List.mem_append.mp hv).elim (readImageBlock_ok read v) (ih _ v)
      · nofun
    · nofun

theorem readImage_ok {area : List (List Byte)} {n : Nat} {vs : List Saved} (h : readImage area = some (n, vs)) :
    ∀ v ∈ vs, v.ok = true ∧ v.serial < 2 ^ 32 := by
  unfold readImage at h
  split at h
  · cases h
  · split at h
    · rename_i n' rs read
      cases h
      exact fun v hv => (List.mem_append.mp hv).elim (readImageBlock_ok read v) (readOnward_ok _ _ _ v)
    · cases h

/-! ## The record of a packed record (R42, R130, R133) -/

theorem mem_all (c : FindingClass) : c ∈ FindingClass.all := by cases c <;> decide

/-- A saved set's class: found exactly where its bit is set. -/
theorem find_restored {α : Type} (make : FindingClass → α) (cls : α → FindingClass) (h : ∀ c, cls (make c) = c)
    (mask : Nat) (c : FindingClass) :
    ((FindingClass.all.filter fun c => mask.testBit c.num).map make).find? (fun a => decide (cls a = c))
      = if mask.testBit c.num then some (make c) else none := by
  split
  · rename_i on
    have mem : make c ∈ (FindingClass.all.filter fun c => mask.testBit c.num).map make :=
      List.mem_map_of_mem (List.mem_filter.mpr ⟨mem_all c, on⟩)
    cases found : ((FindingClass.all.filter fun c => mask.testBit c.num).map make).find? (fun a => decide (cls a = c)) with
    | none =>
      have no := List.find?_eq_none.mp found _ mem
      exact absurd (decide_eq_true (h c)) no
    | some a =>
      obtain ⟨c', -, rfl⟩ := List.mem_map.mp (List.mem_of_find?_eq_some found)
      have same : c' = c := (h c').symm.trans (by simpa using List.find?_some found)
      rw [same]
  · rename_i off
    rw [List.find?_eq_none]
    intro a ha
    obtain ⟨c', hc, rfl⟩ := List.mem_map.mp ha
    rw [h, decide_eq_true_eq]
    rintro rfl
    exact off (List.mem_filter.mp hc).2

theorem restoredFrom_record {v : Saved} (ok : v.ok = true) (serial : v.serial < 2 ^ 32) (now : Time) (hp : Nat) :
    ((v.record now hp).sealed).RestoredFrom v now hp := by
  simp only [Saved.ok, Bool.and_eq_true, decide_eq_true_eq] at ok
  obtain ⟨⟨⟨profile, -⟩, custody⟩, -⟩ := ok
  refine ⟨rfl, ?_, rfl, ?_, ⟨rfl, rfl, rfl⟩, ⟨rfl, rfl, rfl, rfl, rfl⟩, ⟨rfl, rfl⟩, rfl, rfl, rfl, rfl, ?_,
    ⟨rfl, rfl, rfl, rfl, rfl, rfl⟩, ⟨rfl, rfl, rfl, rfl, rfl, rfl, rfl, ?_⟩, rfl, fun c => ?_, fun c => ?_, rfl⟩
  · exact Nat.mod_eq_of_lt serial
  · change (v.profile.map (Fin.ofNat 32)).map (·.val) = v.profile
    cases h : v.profile with
    | none => rfl
    | some i =>
      rw [h] at profile
      exact congrArg some (Nat.mod_eq_of_lt profile)
  · change (restoredCustody v.custody v.tag).code = v.custody ∧
      ((v.custody = 1 ∨ v.custody = 2) → (restoredCustody v.custody v.tag).tag = v.tag)
    generalize v.custody = k at custody
    obtain rfl | rfl | rfl | rfl : k = 0 ∨ k = 1 ∨ k = 2 ∨ k = 3 := by omega
    all_goals simp [restoredCustody, Custody.code, Custody.tag]
  · change hoursRemaining (if v.bs = 0 then none else some v.bs) (if decide (v.lf16 ≠ 0) then reportedLevel v.lf16 else 0)
      = if v.bs = 0 then 9999 else min 9999 (reportedLevel v.lf16 * 10 / v.bs)
    have level : (if decide (v.lf16 ≠ 0) = true then reportedLevel v.lf16 else 0) = reportedLevel v.lf16 := by
      by_cases zero : v.lf16 = 0
      · rw [zero]
        rfl
      · rw [if_pos (decide_eq_true zero)]
    rw [level]
    unfold hoursRemaining
    by_cases zero : v.bs = 0
    · rw [if_pos zero, if_pos zero]
    · rw [if_neg zero, if_neg zero]
      dsimp only
      rw [if_neg zero]
  · exact find_restored (fun c => ({ cls := c, detail := 0, push := none } : ActiveFinding)) ActiveFinding.cls (fun _ => rfl)
      v.active c
  · exact find_restored (fun c => ({ cls := c, detail := 0 } : NotedFinding)) NotedFinding.cls (fun _ => rfl) v.noted c

/-! ## The records of an image restored in their order (R42) -/

/-- Whether a packed record is kept beside those kept before it (R42). -/
def keepsSaved (installed : Post → Bool) (kept : List Saved) (v : Saved) : Bool :=
  installed v.post && kept.all fun w => decide (w.serial ≠ v.serial ∧ w.post ≠ v.post)

/-- The records kept after one more. -/
def keepOne (installed : Post → Bool) (kept : List Saved) (v : Saved) : List Saved :=
  if keepsSaved installed kept v then kept ++ [v] else kept

theorem restoredOf_eq (installed : Post → Bool) (vs : List Saved) :
    restoredOf installed vs = vs.foldl (keepOne installed) [] := rfl

/-- The serial of a packed record as the directory holds it. -/
def Saved.word (v : Saved) : Word32 := BitVec.ofNat 32 v.serial

/-- The table that a start has built of the records kept so far, over a cleared state. -/
structure RestoredTo (c : State) (kept : List Saved) (s : State) : Prop where
  changes : s = { c with
    records := s.records, directory := s.directory, actions := s.actions, outputs := s.outputs }
  small : ∀ v ∈ kept, v.serial < 2 ^ 32
  record : ∀ v ∈ kept, s.trailer v.post = (v.record c.now c.config.hp).sealed
  actions : ∀ v ∈ kept, ∀ a : Action, a ≠ .none → (s.inForce v.post).of a
    = if (v.record c.now c.config.hp).active.any fun x => decide ((c.tableEntry x.cls).action = a) then some 0 else none
  others : ∀ p, (∀ v ∈ kept, v.post ≠ p) → s.trailer p = .vacant ∧ s.inForce p = .none
  rising : s.directory.Pairwise fun a b => a.1.toNat < b.1.toNat
  entry : ∀ e, e ∈ s.directory ↔ ∃ v ∈ kept, e = (v.word, v.post)

/-- A state cleared for a restore: no request and an empty table. -/
structure State.ClearedTable (c : State) : Prop where
  queues : ∀ q, c.queue q = []
  trailers : ∀ p, c.trailer p = .vacant
  actions : ∀ p, c.inForce p = .none
  directory : c.directory = []

theorem State.ClearedTable.restoredTo {c : State} (h : c.ClearedTable) : RestoredTo c [] c where
  changes := rfl
  small := nofun
  record := nofun
  actions := nofun
  others p _ := ⟨h.trailers p, h.actions p⟩
  rising := h.directory ▸ .nil
  entry e := by
    rw [h.directory]
    simp

theorem word_ne {v w : Saved} (hv : v.serial < 2 ^ 32) (hw : w.serial < 2 ^ 32) (h : v.serial ≠ w.serial) :
    v.word ≠ w.word := fun e => h <| by
  have values := congrArg BitVec.toNat e
  unfold Saved.word at values
  rw [BitVec.toNat_ofNat, BitVec.toNat_ofNat, Nat.mod_eq_of_lt hv, Nat.mod_eq_of_lt hw] at values
  exact values

/-- A packed record is dropped exactly where it is not kept (R42). -/
theorem RestoredTo.dropped_iff {c s : State} {kept : List Saved} (h : RestoredTo c kept s) {v : Saved}
    (small : v.serial < 2 ^ 32) :
    (!s.installed v.post || (s.dirLookup v.word).isSome || decide ((s.trailer v.post).state ≠ .vacant)) = true
      ↔ keepsSaved c.installed kept v = false := by
  have installed : s.installed v.post = c.installed v.post := by
    rw [h.changes]
    rfl
  have entered : (s.dirLookup v.word).isSome = true ↔ ∃ w ∈ kept, w.serial = v.serial := by
    unfold State.dirLookup
    rw [Option.isSome_map, List.find?_isSome]
    constructor
    · rintro ⟨e, he, same⟩
      obtain ⟨w, hw, rfl⟩ := (h.entry e).mp he
      refine ⟨w, hw, ?_⟩
      by_contra no
      exact word_ne (h.small w hw) small no (of_decide_eq_true same)
    · rintro ⟨w, hw, same⟩
      refine ⟨_, (h.entry _).mpr ⟨w, hw, rfl⟩, decide_eq_true ?_⟩
      unfold Saved.word
      rw [same]
  have taken : (s.trailer v.post).state ≠ .vacant ↔ ∃ w ∈ kept, w.post = v.post := by
    constructor
    · intro some
      by_contra none
      refine some ?_
      rw [(h.others v.post fun w hw e => none ⟨w, hw, e⟩).1]
      rfl
    · rintro ⟨w, hw, same⟩
      rw [← same, h.record w hw]
      nofun
  unfold keepsSaved
  rw [Bool.or_eq_true, Bool.or_eq_true, entered, decide_eq_true_eq, taken, installed, Bool.and_eq_false_iff,
    Bool.not_eq_true', List.all_eq_false]
  constructor
  · rintro ((off | ⟨w, hw, same⟩) | ⟨w, hw, same⟩)
    · exact .inl off
    · exact .inr ⟨w, hw, by simp [same]⟩
    · exact .inr ⟨w, hw, by simp [same]⟩
  · rintro (off | ⟨w, hw, clash⟩)
    · exact .inl (.inl off)
    · by_cases same : w.serial = v.serial
      · exact .inl (.inr ⟨w, hw, same⟩)
      · exact .inr ⟨w, hw, by simpa [same] using clash⟩

theorem restoreRecord_eq (s : State) (v : Saved) : s.restoreRecord v =
    if !s.installed v.post || (s.dirLookup v.word).isSome || decide ((s.trailer v.post).state ≠ .vacant) then s
    else ((s.putTrailer v.post (v.record s.now s.config.hp)).dirInsert v.word v.post).settleActions v.post := rfl

theorem record_push (v : Saved) (now : Time) (hp : Nat) : ∀ x ∈ (v.record now hp).active, x.push = none := by
  intro x hx
  obtain ⟨c, -, rfl⟩ := List.mem_map.mp hx
  rfl

theorem isSome_find {α : Type} (l : List α) (f : α → Bool) : (l.find? f).isSome = l.any f := by
  rw [Bool.eq_iff_iff, List.find?_isSome, List.any_eq_true]

/-- A record restored (R42): it stands with its entry and the actions that its classes carry. -/
theorem mem_settled {a : Action} (h : a ≠ .none) : a ∈ [Action.beacon, .cutHeater, .inhibitDefrost] := by
  cases a with
  | none => exact absurd rfl h
  | beacon => decide
  | cutHeater => decide
  | inhibitDefrost => decide

theorem RestoredTo.insert {c s : State} {kept : List Saved} (cleared : c.ClearedTable) (h : RestoredTo c kept s) {v : Saved}
    (small : v.serial < 2 ^ 32) (keeps : keepsSaved c.installed kept v = true) :
    RestoredTo c (kept ++ [v])
      (((s.putTrailer v.post (v.record s.now s.config.hp)).dirInsert v.word v.post).settleActions v.post) := by
  obtain ⟨-, apart⟩ := Bool.and_eq_true_iff.mp keeps
  have apart : ∀ w ∈ kept, w.serial ≠ v.serial ∧ w.post ≠ v.post := fun w hw =>
    of_decide_eq_true (List.all_eq_true.mp apart w hw)
  have now : s.now = c.now := by rw [h.changes]; rfl
  have hp : s.config.hp = c.config.hp := by rw [h.changes]
  rw [now, hp]
  generalize ht : (s.putTrailer v.post (v.record c.now c.config.hp)).dirInsert v.word v.post = t
  have self : t.trailer v.post = (v.record c.now c.config.hp).sealed := by
    rw [← ht]
    exact State.trailer_putTrailer_self s v.post _
  have other (p : Post) (hp : p ≠ v.post) : t.trailer p = s.trailer p := by
    rw [← ht]
    exact State.trailer_putTrailer_other s v.post p _ hp
  have inForce (p : Post) : t.inForce p = s.inForce p := by rw [← ht]; rfl
  have directory : t.directory = insertEntry v.word v.post s.directory := by rw [← ht]; rfl
  have changes : t = { c with records := t.records, directory := t.directory, actions := t.actions, outputs := t.outputs } := by
    have first := h.changes
    rw [← ht, first]
    rfl
  have idle : t.run v.post = none := by
    unfold State.run
    rw [self]
    rfl
  have unfiled : t.Unfiled v.post := fun q r hr => by
    have queue : t.queue q = [] := by
      rw [changes]
      exact cleared.queues q
    rw [queue] at hr
    cases hr
  have settles := settlesIdle_settleActions idle
  have queues := settles.queues unfiled
  have settled (a : Action) (ha : a ≠ .none) : t.settledCause v.post a
      = if (v.record c.now c.config.hp).active.any fun x => decide ((c.tableEntry x.cls).action = a) then some 0 else none := by
    have none : (t.inForce v.post).of a = none := by
      rw [inForce, (h.others v.post fun w hw => (apart w hw).2).2]
      cases a <;> rfl
    have carrier : t.carrier v.post a
        = (v.record c.now c.config.hp).active.find? fun x => decide ((c.tableEntry x.cls).action = a) := by
      unfold State.carrier
      rw [self, changes]
      rfl
    unfold State.settledCause
    rw [none, carrier, ← isSome_find]
    cases found : (v.record c.now c.config.hp).active.find? fun x => decide ((c.tableEntry x.cls).action = a) with
    | none => rfl
    | some x =>
      dsimp only
      rw [record_push v _ _ x (List.mem_of_find?_eq_some found)]
      rfl
  generalize t.settleActions v.post = u at *
  have trailer (p : Post) : u.trailer p = t.trailer p := settles.trailer p
  have directory' : u.directory = insertEntry v.word v.post s.directory := by
    rw [settles.changes]
    exact directory
  have fresh : ∀ e ∈ s.directory, e.1 ≠ v.word := fun e he => by
    obtain ⟨w, hw, rfl⟩ := (h.entry e).mp he
    exact word_ne (h.small w hw) small (apart w hw).1
  refine ⟨?_, ?_, fun w hw => ?_, fun w hw a ha => ?_, fun p hp => ?_, ?_, fun e => ?_⟩
  · have first := settles.changes
    rw [queues] at first
    rw [first, changes]
  · exact List.forall_mem_append.mpr ⟨h.small, List.forall_mem_singleton.mpr small⟩
  · rw [trailer]
    obtain hw | hw := List.mem_append.mp hw
    · rw [other w.post (apart w hw).2]
      exact h.record w hw
    · rw [List.mem_singleton.mp hw, self]
  · obtain hw | hw := List.mem_append.mp hw
    · rw [settles.others w.post (apart w hw).2, inForce]
      exact h.actions w hw a ha
    · rw [List.mem_singleton.mp hw, settles.self, if_pos (mem_settled ha), settled a ha]
  · have away : p ≠ v.post := fun e => hp v (by simp) e.symm
    obtain ⟨vacant, none⟩ := h.others p fun w hw => hp w (List.mem_append_left _ hw)
    rw [trailer, other p away, settles.others p away, inForce]
    exact ⟨vacant, none⟩
  · rw [directory']
    exact rising_insertEntry h.rising fresh
  · rw [directory', mem_insertEntry, h.entry]
    constructor
    · rintro (rfl | ⟨w, hw, rfl⟩)
      · exact ⟨v, by simp, rfl⟩
      · exact ⟨w, List.mem_append_left _ hw, rfl⟩
    · rintro ⟨w, hw, rfl⟩
      obtain hw | hw := List.mem_append.mp hw
      · exact .inr ⟨w, hw, rfl⟩
      · exact .inl (by rw [List.mem_singleton.mp hw])

theorem RestoredTo.step {c s : State} {kept : List Saved} (cleared : c.ClearedTable) (h : RestoredTo c kept s) {v : Saved}
    (small : v.serial < 2 ^ 32) : RestoredTo c (keepOne c.installed kept v) (s.restoreRecord v) := by
  have dropped := h.dropped_iff small
  rw [restoreRecord_eq]
  unfold keepOne
  cases keeps : keepsSaved c.installed kept v with
  | true =>
    rw [if_pos rfl, if_neg fun drop => absurd (dropped.mp drop) (by rw [keeps]; nofun)]
    exact h.insert cleared small keeps
  | false =>
    rw [if_neg Bool.false_ne_true, if_pos (dropped.mpr keeps)]
    exact h

theorem RestoredTo.all {c s : State} {kept : List Saved} (cleared : c.ClearedTable) (h : RestoredTo c kept s)
    {vs : List Saved} (small : ∀ v ∈ vs, v.serial < 2 ^ 32) :
    RestoredTo c (vs.foldl (keepOne c.installed) kept) (s.forEach vs State.restoreRecord) := by
  induction vs generalizing s kept with
  | nil => exact h
  | cons v vs ih =>
    obtain ⟨first, rest⟩ := List.forall_mem_cons.mp small
    exact ih (h.step cleared first) rest

theorem keepOne_subset (installed : Post → Bool) (vs kept : List Saved) :
    ∀ v ∈ vs.foldl (keepOne installed) kept, v ∈ kept ∨ v ∈ vs := by
  induction vs generalizing kept with
  | nil => exact fun v hv => .inl hv
  | cons w vs ih =>
    intro v hv
    obtain hk | hv := ih _ v hv
    · unfold keepOne at hk
      split at hk
      · obtain hk | hk := List.mem_append.mp hk
        · exact .inl hk
        · exact .inr (List.mem_singleton.mp hk ▸ List.mem_cons_self)
      · exact .inl hk
    · exact .inr (List.mem_cons_of_mem _ hv)

end Sys2Proof.Machine


/-! # A start from the store (R18, R42, R191, R196 to R198)

A start clears the working memory, judges the blocks and restores the image: a `Starts` between the state whose
restart record it reads and the state it leaves. -/

namespace Sys2Proof.Machine

/-! ## What a start does -/

/-- The records that a start finds in the image area. -/
def State.imageRecords (s : State) : List Saved := ((readImage s.imageArea).map (·.2)).getD []

/-- The state in which a start restores the image: cleared, with its reasons taken and its blocks judged. -/
def State.clearedStart (s : State) : State :=
  { s.clearWorking with
    startPrimary := s.restartRecord.primary.getD .powerOn
    startSecondary := if s.restartRecord.primary.isSome then s.restartRecord.secondary else none
    restartRecord := { primary := none, secondary := none }
    rate := s.rateSwitch, config := (judgeBlocks s.store).1, invalidBlocks := (judgeBlocks s.store).2
    asFactory := (judgeBlocks s.store).2, imageNumber := (readImage s.imageArea).map (·.1)
    phase := .starting Config.lastImage }

theorem beginStart_eq (s : State) : s.beginStart = s.clearedStart.forEach s.imageRecords State.restoreRecord := by
  unfold State.beginStart State.imageRecords State.clearedStart
  dsimp only
  cases readImage s.imageArea <;> rfl

theorem imageRecords_of_read {s : State} {n : Nat} {vs : List Saved} (h : readImage s.imageArea = some (n, vs)) :
    s.imageRecords = vs := by
  unfold State.imageRecords
  rw [h]
  rfl

theorem imageRecords_ok (s : State) : ∀ v ∈ s.imageRecords, v.ok = true ∧ v.serial < 2 ^ 32 := by
  cases read : readImage s.imageArea with
  | none =>
    unfold State.imageRecords
    rw [read]
    nofun
  | some x => exact imageRecords_of_read read ▸ readImage_ok read

theorem clearedTable_clearedStart (s : State) : s.clearedStart.ClearedTable where
  queues q := Vector.getElem_replicate q.isLt
  trailers p := Vector.getElem_replicate p.isLt
  actions p := Vector.getElem_replicate p.isLt
  directory := rfl

/-- A start: the working memory cleared but for the table that the image gives. -/
structure Starts (s u : State) : Prop where
  changes : u = { s.clearedStart with
    records := u.records, directory := u.directory, actions := u.actions, outputs := u.outputs }
  run : ∀ p, u.run p = none
  judged : u.BlocksJudged
  restored : u.ImageRestored

theorem imageRestored_of_restoredTo {s u : State}
    (h : RestoredTo s.clearedStart (s.imageRecords.foldl (keepOne s.clearedStart.installed) []) u) : u.ImageRestored := by
  have changes := h.changes
  have area : u.imageArea = s.imageArea := by
    rw [changes]
    rfl
  have installed : u.installed = s.clearedStart.installed := by
    rw [changes]
    rfl
  have now : u.now = s.clearedStart.now := by
    rw [changes]
    rfl
  have config : u.config = s.clearedStart.config := by rw [changes]
  have entry (x : FindingClass) : u.tableEntry x = s.clearedStart.tableEntry x := by
    unfold State.tableEntry
    rw [config]
  have number : u.imageNumber = (readImage s.imageArea).map (·.1) := by
    rw [changes]
    rfl
  have kept {n : Nat} {vs : List Saved} (read : readImage s.imageArea = some (n, vs)) :
      restoredOf u.installed vs = s.imageRecords.foldl (keepOne s.clearedStart.installed) [] := by
    rw [restoredOf_eq, installed, imageRecords_of_read read]
  have ok : ∀ v ∈ s.imageRecords.foldl (keepOne s.clearedStart.installed) [], v.ok = true ∧ v.serial < 2 ^ 32 :=
    fun v hv => (keepOne_subset _ _ _ v hv).elim nofun (imageRecords_ok s v)
  have unkept (read : readImage s.imageArea = none) : s.imageRecords.foldl (keepOne s.clearedStart.installed) [] = [] := by
    unfold State.imageRecords
    rw [read]
    rfl
  generalize s.imageRecords.foldl (keepOne s.clearedStart.installed) [] = l at *
  refine ⟨?_, fun n vs read v hv => ?_, fun p hp => ?_, h.rising, fun e he => ?_⟩
  · rw [number, area]
  · rw [area] at read
    rw [kept read] at hv
    have record := h.record v hv
    refine ⟨?_, (h.entry _).mpr ⟨v, hv, rfl⟩, fun a ha => ?_⟩
    · rw [record, now, config]
      exact restoredFrom_record (ok v hv).1 (ok v hv).2 _ _
    · rw [h.actions v hv a ha, record]
      simp only [entry]
      rfl
  · have away : ∀ v ∈ l, v.post ≠ p := by
      cases read : readImage s.imageArea with
      | none =>
        rw [unkept read]
        nofun
      | some x =>
        rw [area] at hp
        exact kept read ▸ hp _ _ read
    obtain ⟨vacant, idle⟩ := h.others p away
    refine ⟨vacant, idle, fun e he => ?_⟩
    obtain ⟨v, hv, rfl⟩ := (h.entry e).mp he
    exact away v hv
  · obtain ⟨v, hv, rfl⟩ := (h.entry e).mp he
    rw [h.record v hv]
    exact ⟨rfl, rfl⟩

theorem starts_beginStart (s : State) : Starts s s.beginStart := by
  have table := (clearedTable_clearedStart s).restoredTo.all (clearedTable_clearedStart s)
    fun v hv => (imageRecords_ok s v hv).2
  rw [← beginStart_eq] at table
  generalize s.beginStart = u at *
  have changes := table.changes
  refine ⟨changes, fun p => ?_, blocksJudged_of_judge ?_ ?_ ?_, imageRestored_of_restoredTo table⟩
  · unfold State.run
    by_cases kept : ∃ v ∈ s.imageRecords.foldl (keepOne s.clearedStart.installed) [], v.post = p
    · obtain ⟨v, hv, rfl⟩ := kept
      rw [table.record v hv]
      rfl
    · rw [(table.others p fun v hv e => kept ⟨v, hv, e⟩).1]
      rfl
  all_goals
    rw [changes]
    rfl

/-! ## Power (R197, R198) -/

theorem spoilInFlight_of_calm {s : State} (calm : s.phase = .running ∨ s.phase = .awaitingMains) (idle : s.write = none) :
    s.spoilInFlight = s := by
  unfold State.spoilInFlight
  rw [idle]
  obtain phase | phase := calm <;> rw [phase]

/-- What the cut of a block being written or erased leaves of the clocks and the restart record. -/
theorem spoilInFlight_changes (s : State) : ∃ store count, s.spoilInFlight = { s with store := store, freeCount := count } := by
  unfold State.spoilInFlight
  split <;> exact ⟨_, _, rfl⟩

theorem failSupply_of_on {s : State} (on : s.phase ≠ .off) : s.failSupply = { s.spoilInFlight.clearWorking with
    restartRecord := if s.restartRecord.waitsForMains then
        { primary := some .mainsLoss, secondary := s.restartRecord.formerPrimary }
      else s.restartRecord
    phase := .off } := by
  unfold State.failSupply
  cases phase : s.phase with
  | off => exact absurd phase on
  | _ => rfl

theorem powerUp_of_on {s : State} (on : s.phase ≠ .off) (good : Bool) : s.powerUp good = s := by
  unfold State.powerUp
  cases phase : s.phase with
  | off => exact absurd phase on
  | _ => rfl

/-- Settles O52: power off keeps the restart record of R197, and power on starts from it. -/
theorem powerFailsAndReturns : Obligations.PowerFailsAndReturns := by
  intro s
  refine ⟨fun on => ⟨_, exec_of_effect (failSupply_of_on on), rfl, ?_, ?_, ?_, rfl, rfl, rfl, rfl, rfl, rfl, fun calm idle => ?_⟩,
    fun off => exec_of_effect ?_, fun off => ?_, fun off => ?_, fun good on => exec_of_effect (powerUp_of_on on good)⟩
  · dsimp only
    unfold RestartRecord.waitsForMains RestartRecord.formerPrimary
    by_cases first : s.restartRecord.primary = some .mainsLoss
    · simp [first]
    · by_cases second : s.restartRecord.secondary = some .mainsLoss <;> simp [first, second]
  · obtain ⟨store, count, same⟩ := spoilInFlight_changes s
    rw [same]
    rfl
  · obtain ⟨store, count, same⟩ := spoilInFlight_changes s
    rw [same]
    rfl
  · rw [spoilInFlight_of_calm calm idle]
    rfl
  · change s.failSupply = s
    unfold State.failSupply
    rw [off]
  · have up : s.effect (.powerOn true) = State.beginStart { s with clockInvalid := false } := by
      change s.powerUp true = _
      unfold State.powerUp
      rw [off]
      rfl
    have starts := starts_beginStart { s with clockInvalid := false }
    refine ⟨_, exec_of_effect up, ?_⟩
    generalize State.beginStart { s with clockInvalid := false } = u at *
    obtain ⟨changes, run, judged, restored⟩ := starts
    refine ⟨?_, ?_, ?_, ?_, ?_, ?_, run, judged, restored⟩
    all_goals
      rw [changes]
      rfl
  · have up : s.effect (.powerOn false) = State.beginStart { s with
        clockInvalid := true, runCounter := 0, yardOffset := 0, restartRecord := { primary := none, secondary := none } } := by
      change s.powerUp false = _
      unfold State.powerUp
      rw [off]
      rfl
    have starts := starts_beginStart { s with
      clockInvalid := true, runCounter := 0, yardOffset := 0, restartRecord := { primary := none, secondary := none } }
    refine ⟨_, exec_of_effect up, ?_⟩
    generalize State.beginStart { s with
      clockInvalid := true, runCounter := 0, yardOffset := 0, restartRecord := { primary := none, secondary := none } } = u
      at *
    obtain ⟨changes, run, judged, restored⟩ := starts
    refine ⟨?_, ?_, ?_, ?_, ?_, ?_, ?_, run, judged, restored⟩
    all_goals
      rw [changes]
      rfl

/-! ## The end of a flush (R196, R197) -/

theorem flushNext_of_more {s : State} {b : Fin 102} {k k' : List Byte} {rest : List (List Byte)}
    (phase : s.phase = .flushing b.val (k :: k' :: rest)) :
    s.flushNext = { s.putBlock b { bytes := k, mark := true } with phase := .flushing (b.val + 1) (k' :: rest) } := by
  unfold State.flushNext
  rw [phase]
  dsimp only
  rw [ofNat_val]

theorem flushNext_of_last {s : State} {b : Fin 102} {k : List Byte} (phase : s.phase = .flushing b.val [k]) :
    s.flushNext = (s.putBlock b { bytes := k, mark := true }).flushEnded := by
  unfold State.flushNext
  rw [phase]
  dsimp only
  rw [ofNat_val]

theorem waitsForMains_iff (r : RestartRecord) :
    r.waitsForMains = true ↔ r.primary = some .mainsLoss ∨ r.secondary = some .mainsLoss := by
  unfold RestartRecord.waitsForMains
  rw [Bool.or_eq_true, decide_eq_true_eq, decide_eq_true_eq]

/-- A start for a mains dip: its reason, and the former reason in the slot. -/
structure StartsByDip (s u : State) : Prop where
  phase : u.phase = .starting 101
  primary : u.startPrimary = .mainsDip
  secondary : u.startSecondary = if s.restartRecord.primary = some .mainsLoss then s.restartRecord.secondary
    else s.restartRecord.primary
  store : u.store = s.store
  mains : u.mainsPresent = s.mainsPresent
  run : ∀ p, u.run p = none
  judged : u.BlocksJudged
  restored : u.ImageRestored

theorem startsByDip_mainsDip (s : State) : StartsByDip s s.mainsDip := by
  have starts := starts_beginStart
    { s with restartRecord := { primary := some .mainsDip, secondary := s.restartRecord.formerPrimary } }
  change Starts _ s.mainsDip at starts
  generalize s.mainsDip = u at *
  obtain ⟨changes, run, judged, restored⟩ := starts
  refine ⟨?_, ?_, ?_, ?_, ?_, run, judged, restored⟩
  all_goals
    rw [changes]
    rfl

theorem returnMains_of_waiting {s : State} (waiting : s.phase = .awaitingMains) :
    s.returnMains = State.mainsDip { s with mainsPresent := true } := by
  unfold State.returnMains
  rw [waiting]

theorem returnMains_of_other {s : State} (other : s.phase ≠ .awaitingMains) :
    s.returnMains = { s with mainsPresent := true } := by
  unfold State.returnMains
  cases phase : s.phase with
  | awaitingMains => exact absurd phase other
  | _ => rfl

/-- Settles O51: a start takes its reasons from the restart record that the flush or the dip leaves. -/
theorem flushEndsInAStart : Obligations.FlushEndsInAStart := by
  intro s
  refine ⟨fun b k k' rest phase => exec_of_effect (flushNext_of_more phase), fun b k phase => ?_, fun waiting => ?_,
    fun other => exec_of_effect (returnMains_of_other other)⟩
  · have last := flushNext_of_last phase
    have stored : (s.putBlock b { bytes := k, mark := true }).block b = { bytes := k, mark := true } :=
      block_putBlock_self s b _
    have changes : s.putBlock b { bytes := k, mark := true }
        = { s with store := (s.putBlock b { bytes := k, mark := true }).store } := rfl
    generalize s.putBlock b { bytes := k, mark := true } = w at *
    refine ⟨fun first second => ?_, fun loss absent => exec_of_effect ?_, fun loss present => ?_⟩
    · have ended : w.flushEnded = w.beginStart := by
        unfold State.flushEnded
        refine if_neg fun waits => ?_
        rw [waitsForMains_iff, changes] at waits
        exact waits.elim first second
      have starts := starts_beginStart w
      refine ⟨_, exec_of_effect (last.trans ended), ?_⟩
      generalize w.beginStart = u at *
      obtain ⟨changed, run, judged, restored⟩ := starts
      have store : u.store = w.store := by
        rw [changed]
        rfl
      refine ⟨?_, ?_, ?_, ?_, (congrArg (fun x => x.get b) store).trans stored, ?_, ?_, ?_, run, fun q => ⟨?_, ?_⟩, ?_, ?_,
        ?_, ?_, ?_, ?_, judged, restored⟩
      case refine_8 =>
        rw [changed]
        exact Vector.getElem_replicate q.isLt
      case refine_9 =>
        rw [changed]
        exact Vector.getElem_replicate q.isLt
      all_goals
        rw [changed, changes]
        rfl
    · refine last.trans ?_
      unfold State.flushEnded
      have waits : w.restartRecord.waitsForMains = true := by
        rw [changes]
        exact (waitsForMains_iff _).mpr loss
      have away : w.mainsPresent = false := by
        rw [changes]
        exact absent
      rw [if_pos waits, if_neg (away ▸ Bool.false_ne_true)]
    · have ended : w.flushEnded = w.mainsDip := by
        unfold State.flushEnded
        have waits : w.restartRecord.waitsForMains = true := by
          rw [changes]
          exact (waitsForMains_iff _).mpr loss
        have here : w.mainsPresent = true := by
          rw [changes]
          exact present
        rw [if_pos waits, if_pos here]
      have dip := startsByDip_mainsDip w
      refine ⟨_, exec_of_effect (last.trans ended), dip.phase, dip.primary, ?_,
        (congrArg (fun x => x.get b) dip.store).trans stored, dip.run, dip.judged, dip.restored⟩
      rw [dip.secondary, changes]
  · have back := startsByDip_mainsDip { s with mainsPresent := true }
    exact ⟨_, exec_of_effect (returnMains_of_waiting waiting), back.phase, back.mains, back.primary, back.secondary,
      back.store, back.run, back.judged, back.restored⟩

end Sys2Proof.Machine


/-! # Lines: their controllers, and posts installed and removed (R1 to R4, R8, R18, R165) -/

namespace Sys2Proof.Machine

/-! ## Writing and reading a line controller -/

@[simp] theorem State.line_putLine_self (s : State) (l : Line) (c : LineController) : (s.putLine l c).line l = c := by
  cases l <;> rfl

theorem State.line_putLine_other (s : State) {l l' : Line} (h : l' ≠ l) (c : LineController) :
    (s.putLine l c).line l' = s.line l' := by
  cases l <;> cases l' <;> first | rfl | exact absurd rfl h

theorem State.putLine_changes (s : State) (l : Line) (c : LineController) :
    s.putLine l c = { s with lineA := (s.putLine l c).lineA, lineB := (s.putLine l c).lineB } := by
  cases l <;> rfl

/-! ## The posts of a line -/

theorem postLine_postAt (l : Line) (i : Fin 120) : postLine (postAt l i) = l := by
  have bound := i.isLt
  cases l with
  | a =>
    refine if_pos ?_
    change i.val % 240 < 120
    omega
  | b =>
    refine if_neg ?_
    change ¬ (120 + i.val) % 240 < 120
    omega

theorem addressIndex_postAt (l : Line) (i : Fin 120) : addressIndex (postAt l i) = i := by
  have bound := i.isLt
  refine Fin.ext ?_
  cases l with
  | a =>
    change i.val % 240 % 120 % 120 = i.val
    omega
  | b =>
    change (120 + i.val) % 240 % 120 % 120 = i.val
    omega

theorem postAt_addressIndex (p : Post) : postAt (postLine p) (addressIndex p) = p := by
  have bound := p.isLt
  refine Fin.ext ?_
  unfold postLine
  split
  · change p.val % 120 % 120 % 240 = p.val
    omega
  · change (120 + p.val % 120 % 120) % 240 = p.val
    omega

theorem mem_postsOn {l : Line} {p : Post} : p ∈ postsOn l ↔ postLine p = l := by
  constructor
  · intro h
    obtain ⟨i, -, rfl⟩ := List.mem_map.mp h
    exact postLine_postAt l i
  · rintro rfl
    exact List.mem_map.mpr ⟨addressIndex p, List.mem_finRange _, postAt_addressIndex p⟩

theorem mem_installedPosts {l : Line} {set : BitVec 120} {p : Post} :
    p ∈ installedPosts l set ↔ postLine p = l ∧ set.getLsbD (addressIndex p).val = true := by
  unfold installedPosts
  constructor
  · intro h
    obtain ⟨i, hi, rfl⟩ := List.mem_map.mp h
    rw [addressIndex_postAt]
    exact ⟨postLine_postAt l i, (List.mem_filter.mp hi).2⟩
  · rintro ⟨rfl, on⟩
    exact List.mem_map.mpr ⟨addressIndex p, List.mem_filter.mpr ⟨List.mem_finRange _, on⟩, postAt_addressIndex p⟩

theorem mem_installedPosts_postAt {l : Line} {set : BitVec 120} {i : Fin 120} :
    postAt l i ∈ installedPosts l set ↔ set.getLsbD i.val = true := by
  rw [mem_installedPosts, postLine_postAt, addressIndex_postAt]
  exact ⟨And.right, fun h => ⟨rfl, h⟩⟩

theorem installedPosts_eq_nil_iff {l : Line} {set : BitVec 120} : installedPosts l set = [] ↔ set = 0 := by
  constructor
  · intro h
    refine BitVec.eq_of_getLsbD_eq fun i hi => ?_
    have none : ¬ set.getLsbD i = true := fun on => by
      have mem := mem_installedPosts_postAt (l := l) (i := ⟨i, hi⟩) |>.mpr on
      rw [h] at mem
      cases mem
    rw [Bool.not_eq_true] at none
    rw [none]
    exact (BitVec.getLsbD_zero).symm
  · rintro rfl
    refine List.eq_nil_iff_forall_not_mem.mpr fun p hp => ?_
    have on := (mem_installedPosts.mp hp).2
    rw [BitVec.ofNat_eq_ofNat, BitVec.getLsbD_zero] at on
    cases on

/-! ## Entries and output states given to posts -/

/-- The posts have taken the entries and the output states, and nothing else has changed. -/
structure Places (posts : List Post) (e : Post → Option PostEntry) (o : Post → Option OutputState) (s u : State) : Prop where
  changes : u = { s with posts := u.posts, outputs := u.outputs }
  placed : ∀ p ∈ posts, u.entry p = e p ∧ u.output p = o p
  others : ∀ p, p ∉ posts → u.entry p = s.entry p ∧ u.output p = s.output p

theorem places_forEach {posts : List Post} {e : Post → Option PostEntry} {o : Post → Option OutputState}
    {f : State → Post → State} (s : State)
    (hf : ∀ u p, u.config = s.config → f u p = (u.putEntry p (e p)).putOutput p (o p)) :
    Places posts e o s (s.forEach posts f) := by
  induction posts generalizing s with
  | nil => exact ⟨rfl, nofun, fun _ _ => ⟨rfl, rfl⟩⟩
  | cons p posts ih =>
    have first := hf s p rfl
    have config : (f s p).config = s.config := by
      rw [first]
      rfl
    have rest := ih (f s p) fun u q hu => hf u q (hu.trans config)
    obtain ⟨changes, placed, others⟩ := rest
    change Places (p :: posts) e o s ((f s p).forEach posts f)
    generalize (f s p).forEach posts f = u at *
    have self : (f s p).entry p = e p ∧ (f s p).output p = o p := by
      rw [first]
      exact ⟨State.entry_putEntry_self s p _, State.output_putOutput_self _ p _⟩
    refine ⟨?_, fun q hq => ?_, fun q hq => ?_⟩
    · rw [changes, first]
      rfl
    · by_cases later : q ∈ posts
      · exact placed q later
      · obtain rfl := (List.mem_cons.mp hq).resolve_right later
        exact ⟨(others q later).1.trans self.1, (others q later).2.trans self.2⟩
    · obtain ⟨apart, away⟩ := not_or.mp (List.mem_cons.not.mp hq)
      rw [(others q away).1, (others q away).2, first]
      exact ⟨State.entry_putEntry_other s p q _ apart, State.output_putOutput_other _ p q _ apart⟩

theorem places_install (s : State) (posts : List Post) :
    Places posts (fun _ => some .start) (fun p => some (s.startOutput p)) s (s.forEach posts State.installPost) :=
  places_forEach s fun u p config => by
    unfold State.installPost State.startOutput
    rw [config]
    rfl

theorem places_remove (s : State) (posts : List Post) : Places posts (fun _ => none) (fun _ => none) s
    (s.forEach posts fun s' p => (s'.putEntry p none).putOutput p none) :=
  places_forEach s fun _ _ _ => rfl

theorem Places.line {posts : List Post} {e : Post → Option PostEntry} {o : Post → Option OutputState} {s u : State}
    (h : Places posts e o s u) (l : Line) : u.line l = s.line l := by
  rw [h.changes]
  cases l <;> rfl

/-! ## The lines start (R18, R198) -/

theorem settleCauses_of_none {s : State} (h : s.heldCauses = []) : s.settleCauses = s := by
  unfold State.settleCauses
  rw [h]
  exact congrArg (fun c => ({ s with heldCauses := c } : State)) h.symm

/-- A line that has started with its posts. -/
structure StartsLine (l : Line) (s u : State) : Prop where
  changes : u = { s with lineA := u.lineA, lineB := u.lineB, posts := u.posts, outputs := u.outputs }
  line : u.line l = .start (if (s.lineConfig l).installed = 0 then .off else .recovering) (s.lineConfig l)
  other : ∀ l', l' ≠ l → u.line l' = s.line l'
  entry : ∀ p, postLine p = l → s.installed p = true → u.entry p = some .start
  away : ∀ p, postLine p ≠ l → u.entry p = s.entry p

theorem startsLine_startLine (s : State) (l : Line) : StartsLine l s (s.startLine l) := by
  unfold State.startLine
  dsimp only
  have empty : (if installedPosts l (s.lineConfig l).installed = [] then LineState.off else .recovering)
      = if (s.lineConfig l).installed = 0 then .off else .recovering := if_congr installedPosts_eq_nil_iff rfl rfl
  rw [empty]
  generalize hc : LineController.start (if (s.lineConfig l).installed = 0 then .off else .recovering) (s.lineConfig l) = c
  have line := s.line_putLine_self l c
  have other (l' : Line) (h : l' ≠ l) := s.line_putLine_other h c
  have put := s.putLine_changes l c
  have entry (p : Post) : (s.putLine l c).entry p = s.entry p := by
    rw [put]
    rfl
  have places := places_install (s.putLine l c) (installedPosts l (s.lineConfig l).installed)
  generalize s.putLine l c = v at *
  generalize v.forEach (installedPosts l (s.lineConfig l).installed) State.installPost = u at *
  refine ⟨?_, (places.line l).trans (line.trans hc.symm), fun l' h => (places.line l').trans (other l' h), fun p hp on => ?_, fun p hp => ?_⟩
  · have changes := places.changes
    rw [put] at changes
    rw [changes]
  · subst hp
    exact (places.placed p (mem_installedPosts.mpr ⟨rfl, on⟩)).1
  · exact (places.others p fun h => hp (mem_installedPosts.mp h).1).1.trans (entry p)

/-- Settles O53: the erase, and after block 38 both lines started one after the other. -/
theorem lastEraseStartsTheModule : Obligations.LastEraseStartsTheModule := by
  intro s
  refine ⟨fun b phase high => exec_of_effect ?_, fun phase none => ?_, fun other => exec_of_effect ?_⟩
  · change s.eraseNext = _
    unfold State.eraseNext
    rw [phase]
    dsimp only
    rw [if_neg (show ¬ b.val ≤ Config.firstImage from not_le_of_gt high), ofNat_val]
    rfl
  · have erased : s.effect .imageBlockErased = (s.putBlock 38 erasedBlock).finishStart := by
      change s.eraseNext = _
      unfold State.eraseNext
      rw [phase]
      rfl
    have stored := block_putBlock_self s 38 erasedBlock
    have put : ({ s.putBlock 38 erasedBlock with phase := .running } : State)
      = { s with store := (s.putBlock 38 erasedBlock).store, phase := .running } := rfl
    unfold State.finishStart at erased
    generalize s.putBlock 38 erasedBlock = w at *
    have first := startsLine_startLine { w with phase := .running } .a
    generalize State.startLine { w with phase := .running } .a = v at *
    have second := startsLine_startLine v .b
    generalize v.startLine .b = u at *
    have changes : u = { s with
        store := w.store, phase := .running, lineA := u.lineA, lineB := u.lineB, posts := u.posts, outputs := u.outputs } := by
      have changes := second.changes
      rw [first.changes, put] at changes
      rw [changes]
    have config (l : Line) : v.lineConfig l = s.lineConfig l := by
      rw [first.changes, put]
      cases l <;> rfl
    have installed (p : Post) : v.installed p = s.installed p := by
      unfold State.installed
      rw [config]
    have settled : u.settleCauses = u := settleCauses_of_none (by rw [changes]; exact none)
    refine ⟨u, exec_of_effect (erased.trans settled), ?_, ?_, fun l => ?_, fun p on => ?_, ?_, ?_, ?_⟩
    · rw [changes]
    · rw [changes]
      exact stored
    · cases l with
      | a =>
        rw [second.other .a nofun, first.line]
        rw [put]
        rfl
      | b =>
        rw [second.line, config]
        rfl
    · by_cases line : postLine p = .b
      · exact second.entry p line ((installed p).trans on)
      · rw [second.away p line]
        refine first.entry p ?_ ?_
        · cases h : postLine p with
          | a => rfl
          | b => exact absurd h line
        · rw [put]
          exact on
    all_goals
      rw [changes]
  · change s.eraseNext = s
    unfold State.eraseNext
    cases phase : s.phase with
    | starting b => exact absurd phase (other b)
    | _ => rfl

end Sys2Proof.Machine


/-! # The start of a round (R1 to R5, R166) -/

namespace Sys2Proof.Machine

/-! ## An exchange begins (R5, R166) -/

section
variable (s : State) (p : Post) (first : Bool)

theorem levelsFor_of_none {s : State} {p : Post} (h : s.output p = none) (first : Bool) : s.levelsFor p first = (.off, s) := by
  unfold State.levelsFor
  rw [h]

theorem levelsFor_changes : (s.levelsFor p first).2 = { s with outputs := (s.levelsFor p first).2.outputs } := by
  cases h : s.output p with
  | none => rw [levelsFor_of_none h]
  | some o =>
    rw [State.levelsFor_of_output h]
    rfl

theorem levelsFor_other {q : Post} (h : q ≠ p) : (s.levelsFor p first).2.output q = s.output q := by
  cases ho : s.output p with
  | none => rw [levelsFor_of_none ho]
  | some o =>
    rw [State.levelsFor_of_output ho]
    exact State.output_putOutput_other s p q _ h

/-- The levels turn no more than the toggle fields of the post's output state (R170). -/
theorem levelsFor_self {o : OutputState} (h : s.output p = some o) : ∃ o', (s.levelsFor p first).2.output p = some o' ∧
    o' = { o with nextToggle := o'.nextToggle, thisToggle := o'.thisToggle } := by
  rw [State.levelsFor_of_output h]
  exact ⟨_, State.output_putOutput_self s p _, s.workOut_changes p o first⟩

theorem levelsFor_self_none (h : s.output p = none) : (s.levelsFor p first).2.output p = none := by
  rw [levelsFor_of_none h]
  exact h

/-- The levels read the state of a line controller and nothing else of it. -/
theorem levelsFor_putLine {l : Line} {c : LineController} (h : c.state = (s.line l).state) :
    (s.putLine l c).levelsFor p first = ((s.levelsFor p first).1, (s.levelsFor p first).2.putLine l c) := by
  have state : ((s.putLine l c).line (postLine p)).state = (s.line (postLine p)).state := by
    by_cases same : postLine p = l
    · rw [same, State.line_putLine_self, h]
    · rw [State.line_putLine_other s same]
  have up : (s.putLine l c).lineUp p = s.lineUp p := by
    unfold State.lineUp
    rw [state]
  have output : (s.putLine l c).output p = s.output p := by cases l <;> rfl
  cases ho : s.output p with
  | none => rw [levelsFor_of_none ho, levelsFor_of_none (output.trans ho)]
  | some o =>
    have work : (s.putLine l c).workOut p o first = s.workOut p o first := by
      unfold State.workOut State.permitLevel
      rw [up]
      cases l <;> rfl
    rw [State.levelsFor_of_output ho, State.levelsFor_of_output (output.trans ho), work]
    cases l <;> rfl

end

/-- A post is polled on a line (R5): the round with its exchange, the levels worked out, and nothing else. -/
structure Polls (l : Line) (p : Post) (retry : Bool) (r : Round) (s u : State) : Prop where
  changes : u = { s with lineA := u.lineA, lineB := u.lineB, outputs := u.outputs }
  line : u.line l = { s.line l with round := some { r with
    exchange := { post := p, retry := retry, levels := (s.levelsFor p (!retry)).1 } } }
  other : ∀ l', l' ≠ l → u.line l' = s.line l'
  outputs : ∀ q, q ≠ p → u.output q = s.output q
  output : ∀ o, s.output p = some o → ∃ o', u.output p = some o' ∧
    o' = { o with nextToggle := o'.nextToggle, thisToggle := o'.thisToggle }
  absent : s.output p = none → u.output p = none

theorem output_putLine (s : State) (l : Line) (c : LineController) (q : Post) : (s.putLine l c).output q = s.output q := by
  cases l <;> rfl

theorem polls_beginExchange (s : State) (l : Line) (p : Post) (retry : Bool) (r : Round) :
    Polls l p retry r s (s.beginExchange l p retry r) := by
  unfold State.beginExchange
  dsimp only
  have levels := levelsFor_changes s p (!retry)
  have others (q : Post) (h : q ≠ p) := levelsFor_other s p (!retry) h
  have self (o : OutputState) (h : s.output p = some o) := levelsFor_self s p (!retry) h
  have absent := levelsFor_self_none s p (!retry)
  generalize hw : s.levelsFor p (!retry) = w at *
  have line (l' : Line) : w.2.line l' = s.line l' := by
    rw [levels]
    cases l' <;> rfl
  rw [line l]
  generalize hc : ({ s.line l with round := some { r with exchange := { post := p, retry := retry, levels := w.1 } } } :
    LineController) = c
  refine ⟨?_, (State.line_putLine_self _ l c).trans (hc.symm.trans (by rw [hw])), fun l' h => ?_, fun q h => ?_, fun o h => ?_, fun h => ?_⟩
  · rw [State.putLine_changes, levels]
  · rw [State.line_putLine_other _ h, line]
  · rw [output_putLine, others q h]
  · rw [output_putLine]
    exact self o h
  · rw [output_putLine]
    exact absent h

/-! ## A round starts (R3, R4) -/

theorem roundDue_iff (s : State) (l : Line) : s.roundDue l = true ↔ s.phase = .running ∧ (s.line l).round = none ∧
    ∀ t, (s.line l).lastStart = some t → ((s.lineConfig l).floor : Int) ≤ s.now - t := by
  unfold State.roundDue State.running
  dsimp only
  rw [Bool.and_eq_true, Bool.and_eq_true, decide_eq_true_eq, Option.isNone_iff_eq_none, and_assoc]
  cases (s.line l).lastStart <;> simp

theorem startRound_of_due {s : State} {l : Line} (due : s.roundDue l = true) (on : (s.line l).state ≠ .off) :
    s.startRound l = s.beginRound l := by
  unfold State.startRound
  rw [if_pos due, if_neg on]

theorem startRound_of_early {s : State} {l : Line} (h : ¬ s.roundDue l = true) : s.startRound l = s := if_neg h

theorem wakeLine_of_empty {s : State} {l : Line} (h : (s.lineConfig l).installed = 0) : s.wakeLine l = s :=
  if_neg fun x => x.2 h

/-- The round that a line begins at its first post (R3). -/
def LineController.firstRound (c : LineController) (p : Post) (rest : List Post) : Round :=
  { beganRecovering := decide (c.state = .recovering), hadGood := false, spoiled := false, remaining := rest
    exchange := { post := p, retry := false, levels := .off } }

/-- A line begins a round in a state that has taken its settings: the moment of its start, and its first exchange. -/
structure BeginsRound (l : Line) (p : Post) (rest : List Post) (s u : State) : Prop where
  changes : u = { s with lineA := u.lineA, lineB := u.lineB, outputs := u.outputs }
  line : u.line l = { s.line l with
    lastStart := some s.now
    round := some { (s.line l).firstRound p rest with
      exchange := { post := p, retry := false, levels := (s.levelsFor p true).1 } } }
  other : ∀ l', l' ≠ l → u.line l' = s.line l'
  outputs : ∀ q, q ≠ p → u.output q = s.output q
  output : ∀ o, s.output p = some o → ∃ o', u.output p = some o' ∧
    o' = { o with nextToggle := o'.nextToggle, thisToggle := o'.thisToggle }
  absent : s.output p = none → u.output p = none

theorem beginRound_of_posts {s v : State} {l : Line} {p : Post} {rest : List Post} (taken : s.takeSettings l = v)
    (posts : installedPosts l (v.line l).settings.installed = p :: rest) (now : v.now = s.now) :
    BeginsRound l p rest v (s.beginRound l) := by
  have begun : s.beginRound l = (v.putLine l { v.line l with lastStart := some v.now }).beginExchange l p false
      ((v.line l).firstRound p rest) := by
    unfold State.beginRound
    dsimp only
    rw [taken, posts, now]
    rfl
  rw [begun]
  generalize hc : ({ v.line l with lastStart := some v.now } : LineController) = c
  have state : c.state = (v.line l).state := by rw [← hc]
  have levels := levelsFor_putLine v p true state
  have self := v.line_putLine_self l c
  have other (l' : Line) (h : l' ≠ l) := v.line_putLine_other h c
  have changes := v.putLine_changes l c
  have outputs := output_putLine v l c
  have polls := polls_beginExchange (v.putLine l c) l p false ((v.line l).firstRound p rest)
  generalize v.putLine l c = w at *
  generalize w.beginExchange l p false ((v.line l).firstRound p rest) = u at *
  refine ⟨?_, ?_, fun l' h => (polls.other l' h).trans (other l' h), fun q h => (polls.outputs q h).trans (outputs q),
    fun o h => polls.output o ((outputs p).trans h), fun h => polls.absent ((outputs p).trans h)⟩
  · have changed := polls.changes
    rw [changes] at changed
    rw [changed]
  · rw [polls.line, self, ← hc]
    rw [Bool.not_false, levels]

theorem beginRound_of_empty {s v : State} {l : Line} (taken : s.takeSettings l = v)
    (posts : installedPosts l (v.line l).settings.installed = []) : s.beginRound l = v.goOff l := by
  unfold State.beginRound
  dsimp only
  rw [taken, posts]

theorem takeSettings_of_same {s : State} {l : Line} (h : (s.line l).settings.installed = (s.lineConfig l).installed) :
    s.takeSettings l = s.putLine l { s.line l with settings := s.lineConfig l } := by
  have none (x : BitVec 120) : installedPosts l (x &&& ~~~x) = [] := by
    rw [BitVec.and_not_self]
    exact installedPosts_eq_nil_iff.mpr rfl
  unfold State.takeSettings
  dsimp only
  rw [h, none]
  rfl

/-- Settles O32: the exchange of the round's first post, over the settings taken. -/
theorem roundStartPollsTheFirstPost : Obligations.RoundStartPollsTheFirstPost := by
  intro l s
  refine ⟨fun p rest phase idle on due same posts => ?_, fun early => exec_of_effect (startRound_of_early fun due => ?_),
    fun off empty => exec_of_effect ?_⟩
  · have starts := startRound_of_due ((roundDue_iff s l).mpr ⟨phase, idle, due⟩) on
    refine ⟨_, exec_of_effect (i := .roundStart l) starts, ?_⟩
    have taken := takeSettings_of_same same
    have self := s.line_putLine_self l { s.line l with settings := s.lineConfig l }
    have other (l' : Line) (h : l' ≠ l) := s.line_putLine_other h { s.line l with settings := s.lineConfig l }
    have changes := s.putLine_changes l { s.line l with settings := s.lineConfig l }
    have levels := levelsFor_putLine s p true (l := l) (c := { s.line l with settings := s.lineConfig l }) rfl
    have outputs := output_putLine s l { s.line l with settings := s.lineConfig l }
    generalize s.putLine l { s.line l with settings := s.lineConfig l } = v at *
    have now : v.now = s.now := by
      rw [changes]
      rfl
    have begins := beginRound_of_posts taken (p := p) (rest := rest) (by rw [self]; exact posts) now
    generalize s.beginRound l = u at *
    refine ⟨?_, fun l' h => (begins.other l' h).trans (other l' h), fun q h => (begins.outputs q h).trans (outputs q), ?_⟩
    · rw [begins.line, self, levels, now]
      rfl
    · have changed := begins.changes
      rw [changes] at changed
      rw [changed]
  · obtain ⟨phase, idle, due⟩ := (roundDue_iff s l).mp due
    obtain off | busy | ⟨t, last, early⟩ := early
    · exact off phase
    · exact busy idle
    · exact absurd (due t last) (not_le_of_gt early)
  · change s.startRound l = s
    by_cases due : s.roundDue l = true
    · unfold State.startRound
      rw [if_pos due, if_pos off, wakeLine_of_empty empty]
    · exact startRound_of_early due

end Sys2Proof.Machine


/-! # What stands apart: a record with nothing filed, beside what happens at other posts

A trailer with no request is not touched by any walk, so its record, its output state and its actions stand while the
owners work at other posts. `Kit.apart` says so of every operation. -/

namespace Sys2Proof.Machine

/-- A post stands apart between two states: its record, output state and actions are as they were, and it has no request. -/
structure StandsApart (q : Post) (s t : State) : Prop where
  unfiled : t.Unfiled q
  trailer : t.trailer q = s.trailer q
  output : t.output q = s.output q
  inForce : t.inForce q = s.inForce q

theorem StandsApart.refl {q : Post} {s : State} (h : s.Unfiled q) : StandsApart q s s := ⟨h, rfl, rfl, rfl⟩

theorem StandsApart.trans {q : Post} {s t u : State} (x : StandsApart q s t) (y : StandsApart q t u) : StandsApart q s u :=
  ⟨y.unfiled, y.trailer.trans x.trailer, y.output.trans x.output, y.inForce.trans x.inForce⟩

theorem StandsApart.of_others {p q : Post} {s t : State} (others : OtherPostsSame p s t) (shrinks : Shrinks s t) (h : p ≠ q)
    (unfiled : s.Unfiled q) : StandsApart q s t :=
  have ⟨trailer, output, inForce⟩ := others q h.symm
  ⟨unfiled.shrinks shrinks, trailer, output, inForce⟩

theorem StandsApart.of_alone {q : Post} {s t : State} (alone : ArbiterAlone s t) (trailer : t.trailer q = s.trailer q)
    (unfiled : t.Unfiled q) : StandsApart q s t where
  unfiled := unfiled
  trailer := trailer
  output := by
    unfold ArbiterAlone at alone
    rw [alone]
    rfl
  inForce := congrArg (fun v : Vector ActionsInForce 240 => v.get q) alone.actions

/-! ## Queues -/

theorem unfiled_putQueue {s : State} {p : Post} (h : s.Unfiled p) (q : Queue) {l : List Request} (hl : ∀ r ∈ l, r.post ≠ p) :
    (s.putQueue q l).Unfiled p := fun q' r hr => by
  by_cases same : q' = q
  · subst same
    rw [State.queue_putQueue_self] at hr
    exact hl r hr
  · rw [State.queue_putQueue_other _ _ _ _ same] at hr
    exact h q' r hr

theorem unfiled_joinQueue {s : State} {p : Post} (h : s.Unfiled p) (q : Queue) {r : Request} (hr : r.post ≠ p) :
    (s.joinQueue q r).Unfiled p :=
  unfiled_putQueue h q fun x hx => (mem_insertRequest.mp hx).elim (fun e => e ▸ hr) (h q x)

theorem unfiled_walk {s : State} {p : Post} (h : s.Unfiled p) (q : Queue) : (s.walk q).Unfiled p := by
  cases running : s.running with
  | false =>
    rw [State.walk_of_not_running running]
    exact h
  | true =>
    rw [State.walk_of_running running]
    have taken : (s.putQueue q (s.walked q).2).Unfiled p := unfiled_putQueue h q fun r hr => by
      obtain ⟨r₀, h₀, e⟩ := (s.walked_divides q).post_of_left hr
      have same : r₀.post = r.post := congrArg Prod.fst e
      exact same ▸ h q r₀ h₀
    intro q' r hr
    rw [queue_grants] at hr
    exact taken q' r hr

theorem standsApart_walk {s : State} {p : Post} (h : s.Unfiled p) (q : Queue) : StandsApart p s (s.walk q) :=
  .of_alone (arbiterAlone_walk s q) (trailer_walk_of_unfiled h q) (unfiled_walk h q)

theorem standsApart_endRun {s : State} {q : Post} (h : s.Unfiled q) {p : Post} (hp : p ≠ q) (o : RunOutcome) (b : Bool) :
    StandsApart q s (s.endRun p o b) := by
  cases hr : s.run p with
  | none =>
    rw [State.endRun_of_none hr]
    exact .refl h
  | some r =>
    rw [State.endRun_of_run hr]
    have releases := releaseRun_releases s p r o b
    have first : StandsApart q s (s.releaseRun p r o b) :=
      .of_alone (arbiterAlone_releaseRun s p r o b) (releases.others q hp.symm) fun q' x hx => h q' x (releases.queue q' ▸ hx)
    exact first.trans (standsApart_walk first.unfiled _)

theorem standsApart_joinQueue {s : State} {p : Post} (h : s.Unfiled p) (q : Queue) {r : Request} (hr : r.post ≠ p) :
    StandsApart p s (s.joinQueue q r) := ⟨unfiled_joinQueue h q hr, rfl, rfl, rfl⟩

/-! ## The kits -/

/-- Findings at other posts, as a kit. -/
def FindingKit.apart (q : Post) : FindingKit (· ≠ q) where
  rel t s := s.Unfiled q → StandsApart q s t
  refl _ := .refl
  after x y h := (y h).trans (x (y h).unfiled)
  edit s p f hp hf := .of_others (OtherPostsSame.edit s p f) (FindingKit.grants.edit s p f trivial hf).shrinks hp
  output s p o hp := .of_others ((FindingKit.others p).output s p o rfl) (FindingKit.grants.output s p o trivial).shrinks hp
  inForce s p a hp := .of_others ((FindingKit.others p).inForce s p a rfl) (FindingKit.grants.inForce s p a trivial).shrinks hp
  item s p b hp := .of_others ((FindingKit.others p).item s p b rfl) (FindingKit.grants.item s p b trivial).shrinks hp
  push s p c d k hp := .of_others ((FindingKit.others p).push s p c d k rfl)
    (FindingKit.grants.push s p c d k trivial).shrinks hp
  unfile s p hp := .of_others ((FindingKit.others p).unfile s p rfl) (FindingKit.grants.unfile s p trivial).shrinks hp

/-- The owners' work at other posts, as a kit. -/
def Kit.apart (q : Post) : Kit (· ≠ q) where
  toFindingKit := FindingKit.apart q
  editKey s p f hp hf := .of_others (OtherPostsSame.edit s p f) (keepsGrants_edit s p f hf.state hf.share).shrinks hp
  opening s p hp := .of_others (opens_opening s p).others (keepsGrants_opening s p).shrinks hp
  shut s p f hp _ := .of_others (OtherPostsSame.edit s p _) (keepsGrants_edit s p _ rfl rfl).shrinks hp
  walk _ q' h := standsApart_walk h q'
  endRun _ p o b hp h := standsApart_endRun h hp o b
  upgrade s p c hp h := by
    unfold State.upgradeRequest
    split
    · exact .refl h
    · rename_i q' r found
      have removed := (FindingKit.apart q).unfile s p hp h
      exact removed.trans (standsApart_joinQueue removed.unfiled q' (r := { r with cls := c })
        ((State.requestOf_spec found).2 ▸ hp))
  file s p c n hp _ _ _ h :=
    have joined := standsApart_joinQueue h (s.queueOf p)
      (r := { post := p, cls := c, filed := s.now, load := n, passes := 0 }) hp
    joined.trans (standsApart_walk joined.unfiled _)

/-! ## Departures one after another (R2, R30) -/

/-- A record that has departed: vacant values, no action, no entry and no request. -/
structure State.Gone (s : State) (p : Post) : Prop where
  vacant : s.trailer p = .vacant
  inForce : s.inForce p = .none
  directory : ∀ e ∈ s.directory, e.2 ≠ p
  unfiled : s.Unfiled p

theorem standsApart_depart {s : State} {q : Post} (h : s.Unfiled q) {p : Post} (hp : p ≠ q) : StandsApart q s (s.depart p) := by
  have kit := Kit.apart q
  have cut : StandsApart q s (s.cutShort p .departure) :=
    (standsApart_endRun h hp _ _).trans ((FindingKit.apart q).unfile _ p hp (standsApart_endRun h hp _ _).unfiled)
  unfold State.depart
  dsimp only
  generalize s.cutShort p .departure = c at *
  have emptied := cut.trans ((FindingKit.apart q).emptySets c hp cut.unfiled)
  generalize c.emptySets p = e at *
  have item := emptied.trans ((FindingKit.apart q).item e p (.departed (e.trailer p).serial) hp emptied.unfiled)
  generalize e.item p (.departed (e.trailer p).serial) = i at *
  exact item.trans ⟨item.unfiled, State.trailer_putTrailer_other _ p q _ hp.symm, rfl, rfl⟩

theorem State.GrantLaw.unfiled_of_vacant {s : State} (law : s.GrantLaw) {p : Post} (h : (s.trailer p).state ≠ .enrolled) :
    s.Unfiled p := (law.idle_of_not_enrolled h).unfiled

theorem gone_depart {s : State} (law : s.GrantLaw) (p : Post) : (s.depart p).Gone p := by
  have vacated := vacated_depart s p
  have cut := (law.cutShort p .departure).2
  unfold State.depart at vacated ⊢
  dsimp only at *
  generalize s.cutShort p .departure = c at *
  have empties := emptiesSets_emptySets c p
  have keeps := keepsGrants_emptySets c p
  generalize c.emptySets p = e at *
  have item := keepsGrants_item e p (.departed (e.trailer p).serial)
  have actions := State.item_actions e p (.departed (e.trailer p).serial)
  generalize e.item p (.departed (e.trailer p).serial) = i at *
  refine ⟨State.trailer_putTrailer_self _ p _, ?_, fun x hx => ?_, ?_⟩
  · have same : i.inForce p = e.inForce p := congrArg (fun v : Vector ActionsInForce 240 => v.get p) actions
    exact same.trans empties.inForce
  · rw [vacated.directory] at hx
    exact of_decide_eq_true (List.mem_filter.mp hx).2
  · exact (cut.unfiled.shrinks keeps.shrinks).shrinks item.shrinks

theorem State.Gone.depart {s : State} {q : Post} (h : s.Gone q) {p : Post} (hp : p ≠ q) : (s.depart p).Gone q := by
  have apart := standsApart_depart h.unfiled hp
  have vacated := vacated_depart s p
  refine ⟨apart.trailer.trans h.vacant, apart.inForce.trans h.inForce, fun e he => ?_, apart.unfiled⟩
  rw [vacated.directory] at he
  exact h.directory e (List.mem_filter.mp he).1

theorem outputs_withdrawAction (s : State) (p : Post) (a : Action) : (s.withdrawAction p a).outputs = s.outputs := by
  unfold State.withdrawAction
  split
  · dsimp only
    split
    · rfl
    · rfl
    · rfl
    · rw [State.causeLeaves_changes]
      rfl
  · rfl

theorem outputs_emptySets (s : State) (p : Post) : (s.emptySets p).outputs = s.outputs := by
  have edited : (s.editTrailer p fun t => { t with active := [], noted := [] }).outputs = s.outputs := by
    rw [State.editTrailer_changes]
  exact (outputs_withdrawAction _ p .inhibitDefrost).trans ((outputs_withdrawAction _ p .cutHeater).trans
    ((outputs_withdrawAction _ p .beacon).trans edited))

theorem arbiterAlone_endRun (s : State) (p : Post) (o : RunOutcome) (b : Bool) : ArbiterAlone s (s.endRun p o b) := by
  cases hr : s.run p with
  | none =>
    rw [State.endRun_of_none hr]
    exact .refl s
  | some r =>
    rw [State.endRun_of_run hr]
    exact (arbiterAlone_releaseRun s p r o b).trans (arbiterAlone_walk _ _)

theorem ArbiterAlone.outputs {s u : State} (h : ArbiterAlone s u) : u.outputs = s.outputs := by
  unfold ArbiterAlone at h
  rw [h]

theorem arbiterAlone_removeRequest (s : State) (p : Post) : ArbiterAlone s (s.removeRequest p) := by
  unfold ArbiterAlone
  have changes := removeRequest_changes s p
  generalize s.removeRequest p = u at changes ⊢
  rw [changes]

theorem outputs_depart (s : State) (p : Post) : (s.depart p).outputs = s.outputs := by
  have cut : (s.cutShort p .departure).outputs = s.outputs :=
    ((arbiterAlone_endRun s p _ _).trans (arbiterAlone_removeRequest _ p)).outputs
  unfold State.depart
  dsimp only
  generalize s.cutShort p .departure = c at *
  have emptied := (outputs_emptySets c p).trans cut
  generalize c.emptySets p = e at *
  exact (arbiterAlone_item e p (.departed (e.trailer p).serial)).outputs.trans emptied

/-- What departures of the records that a test picks leave, of the posts of a list. -/
structure DepartAll (posts : List Post) (picks : RecordState → Bool) (s u : State) : Prop where
  law : s.GrantLaw → u.GrantLaw
  gone : s.GrantLaw → ∀ p ∈ posts, picks (s.trailer p).state = true → u.Gone p
  stays : ∀ p, s.Gone p → u.Gone p
  keeps : KeepsIdentity (fun p => p ∈ posts ∧ picks (s.trailer p).state = true) s u
  outputs : u.outputs = s.outputs
  frame : ∀ f : Framed, f.rel u s

theorem running_of_framed {s t : State} (h : ∀ f : Framed, f.rel t s) : t.running = s.running :=
  State.of_framed h State.running fun _ => rfl

theorem departAll_one {picks : RecordState → Bool} (vacant : picks .vacant = false) (s : State) (p : Post) :
    DepartAll [p] picks s (if picks (s.trailer p).state then s.depart p else s) := by
  split
  · rename_i picked
    refine ⟨fun law => law.depart p, fun law q hq _ => ?_, fun q gone => ?_, fun q hq => ?_, outputs_depart s p,
      fun f => f.depart s p⟩
    · rw [List.mem_singleton.mp hq]
      exact gone_depart law p
    · refine gone.depart fun e => ?_
      subst e
      rw [gone.vacant] at picked
      exact absurd (vacant.symm.trans picked) nofun
    · exact (vacated_depart s p).others q fun e => hq ⟨e ▸ List.mem_singleton_self p, e ▸ picked⟩
  · rename_i left
    refine ⟨id, fun _ q hq picked => ?_, fun _ => id, fun _ _ => ⟨rfl, rfl⟩, rfl, fun f => f.refl s⟩
    rw [List.mem_singleton.mp hq] at picked
    exact absurd picked left

theorem DepartAll.append {posts posts' : List Post} {picks : RecordState → Bool} {s t u : State}
    (x : DepartAll posts picks s t) (y : DepartAll posts' picks t u) : DepartAll (posts ++ posts') picks s u := by
  refine ⟨y.law ∘ x.law, fun law q hq picked => ?_, fun q => y.stays q ∘ x.stays q, fun q hq => ?_,
    y.outputs.trans x.outputs, fun f => (y.frame f).trans (x.frame f)⟩
  · by_cases here : q ∈ posts
    · exact y.stays q (x.gone law q here picked)
    · have same := x.keeps q fun h => here h.1
      refine y.gone (x.law law) q ((List.mem_append.mp hq).resolve_left here) ?_
      rw [same.1]
      exact picked
  · have first := x.keeps q fun h => hq ⟨List.mem_append_left _ h.1, h.2⟩
    have second := y.keeps q fun h => hq ⟨List.mem_append_right _ h.1, first.1 ▸ h.2⟩
    exact ⟨second.1.trans first.1, second.2.trans first.2⟩

theorem departAll_forEach {picks : RecordState → Bool} (vacant : picks .vacant = false) {f : State → Post → State}
    (hf : ∀ s p, f s p = if picks (s.trailer p).state then s.depart p else s) (posts : List Post) (s : State) :
    DepartAll posts picks s (s.forEach posts f) := by
  induction posts generalizing s with
  | nil => exact ⟨id, nofun, fun _ => id, fun _ _ => ⟨rfl, rfl⟩, rfl, fun f => f.refl s⟩
  | cons p posts ih => exact (hf s p ▸ departAll_one vacant s p).append (ih (f s p))

theorem departAll_present (posts : List Post) (s : State) : DepartAll posts (fun st => decide (st ≠ .vacant)) s
    (s.forEach posts State.departIfPresent) :=
  departAll_forEach (by decide) (fun s p => by
    unfold State.departIfPresent
    by_cases h : (s.trailer p).state = .vacant <;> simp [h]) posts s

theorem departAll_discardRestored (s : State) (l : Line) : DepartAll (postsOn l) (fun st => decide (st = .restored)) s
    (s.discardRestored l) :=
  departAll_forEach (by decide) (fun s p => by simp only [decide_eq_true_eq]) (postsOn l) s

end Sys2Proof.Machine


/-! # The settings of a round (R1, R2, R8, R18, R165) -/

namespace Sys2Proof.Machine

/-! ## The settings taken -/

/-- What the settings of a round leave: the entries and output states of the posts added and removed, and the departures. -/
structure TakesSettings (l : Line) (s v : State) : Prop where
  now : v.now = s.now
  line : v.line l = { s.line l with settings := s.lineConfig l }
  other : ∀ l', l' ≠ l → v.line l' = s.line l'
  removed : ∀ p ∈ installedPosts l ((s.line l).settings.installed &&& ~~~(s.lineConfig l).installed),
    v.entry p = none ∧ v.output p = none
  added : ∀ p ∈ installedPosts l ((s.lineConfig l).installed &&& ~~~(s.line l).settings.installed),
    v.entry p = some .start ∧ v.output p = some (s.startOutput p)
  kept : ∀ p, p ∉ installedPosts l ((s.line l).settings.installed &&& ~~~(s.lineConfig l).installed) →
    p ∉ installedPosts l ((s.lineConfig l).installed &&& ~~~(s.line l).settings.installed) → v.entry p = s.entry p
  keptOutput : ∀ p, p ∉ installedPosts l ((s.line l).settings.installed &&& ~~~(s.lineConfig l).installed) →
    p ∉ installedPosts l ((s.lineConfig l).installed &&& ~~~(s.line l).settings.installed) → v.output p = s.output p
  quiet : installedPosts l ((s.line l).settings.installed &&& ~~~(s.lineConfig l).installed) = [] →
    v = { s with lineA := v.lineA, lineB := v.lineB, posts := v.posts, outputs := v.outputs }
  gone : s.GrantLaw →
    ∀ p ∈ installedPosts l ((s.line l).settings.installed &&& ~~~(s.lineConfig l).installed),
      (s.trailer p).state ≠ .vacant → v.Gone p

theorem added_not_removed {l : Line} {a b : BitVec 120} {p : Post} (h : p ∈ installedPosts l (a &&& ~~~b)) :
    p ∉ installedPosts l (b &&& ~~~a) := fun k => by
  have on := (mem_installedPosts.mp h).2
  have off := (mem_installedPosts.mp k).2
  rw [BitVec.getLsbD_and] at on off
  obtain ⟨on, -⟩ := Bool.and_eq_true_iff.mp on
  obtain ⟨-, off⟩ := Bool.and_eq_true_iff.mp off
  rw [BitVec.getLsbD_not, on] at off
  simp at off

theorem takesSettings_takeSettings (s : State) (l : Line) : TakesSettings l s (s.takeSettings l) := by
  unfold State.takeSettings
  dsimp only
  have self := s.line_putLine_self l { s.line l with settings := s.lineConfig l }
  have other (l' : Line) (h : l' ≠ l) := s.line_putLine_other h { s.line l with settings := s.lineConfig l }
  have put := s.putLine_changes l { s.line l with settings := s.lineConfig l }
  generalize s.putLine l { s.line l with settings := s.lineConfig l } = s1 at *
  have apart (p : Post) := @added_not_removed l (s.lineConfig l).installed (s.line l).settings.installed p
  generalize hadded : installedPosts l ((s.lineConfig l).installed &&& ~~~(s.line l).settings.installed) = added at *
  generalize hremoved : installedPosts l ((s.line l).settings.installed &&& ~~~(s.lineConfig l).installed) = removed at *
  have removes := places_remove s1 removed
  generalize s1.forEach removed (fun s' p => (s'.putEntry p none).putOutput p none) = s2 at *
  have installs := places_install s2 added
  generalize s2.forEach added State.installPost = s3 at *
  have departs := departAll_present removed s3
  have still : removed = [] → s3.forEach removed State.departIfPresent = s3 := fun none => by
    rw [none]
    rfl
  generalize s3.forEach removed State.departIfPresent = v at *
  have changes3 : s3 = { s with lineA := s1.lineA, lineB := s1.lineB, posts := s3.posts, outputs := s3.outputs } := by
    have changes := installs.changes
    rw [removes.changes, put] at changes
    rw [changes]
  have entry (p : Post) : v.entry p = s3.entry p := State.of_framed departs.frame (fun u => u.entry p) fun _ => rfl
  have output (p : Post) : v.output p = s3.output p :=
    congrArg (fun x : Vector (Option OutputState) 240 => x.get p) departs.outputs
  have line (l' : Line) : v.line l' = s1.line l' := by
    have same : v.line l' = s3.line l' := State.of_framed departs.frame (fun u => u.line l') fun _ => by cases l' <;> rfl
    rw [same, changes3]
    cases l' <;> rfl
  have config2 (p : Post) : s2.startOutput p = s.startOutput p := by
    rw [removes.changes, put]
    rfl
  have now : v.now = s.now := by
    have same : v.now = s3.now := State.of_framed departs.frame State.now fun _ => rfl
    rw [same, changes3]
    rfl
  have keeps : KeepsGrants s s3 := by
    rw [changes3]
    exact .of_same rfl rfl rfl
  have trailer (p : Post) : s3.trailer p = s.trailer p := by
    rw [changes3]
    rfl
  refine ⟨now, (line l).trans self, fun l' h => (line l').trans (other l' h), fun p hp => ?_, fun p hp => ?_, fun p hr ha => ?_,
    fun p hr ha => ?_, fun none => ?_, fun law p hp some => ?_⟩
  · rw [hremoved] at hp
    have away := fun h => apart p h hp
    rw [entry, output, (installs.others p away).1, (installs.others p away).2]
    exact removes.placed p hp
  · rw [hadded] at hp
    rw [entry, output, ← config2]
    exact installs.placed p hp
  · rw [hremoved] at hr
    rw [hadded] at ha
    rw [entry, (installs.others p ha).1, (removes.others p hr).1, put]
    rfl
  · rw [hremoved] at hr
    rw [hadded] at ha
    rw [output, (installs.others p ha).2, (removes.others p hr).2, put]
    rfl
  · rw [hremoved] at none
    rw [still none, changes3]
  · rw [hremoved] at hp
    refine departs.gone (law.of_keeps keeps) p hp (decide_eq_true ?_)
    rw [trailer]
    exact some

/-! ## A line controller changes (R19) -/

theorem arbiterAlone_causeLeaves (s : State) (p : Post) (c : SuspCause) : ArbiterAlone s (s.causeLeaves p c) := by
  unfold State.causeLeaves
  split
  · exact .refl s
  · exact arbiterAlone_editTrailer s p _

theorem ArbiterAlone.forEach {β : Type} (l : List β) {f : State → β → State} (hf : ∀ s b, ArbiterAlone s (f s b)) (s : State) :
    ArbiterAlone s (s.forEach l f) := by
  induction l generalizing s with
  | nil => exact .refl s
  | cons b l ih => exact (hf s b).trans (ih (f s b))

theorem arbiterAlone_lineLeavesUp (s : State) (l : Line) : ArbiterAlone s (s.lineLeavesUp l) :=
  .forEach _ (fun s p => arbiterAlone_causeJoins s p .line 0) s

theorem arbiterAlone_walkForLine (s : State) (l : Line) : ArbiterAlone s (s.walkForLine l) :=
  .forEach _ (fun s q => by
    split
    · exact arbiterAlone_walk s q
    · exact .refl s) s

theorem arbiterAlone_lineEntersUp (s : State) (l : Line) : ArbiterAlone s (s.lineEntersUp l) :=
  (ArbiterAlone.forEach _ (fun s p => arbiterAlone_causeLeaves s p .line) s).trans (arbiterAlone_walkForLine _ l)

theorem arbiterAlone_changeLine (s : State) (l : Line) (c : LineController) :
    ArbiterAlone (s.putLine l c) (s.changeLine l c) := by
  unfold State.changeLine
  dsimp only
  split
  · exact arbiterAlone_lineLeavesUp _ l
  · split
    · exact arbiterAlone_lineEntersUp _ l
    · exact .refl _

theorem ArbiterAlone.line {s u : State} (h : ArbiterAlone s u) (l : Line) : u.line l = s.line l := by
  unfold ArbiterAlone at h
  rw [h]
  cases l <;> rfl

theorem ArbiterAlone.entry {s u : State} (h : ArbiterAlone s u) (p : Post) : u.entry p = s.entry p := by
  unfold ArbiterAlone at h
  rw [h]
  rfl

theorem ArbiterAlone.output {s u : State} (h : ArbiterAlone s u) (p : Post) : u.output p = s.output p :=
  congrArg (fun v : Vector (Option OutputState) 240 => v.get p) h.outputs

theorem ArbiterAlone.directory {s u : State} (h : ArbiterAlone s u) : u.directory = s.directory := by
  unfold ArbiterAlone at h
  rw [h]

theorem line_changeLine_self (s : State) (l : Line) (c : LineController) : (s.changeLine l c).line l = c :=
  ((arbiterAlone_changeLine s l c).line l).trans (s.line_putLine_self l c)

theorem line_changeLine_other (s : State) {l l' : Line} (h : l' ≠ l) (c : LineController) :
    (s.changeLine l c).line l' = s.line l' :=
  ((arbiterAlone_changeLine s l c).line l').trans (s.line_putLine_other h c)

theorem entry_changeLine (s : State) (l : Line) (c : LineController) (p : Post) : (s.changeLine l c).entry p = s.entry p :=
  ((arbiterAlone_changeLine s l c).entry p).trans (by cases l <;> rfl)

theorem output_changeLine (s : State) (l : Line) (c : LineController) (p : Post) : (s.changeLine l c).output p = s.output p :=
  ((arbiterAlone_changeLine s l c).output p).trans (output_putLine s l c p)

theorem State.Gone.causeJoins {s : State} {q : Post} (h : s.Gone q) (p : Post) (c : SuspCause) (n : Nat) :
    (s.causeJoins p c n).Gone q := by
  by_cases hp : p = q
  · subst hp
    have idle : s.run p = none := by
      unfold State.run
      rw [h.vacant]
      rfl
    have same : s.causeJoins p c n = s := by
      unfold State.causeJoins
      rw [idle]
    exact same.symm ▸ h
  · have apart := (FindingKit.apart q).causeJoins s hp c n h.unfiled
    exact ⟨apart.trailer.trans h.vacant, apart.inForce.trans h.inForce,
      fun e he => h.directory e ((arbiterAlone_causeJoins s p c n).directory ▸ he), apart.unfiled⟩

theorem State.Gone.putLine {s : State} {q : Post} (h : s.Gone q) (l : Line) (c : LineController) : (s.putLine l c).Gone q := by
  cases l <;> exact ⟨h.vacant, h.inForce, h.directory, h.unfiled⟩

theorem State.Gone.lineLeavesUp {s : State} {q : Post} (h : s.Gone q) (l : Line) : (s.lineLeavesUp l).Gone q := by
  unfold State.lineLeavesUp State.forEach
  generalize postsOn l = posts
  induction posts generalizing s with
  | nil => exact h
  | cons p posts ih => exact ih (h.causeJoins p .line 0)

theorem State.Gone.goOff {s : State} {q : Post} (h : s.Gone q) (l : Line) : (s.goOff l).Gone q := by
  unfold State.goOff State.changeLine
  dsimp only
  split
  · exact (h.putLine l _).lineLeavesUp l
  · split
    · rename_i up
      cases up.2
    · exact h.putLine l _

theorem State.Gone.of_same {s u : State} {q : Post} (h : s.Gone q)
    (changes : u = { s with lineA := u.lineA, lineB := u.lineB, outputs := u.outputs }) : u.Gone q := by
  rw [changes]
  exact ⟨h.vacant, h.inForce, h.directory, h.unfiled⟩

/-! ## The statement -/

theorem mem_and_not {l : Line} {a b : BitVec 120} {i : Fin 120} :
    postAt l i ∈ installedPosts l (a &&& ~~~b) ↔ a.getLsbD i.val = true ∧ b.getLsbD i.val = false := by
  rw [mem_installedPosts_postAt, BitVec.getLsbD_and, Bool.and_eq_true_iff, BitVec.getLsbD_not]
  simp

/-- What the first round leaves of a post, or the OFF line where no address is installed. -/
structure RoundTaken (l : Line) (v u : State) : Prop where
  settings : (u.line l).settings = (v.line l).settings
  polls : (v.line l).settings.installed ≠ 0 →
    (u.line l).misses = (v.line l).misses ∧ (u.line l).state = (v.line l).state ∧ (u.line l).round.isSome = true
  off : (v.line l).settings.installed = 0 → u.line l = .start .off (v.line l).settings
  entry : ∀ p, u.entry p = v.entry p
  absent : ∀ p, v.output p = none → u.output p = none
  output : ∀ p o, v.output p = some o → ∃ o', u.output p = some o' ∧
    o' = { o with nextToggle := o'.nextToggle, thisToggle := o'.thisToggle }
  gone : ∀ p, v.Gone p → u.Gone p

theorem roundTaken_beginRound (s : State) (l : Line) : RoundTaken l (s.takeSettings l) (s.beginRound l) := by
  have now := (takesSettings_takeSettings s l).now
  generalize taken : s.takeSettings l = v at *
  cases posts : installedPosts l (v.line l).settings.installed with
  | nil =>
    rw [beginRound_of_empty taken posts]
    have zero := installedPosts_eq_nil_iff.mp posts
    have line : (v.goOff l).line l = .start .off (v.line l).settings := line_changeLine_self v l _
    have output (p : Post) : (v.goOff l).output p = v.output p := output_changeLine v l _ p
    refine ⟨by rw [line]; rfl, fun some => absurd zero some, fun _ => line, fun p => entry_changeLine v l _ p,
      fun p h => (output p).trans h, fun p o h => ⟨o, (output p).trans h, rfl⟩, fun p h => h.goOff l⟩
  | cons p rest =>
    have begins := beginRound_of_posts taken posts now
    generalize s.beginRound l = u at *
    refine ⟨by rw [begins.line], fun _ => by rw [begins.line]; exact ⟨rfl, rfl, rfl⟩, fun zero => ?_, fun q => ?_,
      fun q h => ?_, fun q o h => ?_, fun q h => h.of_same begins.changes⟩
    · rw [installedPosts_eq_nil_iff.mpr zero] at posts
      cases posts
    · rw [begins.changes]
      rfl
    · by_cases same : q = p
      · subst same
        exact begins.absent h
      · exact (begins.outputs q same).trans h
    · by_cases same : q = p
      · subst same
        exact begins.output o h
      · exact ⟨o, (begins.outputs q same).trans h, rfl⟩

/-- Settles O33: the settings taken, and then the first poll or the OFF line. -/
theorem roundTakesItsSettings : Obligations.RoundTakesItsSettings := by
  intro l s phase idle on due
  have starts := startRound_of_due ((roundDue_iff s l).mpr ⟨phase, idle, due⟩) on
  refine ⟨_, exec_of_effect (i := .roundStart l) starts, ?_⟩
  have takes := takesSettings_takeSettings s l
  have taken := roundTaken_beginRound s l
  generalize s.takeSettings l = v at *
  generalize s.beginRound l = u at *
  have settings : (v.line l).settings = s.lineConfig l := by rw [takes.line]
  have off := taken.off
  have polls := taken.polls
  rw [settings] at off polls
  refine ⟨taken.settings.trans settings, fun some => ?_, off, fun i old new => ?_, fun i old new => ?_, fun i same => ?_,
    fun q away => ?_⟩
  · obtain ⟨misses, state, round⟩ := polls some
    rw [takes.line] at misses state
    exact ⟨misses, state, round⟩
  · have mem := mem_and_not (l := l) |>.mpr ⟨old, new⟩
    obtain ⟨entry, output⟩ := takes.removed _ mem
    refine ⟨(taken.entry _).trans entry, taken.absent _ output, fun law some => ?_⟩
    have gone := taken.gone _ (takes.gone law _ mem some)
    exact ⟨gone.vacant, gone.inForce, gone.directory⟩
  · obtain ⟨entry, output⟩ := takes.added _ (mem_and_not (l := l) |>.mpr ⟨new, old⟩)
    obtain ⟨o, same, changes⟩ := taken.output _ _ output
    refine ⟨(taken.entry _).trans entry, o, same, ?_⟩
    rw [changes]
    exact ⟨rfl, rfl, rfl, rfl, rfl, rfl, rfl⟩
  · refine (taken.entry _).trans (takes.kept _ (fun h => ?_) fun h => ?_)
    · obtain ⟨a, b⟩ := mem_and_not.mp h
      rw [a, b] at same
      cases same
    · obtain ⟨a, b⟩ := mem_and_not.mp h
      rw [a, b] at same
      cases same
  · exact (taken.entry _).trans (takes.kept q (fun h => away (mem_installedPosts.mp h).1)
      fun h => away (mem_installedPosts.mp h).1)

end Sys2Proof.Machine


/-! # The host side beside the table and the lines, and the end of a store write (R194)

What the Trailer Table, the owners and the line controllers do leaves the host side as it is, but for a notice that an idle
transmitter takes up. -/

namespace Sys2Proof.Machine

/-! ## The kits of the lines and of the host side -/

/-- A kit of the table that the lines keep too. -/
def TableKit.lines (h : TableKit) (line : ∀ s l c, h.rel (State.putLine s l c) s)
    (entry : ∀ s p e, h.rel (State.putEntry s p e) s) : LineKit where
  toKit := h.kit
  putLine := line
  putEntry := entry
  depart := h.depart
  status := h.statusAtTable

theorem WorldSame.refl (s : State) : WorldSame s s := (OutsideSame.of_framed fun f => f.refl s).toWorldSame

theorem WorldSame.trans {s t u : State} (x : WorldSame s t) (y : WorldSame t u) : WorldSame s u where
  runCounter := y.runCounter.trans x.runCounter
  yardOffset := y.yardOffset.trans x.yardOffset
  clockInvalid := y.clockInvalid.trans x.clockInvalid
  keySwitch := y.keySwitch.trans x.keySwitch
  rateSwitch := y.rateSwitch.trans x.rateSwitch
  rate := y.rate.trans x.rate
  mainsPresent := y.mainsPresent.trans x.mainsPresent
  store := y.store.trans x.store
  invalidBlocks := y.invalidBlocks.trans x.invalidBlocks
  asFactory := y.asFactory.trans x.asFactory
  write := y.write.trans x.write
  config := y.config.trans x.config
  startPrimary := y.startPrimary.trans x.startPrimary
  startSecondary := y.startSecondary.trans x.startSecondary
  imageNumber := y.imageNumber.trans x.imageNumber
  weather := y.weather.trans x.weather
  rx := y.rx.trans x.rx
  discardedFrames := y.discardedFrames.trans x.discardedFrames
  overruns := y.overruns.trans x.overruns
  held := y.held.trans x.held
  replies := y.replies.trans x.replies
  tx := x.tx.trans y.tx
  freeCount := y.freeCount.trans x.freeCount
  pending := y.pending.trans x.pending

/-- The host side stands: the world, the phase, and the transmitter too where it has a frame or a reply to send. -/
structure HostSame (s t : State) : Prop where
  world : WorldSame s t
  phase : t.phase = s.phase
  restartRecord : t.restartRecord = s.restartRecord
  busy : s.replies ≠ [] ∨ s.tx ≠ none → t.tx = s.tx

theorem HostSame.refl (s : State) : HostSame s s := ⟨.refl s, rfl, rfl, fun _ => rfl⟩

theorem HostSame.trans {s t u : State} (x : HostSame s t) (y : HostSame t u) : HostSame s u :=
  ⟨x.world.trans y.world, y.phase.trans x.phase, y.restartRecord.trans x.restartRecord, fun h =>
    (y.busy (by rw [x.busy h, x.world.replies]; exact h)).trans (x.busy h)⟩

theorem HostSame.of_framed {s t : State} (h : ∀ f : FramedTable, f.rel t s) (tx : t.tx = s.tx) : HostSame s t :=
  have outside := OutsideSame.of_framed h
  ⟨outside.toWorldSame, outside.phase, outside.restartRecord, fun _ => tx⟩

theorem placeItem_of_waiting {s : State} (h : s.replies ≠ [] ∨ s.tx ≠ none) (p : Post) (i : NoticeItem) :
    (s.placeItem p i).tx = s.tx ∧ (s.placeItem p i).replies = s.replies := by
  unfold State.placeItem
  split
  · exact ⟨rfl, rfl⟩
  · dsimp only
    split
    · exact ⟨rfl, rfl⟩
    · split
      · exact flushStation_of_waiting h _
      · exact ⟨rfl, rfl⟩

/-- A transmitter that has a frame or a reply to send takes up no notice of an item. -/
theorem item_of_waiting {s : State} (h : s.replies ≠ [] ∨ s.tx ≠ none) (p : Post) (b : ItemBody) :
    (s.item p b).tx = s.tx := by
  have placed := placeItem_of_waiting h p { yardTime := s.yardNow, body := b }
  unfold State.item
  dsimp only
  generalize s.placeItem p { yardTime := s.yardNow, body := b } = u at *
  obtain ⟨tx, replies⟩ := placed
  split
  · exact tx
  · split
    · exact (flushStation_of_waiting (by rw [tx, replies]; exact h) p).1.trans tx
    · exact tx

/-- The host side stands beside the Trailer Table and the owners, as a kit. -/
def TableKit.host : TableKit where
  rel t s := HostSame s t
  refl := .refl
  after x y := y.trans x
  put s p r _ := .of_framed (fun f => f.trailer s p r) rfl
  output s p o := .of_framed (fun f => f.output s p o) rfl
  inForce s p a := .of_framed (fun f => f.inForce s p a) rfl
  item s p b :=
    have outside := OutsideSame.of_framed fun f => f.item s p b
    ⟨outside.toWorldSame, outside.phase, outside.restartRecord, fun h => item_of_waiting h p b⟩
  push s p c d k := .of_framed (fun f => f.pushFrame s p c d k) rfl
  queue s q l := .of_framed (fun f => f.queue s q l) rfl
  load s q n := .of_framed (fun f => f.load s q n) rfl
  directory s d := .of_framed (fun f => f.directory s d) rfl
  rebuilds s l m _ := .of_framed (fun f => (f.causes { s with rebuilds := l } m).trans (f.rebuilds s l)) rfl

/-- The host side stands beside the lines too. -/
def LineKit.host : LineKit :=
  TableKit.host.lines (fun s l c => by
      rw [State.putLine_changes]
      exact ⟨⟨rfl, rfl, rfl, rfl, rfl, rfl, rfl, rfl, rfl, rfl, rfl, rfl, rfl, rfl, rfl, rfl, rfl, rfl, rfl, rfl, rfl, .refl _,
        rfl, rfl⟩, rfl, rfl, fun _ => rfl⟩)
    fun s p e => ⟨⟨rfl, rfl, rfl, rfl, rfl, rfl, rfl, rfl, rfl, rfl, rfl, rfl, rfl, rfl, rfl, rfl, rfl, rfl, rfl, rfl, rfl,
      .refl _, rfl, rfl⟩, rfl, rfl, fun _ => rfl⟩

/-! ## The content of a completed write (R194) -/

/-- The state once a completed write is stored and its reply formed, before its content takes effect. -/
def State.writtenBy (s : State) (w : StoreWrite) : State :=
  State.formReply
    { s.putBlock w.block { bytes := w.content, mark := true } with
      write := none, asFactory := s.asFactory.filter fun b => decide (b ≠ w.block.val) }
    { type := 0x15, tag := w.tag, status := .ok, body := [] }

theorem hostSame_takeContent (s : State) (c : BlockContent) :
    HostSame { s with config := s.config.put c } (s.takeContent c) := by
  generalize put : ({ s with config := s.config.put c } : State) = t
  have go {b : Bool} {u : State} (x : HostSame t u) : HostSame t (if b then u else t) := by
    split
    · exact x
    · exact .refl t
  unfold State.takeContent
  dsimp only
  rw [put]
  split
  · exact go (HostSame.trans (LineKit.host.wakeLine t .a) (LineKit.host.wakeLine _ .b))
  · exact go (TableKit.host.toPutKit.remapRequests t)
  · exact go (LineKit.host.walkFeeders t)
  · exact go (LineKit.host.settleTable t)
  · exact .refl t
  · exact LineKit.host.profileWritten t _ _

theorem recordRebuild_changes (s : State) : s.recordRebuild = { s with
    rebuilds := s.recordRebuild.rebuilds, heldCauses := s.recordRebuild.heldCauses } := by
  unfold State.recordRebuild
  dsimp only
  split
  · split <;> rfl
  · rfl

theorem recordRebuilds_changes (l : List Post) (s : State) : (s.forEach l fun s' _ => s'.recordRebuild) = { s with
    rebuilds := (s.forEach l fun s' _ => s'.recordRebuild).rebuilds
    heldCauses := (s.forEach l fun s' _ => s'.recordRebuild).heldCauses } := by
  induction l generalizing s with
  | nil => rfl
  | cons p l ih =>
    have first := recordRebuild_changes s
    have rest := ih s.recordRebuild
    change s.recordRebuild.forEach l (fun s' _ => s'.recordRebuild)
      = { s with
          rebuilds := (s.recordRebuild.forEach l fun s' _ => s'.recordRebuild).rebuilds
          heldCauses := (s.recordRebuild.forEach l fun s' _ => s'.recordRebuild).heldCauses }
    generalize (s.recordRebuild.forEach l fun s' _ => s'.recordRebuild) = u at *
    rw [rest, first]

/-- A flush that begins changes the rebuild history, the causes and the restart record beside its blocks (R196). -/
theorem beginFlush_changes (s : State) : s.beginFlush = { s with
    rebuilds := s.beginFlush.rebuilds, heldCauses := s.beginFlush.heldCauses, restartRecord := s.beginFlush.restartRecord
    phase := .flushing 38 (flushBlocks (flushNumber s.imageNumber) s.packedRecords) } := by
  unfold State.beginFlush
  dsimp only
  rw [recordRebuilds_changes]
  rfl

theorem completeWrite_of_write {s : State} {w : StoreWrite} {c : BlockContent} (hw : s.write = some w)
    (read : readBlock w.block.val w.content = some c) : s.completeWrite =
      if ((s.writtenBy w).takeContent c).phase = .flushWaiting then ((s.writtenBy w).takeContent c).beginFlush
      else (s.writtenBy w).takeContent c := by
  unfold State.completeWrite
  rw [hw]
  dsimp only
  rw [read]
  rfl

/-- Settles O48: the reply formed, the content in force beside a host side that stands, and the flush that waited. -/
theorem storeWriteCompletes : Obligations.StoreWriteCompletes := by
  intro s
  refine ⟨fun w c hw read => ⟨_, exec_of_effect (i := .storeWriteComplete) (completeWrite_of_write hw read), ?_⟩,
    fun none => exec_of_effect ?_⟩
  · have host := hostSame_takeContent (s.writtenBy w) c
    have stored := block_putBlock_self s w.block { bytes := w.content, mark := true }
    have others (b : Fin 102) (h : b ≠ w.block) := block_putBlock_other s h { bytes := w.content, mark := true }
    generalize (s.writtenBy w).takeContent c = t at *
    obtain ⟨world, phase, -, busy⟩ := host
    have tx := busy (.inl (List.append_ne_nil_of_right_ne_nil _ (by simp)))
    have flushed := beginFlush_changes t
    have ends (u : State) (h : u = if t.phase = .flushWaiting then t.beginFlush else t) : u = { t with
        rebuilds := u.rebuilds, heldCauses := u.heldCauses, restartRecord := u.restartRecord, phase := u.phase } := by
      by_cases waits : t.phase = .flushWaiting
      · rw [if_pos waits] at h
        rw [h, flushed]
      · rw [if_neg waits] at h
        rw [h]
    have changes := ends _ rfl
    have goes : t.phase = .flushWaiting → (if t.phase = .flushWaiting then t.beginFlush else t).phase
        = .flushing 38 (flushBlocks (flushNumber t.imageNumber) t.packedRecords) := fun waits => by
      rw [if_pos waits, flushed]
    have stays : t.phase ≠ .flushWaiting → (if t.phase = .flushWaiting then t.beginFlush else t).phase = t.phase :=
      fun runs => by rw [if_neg runs]
    generalize (if t.phase = .flushWaiting then t.beginFlush else t) = u at *
    have started : t.phase = s.phase := phase
    have store : u.store = (s.putBlock w.block { bytes := w.content, mark := true }).store := by
      rw [changes]
      exact world.store
    refine ⟨?_, (congrArg (fun x => x.get w.block) store).trans stored,
      fun b h => (congrArg (fun x => x.get b) store).trans (others b h), ?_, ?_, ?_, fun waits => ?_, fun runs => ?_, ?_, ?_,
      ?_, ?_, ?_, ?_⟩
    · rw [changes]; exact world.write
    · rw [changes]; exact world.config
    · rw [changes]; exact world.replies
    · rw [changes]; exact world.asFactory
    · have packed : u.packedRecords = t.packedRecords := by
        rw [changes]
        rfl
      have number : u.imageNumber = t.imageNumber := by rw [changes]
      rw [packed, number]
      exact goes (started.trans waits)
    · exact (stays fun h => runs (started.symm.trans h)).trans started
    · rw [changes]; exact world.runCounter
    · rw [changes]; exact world.yardOffset
    · rw [changes]; exact world.weather
    · rw [changes]; exact world.rx
    · rw [changes]; exact world.held
    · rw [changes]; exact tx
  · change s.completeWrite = s
    unfold State.completeWrite
    rw [none]

end Sys2Proof.Machine


/-! # The frames of a post line (10.6) -/

namespace Sys2Proof.Machine

/-! ## Escaping (10.1) -/

theorem unescape_escapeOne (b : Byte) (rest : List Byte) :
    unescape (escapeOne b ++ rest) = (unescape rest).map (b :: ·) := by
  unfold escapeOne
  split
  · rename_i special
    obtain rfl | rfl := special <;> rfl
  · rename_i plain
    obtain ⟨noStart, noEscape⟩ := not_or.mp plain
    rw [List.singleton_append]
    conv => lhs; unfold unescape
    rw [if_neg noStart, if_neg noEscape]

theorem unescape_escape (bs : List Byte) : unescape (escape bs) = some bs := by
  induction bs with
  | nil => rfl
  | cons b bs ih =>
    change unescape (escapeOne b ++ escape bs) = some (b :: bs)
    rw [unescape_escapeOne, ih]
    rfl

/-! ## Fields spelt byte by byte -/

theorem toNat_byte1 {n : Nat} (h : n < 256) : (byte1 n).toNat = n := by
  unfold byte1
  rw [BitVec.toNat_ofNat]
  exact Nat.mod_eq_of_lt h

theorem spelt16 {n : Nat} (h : n < 65536) : ∃ a b, beBytes 2 n = [a, b] ∧ beNat [a, b] = n :=
  ⟨_, _, rfl, (beNat_beBytes 2 n).trans (Nat.mod_eq_of_lt h)⟩

theorem spelt_bytes16 (w : Word16) : ∃ a b, bytes16 w = [a, b] ∧ BitVec.ofNat 16 (beNat [a, b]) = w := by
  obtain ⟨a, b, spelt, value⟩ := spelt16 w.isLt
  exact ⟨a, b, spelt, value.symm ▸ BitVec.ofNat_toNat _ w⟩

theorem spelt_bytes32 (w : Word32) : ∃ a b c d, bytes32 w = [a, b, c, d] ∧ BitVec.ofNat 32 (beNat [a, b, c, d]) = w :=
  ⟨_, _, _, _, rfl, by
    have value : beNat (bytes32 w) = w.toNat := beNat_bytes32 w
    exact (congrArg (BitVec.ofNat 32) value).trans (BitVec.ofNat_toNat _ w)⟩

/-- A temperature field reads back (10.6). -/
theorem spelt_temperature {t : Option Int} (h : temperatureFits t) :
    ∃ a b, temperatureField t = [a, b] ∧ readTemperature (BitVec.ofNat 16 (beNat [a, b])) = t := by
  cases t with
  | none => exact ⟨_, _, rfl, by decide⟩
  | some v =>
    obtain ⟨low, high⟩ := h v rfl
    obtain ⟨a, b, spelt, value⟩ := spelt_bytes16 (BitVec.ofInt 16 v)
    have signed : (BitVec.ofInt 16 v).toInt = v := by
      rw [BitVec.toInt_ofInt]
      exact Int.bmod_eq_of_le (by omega) (by omega)
    refine ⟨a, b, spelt, ?_⟩
    unfold readTemperature
    rw [value, signed, if_neg fun e => ?_]
    have least : v = -32768 := by
      rw [← signed, e]
      rfl
    omega

theorem plugLink_reads (x : PlugLink) : PlugLink.ofCode (byte1 x.code).toNat = some x := by cases x <;> rfl

theorem mode_reads (x : Mode) : Mode.ofCode (byte1 x.code).toNat = some x := by cases x <;> rfl

theorem power_reads (x : PowerSource) : PowerSource.ofCode (byte1 x.code).toNat = some x := by cases x <;> rfl

theorem door_reads (x : DoorReport) : DoorReport.ofCode (byte1 x.code).toNat = some x := by cases x <;> rfl

theorem levels_read (l : Levels) : Levels.ofCode (byte1 l.code).toNat = some l := by
  obtain ⟨a, b, c, d⟩ := l
  revert a b c d
  decide

/-! ## STATUS and POLL read back (10.6) -/

theorem readStatusFields_of {c : List Byte} {r : StatusReport}
    (codes : PlugLink.ofCode (byteAt c 3).toNat = some r.plugLink ∧ Mode.ofCode (byteAt c 10).toNat = some r.mode ∧
      PowerSource.ofCode (byteAt c 11).toNat = some r.power ∧ DoorReport.ofCode (byteAt c 16).toNat = some r.door ∧
      Levels.ofCode (byteAt c 21).toNat = some r.actual)
    (identity : word32At c 4 = r.serial ∧ word16At c 8 = r.model)
    (temperatures : readTemperature (word16At c 12) = r.tr ∧ readTemperature (word16At c 14) = r.tc)
    (heater : (word16At c 17).toNat = r.heaterCurrent) (fuel : (word16At c 19).toNat = r.fuelRaw) (le : r.fuelRaw ≤ 1023) :
    readStatusFields c = some r := by
  obtain ⟨plug, mode, power, door, levels⟩ := codes
  obtain ⟨serial, model⟩ := identity
  obtain ⟨tr, tc⟩ := temperatures
  unfold readStatusFields
  rw [plug, mode, power, door, levels, fuel, heater, serial, model, tr, tc]
  exact if_pos le

theorem readStatus_frameBytes {address : Nat} (small : address < 256) {r : StatusReport} (fits : r.fits) :
    readStatus (r.frameBytes address) = some (address, r) := by
  obtain ⟨tr, tc, heater, fuel⟩ := fits
  unfold readStatus StatusReport.frameBytes
  rw [unescape_escape]
  obtain ⟨k, k', crc, crcValue⟩ := spelt_bytes16 (crc16 (r.contents address))
  rw [crc]
  generalize hc : r.contents address = c at *
  unfold StatusReport.contents at hc
  obtain ⟨s1, s2, s3, s4, serial, serialValue⟩ := spelt_bytes32 r.serial
  obtain ⟨m1, m2, model, modelValue⟩ := spelt_bytes16 r.model
  obtain ⟨r1, r2, trSpelt, trValue⟩ := spelt_temperature tr
  obtain ⟨c1, c2, tcSpelt, tcValue⟩ := spelt_temperature tc
  obtain ⟨h1, h2, heaterSpelt, heaterValue⟩ := spelt16 (n := r.heaterCurrent) (by omega)
  obtain ⟨f1, f2, fuelSpelt, fuelValue⟩ := spelt16 (n := r.fuelRaw) (by omega)
  rw [serial, model, trSpelt, tcSpelt, heaterSpelt, fuelSpelt] at hc
  simp only [List.cons_append, List.nil_append] at hc
  have word : (BitVec.ofNat 16 (beNat [h1, h2])).toNat = r.heaterCurrent := by
    rw [heaterValue, BitVec.toNat_ofNat]
    exact Nat.mod_eq_of_lt (by omega)
  have raw : (BitVec.ofNat 16 (beNat [f1, f2])).toNat = r.fuelRaw := by
    rw [fuelValue, BitVec.toNat_ofNat]
    exact Nat.mod_eq_of_lt (by omega)
  dsimp only
  have fields : readStatusFields (c ++ [k, k']) = some r := by
    subst hc
    exact readStatusFields_of ⟨plugLink_reads _, mode_reads _, power_reads _, door_reads _, levels_read _⟩
      ⟨serialValue, modelValue⟩ ⟨trValue, tcValue⟩ word raw (by omega)
  rw [if_pos ?_, fields]
  · subst hc
    exact congrArg (fun n => some (n, r)) (toNat_byte1 small)
  · subst hc
    exact ⟨rfl, rfl, rfl, crcValue.symm⟩

theorem goodStatus_frameBytes {address : Nat} (small : address < 256) {r : StatusReport} (fits : r.fits) :
    goodStatus address (r.frameBytes address) = some r := by
  unfold goodStatus
  rw [readStatus_frameBytes small fits]
  exact if_pos rfl

theorem readPoll_pollWire {address : Nat} (small : address < 256) (l : Levels) :
    readPoll (pollWire address l).tail = some (address, l) := by
  obtain ⟨k, k', crc, crcValue⟩ := spelt_bytes16 (crc16 (pollContents address l))
  unfold readPoll pollWire wireOf
  rw [List.tail_cons, unescape_escape, crc]
  dsimp only
  rw [if_pos ⟨rfl, rfl, rfl, crcValue.symm⟩]
  change (Levels.ofCode (byte1 l.code).toNat).map (fun l => ((byte1 address).toNat, l)) = _
  rw [levels_read, toNat_byte1 small]
  rfl

theorem fits_asSent {r : StatusReport} (fits : r.fits) : r.asSent.fits := by
  unfold StatusReport.asSent
  split
  · exact fits
  · exact fits

theorem hear_pollWire (u : Piu) (now : Time) {address : Nat} (small : address < 256) (l : Levels) (sensed : StatusReport) :
    u.hear now (pollWire address l).tail sensed = if address = u.address then
      ({ u with outputs := l, accepted := some now }, some (Config.startByte :: sensed.asSent.frameBytes u.address))
    else (u, none) := by
  unfold Piu.hear
  rw [readPoll_pollWire small]

/-- Settles O11: every field is spelt byte by byte and read where it stands. -/
theorem postLineFramesReadBack : Obligations.PostLineFramesReadBack := by
  refine ⟨fun address r small fits => readStatus_frameBytes small fits, fun u now address l sensed small fits =>
    ⟨fun own => ?_, fun other => ?_⟩⟩
  · refine ⟨sensed.asSent.frameBytes address, ?_, goodStatus_frameBytes small (fits_asSent fits)⟩
    rw [hear_pollWire u now small, if_pos own.symm, own]
  · rw [hear_pollWire u now small, if_neg fun e => other e.symm]

end Sys2Proof.Machine


/-! # The image: packing and reading back (10.6, R196, R198) -/

namespace Sys2Proof.Machine

/-! ## The fields of a packed record -/

/-- The bytes that a field takes in a packed record. -/
def packedField (f : Bool × List Byte) : List Byte := if f.1 then f.2 else []

theorem takeNumber_present {k n : Nat} (h : n < 256 ^ k) (rest : List Byte) :
    takeNumber true k (beBytes k n ++ rest) = some (n, rest) := by
  unfold takeNumber
  rw [if_pos rfl, if_pos (by rw [List.length_append, beBytes_length]; omega), List.take_left' (beBytes_length k n),
    List.drop_left' (beBytes_length k n), beNat_beBytes, Nat.mod_eq_of_lt h]

theorem takeNumber_absent (k : Nat) (rest : List Byte) : takeNumber false k rest = some (0, rest) := rfl

theorem takeNumber_packed {k n : Nat} (h : n < 256 ^ k) (rest : List Byte) :
    takeNumber (decide (n ≠ 0)) k (packedField (packNumber k n) ++ rest) = some (n, rest) := by
  unfold packedField packNumber
  by_cases zero : n = 0
  · subst zero
    rfl
  · rw [decide_eq_true zero]
    exact takeNumber_present h rest

theorem takeNumber_optional {o : Option Nat} (h : o.getD 0 < 256) (rest : List Byte) :
    takeNumber o.isSome 1 (packedField (o.isSome, beBytes 1 (o.getD 0)) ++ rest) = some (o.getD 0, rest) := by
  cases o with
  | none => rfl
  | some n => exact takeNumber_present (k := 1) h rest

theorem takeTag_packed {tag : List Byte} (h : tag.length ≤ 12) (rest : List Byte) :
    takeTag (decide (tag ≠ [])) (packedField (decide (tag ≠ []), tagField tag) ++ rest) = some (tag, rest) := by
  by_cases none : tag = []
  · subst none
    rfl
  · rw [decide_eq_true none]
    change (if (byte1 tag.length).toNat ≤ 12 ∧ (byte1 tag.length).toNat ≤ (tag ++ rest).length then
      some ((tag ++ rest).take (byte1 tag.length).toNat, (tag ++ rest).drop (byte1 tag.length).toNat) else Option.none) = _
    rw [toNat_byte1 (by omega), if_pos ⟨h, by rw [List.length_append]; omega⟩, List.take_left, List.drop_left]

theorem saveMask_cons (f : Bool × List Byte) (l : List (Bool × List Byte)) :
    saveMask (f :: l) = (if f.1 then 1 else 0) + 2 * saveMask l := rfl

theorem testBit_saveMask (l : List (Bool × List Byte)) (i : Nat) : (saveMask l).testBit i = (l.getD i (false, [])).1 := by
  induction l generalizing i with
  | nil => simp [saveMask]
  | cons f l ih =>
    rw [saveMask_cons]
    cases i with
    | zero =>
      rw [Nat.testBit_zero, List.getD_cons_zero]
      cases f.1 with
      | false => simp
      | true => simp [Nat.add_mul_mod_self_left]
    | succ i =>
      rw [List.getD_cons_succ, ← ih i, Nat.testBit_succ]
      congr 1
      split <;> omega

theorem saveMask_lt (l : List (Bool × List Byte)) : saveMask l < 2 ^ l.length := by
  induction l with
  | nil => exact Nat.one_pos
  | cons f l ih =>
    rw [saveMask_cons, List.length_cons, Nat.pow_succ]
    split <;> omega

theorem bind_of {α β : Type} {x : Option α} {a : α} (h : x = some a) {f : α → Option β} {r : Option β} (k : f a = r) :
    (x >>= f) = r := by
  rw [h]
  exact k

/-! ## A packed record reads back -/

theorem takeRecord_bytes {v : Saved} (fits : v.fits) (rest : List Byte) : takeRecord (v.bytes ++ rest) = some (v, rest) := by
  obtain ⟨ok, serial, f, endAge, history, pnAge, tag, bs, mask, active, noted, inhibit, remaining⟩ := fits
  have ranges := ok
  simp only [Saved.ok, Bool.and_eq_true, decide_eq_true_eq] at ranges
  obtain ⟨⟨⟨profile, r⟩, custody⟩, lf16⟩ := ranges
  have bit (i : Nat) := testBit_saveMask v.fields i
  have sixteen : v.fields.length = 16 := rfl
  have small : saveMask v.fields < 256 ^ 2 := by
    have lt := saveMask_lt v.fields
    rw [sixteen] at lt
    exact lt
  have post : v.post.val < 256 ^ 1 := Nat.lt_trans v.post.isLt (by decide)
  have spelt : v.bytes ++ rest = beBytes 1 v.post.val ++ (beBytes 2 (saveMask v.fields)
      ++ (v.fields.flatMap packedField ++ rest)) := by
    have whole : v.bytes = byte1 v.post.val :: (beBytes 2 (saveMask v.fields) ++ v.fields.flatMap packedField) := rfl
    rw [whole, List.cons_append, List.append_assoc]
    rfl
  have flat : v.fields.flatMap packedField ++ rest
      = packedField (packNumber 4 v.serial) ++ (packedField (v.profile.isSome, beBytes 1 (v.profile.getD 0))
      ++ (packedField (packNumber 2 v.f) ++ (packedField (packNumber 1 v.r) ++ (packedField (packNumber 4 v.endAge)
      ++ (packedField (packNumber 2 v.history) ++ (packedField (packNumber 2 v.pnAge) ++ (packedField (packNumber 1 v.custody)
      ++ (packedField (decide (v.tag ≠ []), tagField v.tag) ++ (packedField (packNumber 3 v.lf16)
      ++ (packedField (packNumber 2 v.bs) ++ (packedField (packNumber 2 v.mask) ++ (packedField (packNumber 2 v.active)
      ++ (packedField (packNumber 2 v.noted) ++ (packedField (packNumber 1 v.inhibit)
      ++ (packedField (packNumber 2 v.remaining) ++ rest))))))))))))))) := by
    unfold Saved.fields
    simp only [List.flatMap_cons, List.flatMap_nil, List.append_assoc, List.nil_append]
  rw [spelt, flat]
  have number {i k n : Nat} (h : n < 256 ^ k) (same : (v.fields.getD i (false, [])).1 = decide (n ≠ 0)) (rest : List Byte) :
      takeNumber ((saveMask v.fields).testBit i) k (packedField (packNumber k n) ++ rest) = some (n, rest) := by
    rw [bit, same]
    exact takeNumber_packed h rest
  have bound : ((saveMask v.fields).testBit 1) = v.profile.isSome := bit 1
  have optional (rest : List Byte) : takeNumber ((saveMask v.fields).testBit 1) 1
      (packedField (v.profile.isSome, beBytes 1 (v.profile.getD 0)) ++ rest) = some (v.profile.getD 0, rest) := by
    rw [bound]
    exact takeNumber_optional (by omega) rest
  have tagRead (rest : List Byte) : takeTag ((saveMask v.fields).testBit 8)
      (packedField (decide (v.tag ≠ []), tagField v.tag) ++ rest) = some (v.tag, rest) := by
    rw [bit]
    exact takeTag_packed tag rest
  have place : postOf (byte1 v.post.val) = some v.post := by
    have value : (byte1 v.post.val).toNat = v.post.val := toNat_byte1 (Nat.lt_trans v.post.isLt (by decide))
    unfold postOf
    rw [dif_pos (by rw [value]; exact v.post.isLt)]
    exact congrArg some (Fin.ext value)
  unfold takeRecord
  refine bind_of (takeNumber_present post _) ?_
  refine bind_of (takeNumber_present small _) ?_
  refine bind_of (number (i := 0) serial rfl _) ?_
  refine bind_of (optional _) ?_
  refine bind_of (number (i := 2) f rfl _) ?_
  refine bind_of (number (i := 3) (by omega) rfl _) ?_
  refine bind_of (number (i := 4) endAge rfl _) ?_
  refine bind_of (number (i := 5) history rfl _) ?_
  refine bind_of (number (i := 6) pnAge rfl _) ?_
  refine bind_of (number (i := 7) (by omega) rfl _) ?_
  refine bind_of (tagRead _) ?_
  refine bind_of (number (i := 9) (by omega) rfl _) ?_
  refine bind_of (number (i := 10) bs rfl _) ?_
  refine bind_of (number (i := 11) mask rfl _) ?_
  refine bind_of (number (i := 12) active rfl _) ?_
  refine bind_of (number (i := 13) noted rfl _) ?_
  refine bind_of (number (i := 14) inhibit rfl _) ?_
  refine bind_of (number (i := 15) remaining rfl _) ?_
  refine bind_of place ?_
  have profileRead : (if (saveMask v.fields).testBit 1 then some (v.profile.getD 0) else none) = v.profile := by
    rw [bound]
    cases v.profile <;> rfl
  rw [profileRead]
  exact if_pos ok

theorem takeRecords_bytes {vs : List Saved} (fits : ∀ v ∈ vs, v.fits) :
    takeRecords vs.length (vs.map Saved.bytes).flatten = some vs := by
  induction vs with
  | nil => rfl
  | cons v vs ih =>
    obtain ⟨first, rest⟩ := List.forall_mem_cons.mp fits
    rw [List.map_cons, List.flatten_cons, List.length_cons]
    unfold takeRecords
    rw [takeRecord_bytes first]
    dsimp only
    rw [ih rest]
    rfl

/-! ## An image block reads back -/

theorem packedField_length (f : Bool × List Byte) : (packedField f).length ≤ f.2.length := by
  unfold packedField
  split
  · exact le_rfl
  · exact Nat.zero_le _

theorem bytes_length {v : Saved} (tag : v.tag.length ≤ 12) : v.bytes.length ≤ 47 := by
  have whole : v.bytes = byte1 v.post.val :: (beBytes 2 (saveMask v.fields) ++ v.fields.flatMap packedField) := rfl
  have numbers (k n : Nat) : (packedField (packNumber k n)).length ≤ k :=
    (packedField_length _).trans (beBytes_length k n).le
  have tags : (packedField (decide (v.tag ≠ []), tagField v.tag)).length ≤ 13 :=
    (packedField_length _).trans (Nat.succ_le_succ tag)
  have profile : (packedField (v.profile.isSome, beBytes 1 (v.profile.getD 0))).length ≤ 1 :=
    (packedField_length _).trans (beBytes_length 1 _).le
  rw [whole]
  unfold Saved.fields
  simp only [List.flatMap_cons, List.flatMap_nil, List.length_cons, List.length_append, List.length_nil, beBytes_length]
  have a := numbers 4 v.serial
  have b := numbers 2 v.f
  have c := numbers 1 v.r
  have d := numbers 4 v.endAge
  have e := numbers 2 v.history
  have f := numbers 2 v.pnAge
  have g := numbers 1 v.custody
  have h := numbers 3 v.lf16
  have i := numbers 2 v.bs
  have j := numbers 2 v.mask
  have k := numbers 2 v.active
  have l := numbers 2 v.noted
  have m := numbers 1 v.inhibit
  have n := numbers 2 v.remaining
  omega

/-- The body of an image block: its packed records one after another. -/
def blockBody (vs : List Saved) : List Byte := (vs.map Saved.bytes).flatten

theorem readImageBlock_imageBlock {number k : Nat} {vs : List Saved} (small : number < 65536) (place : k < 256)
    (few : vs.length < 256) (room : (blockBody vs).length ≤ Config.imageRoom) (fits : ∀ v ∈ vs, v.fits) :
    readImageBlock k (imageBlock number k (vs.map Saved.bytes)) = some (number, vs) := by
  obtain ⟨n1, n2, numberSpelt, numberValue⟩ := spelt16 small
  have records := takeRecords_bytes fits
  obtain ⟨l1, l2, lengthSpelt, lengthValue⟩ := spelt16 (n := (blockBody vs).length) (Nat.lt_of_le_of_lt room (by decide))
  have spelt : imageBlock number k (vs.map Saved.bytes) = [n1, n2, byte1 k, byte1 vs.length, l1, l2] ++ (blockBody vs
      ++ (List.replicate (Config.imageRoom - (blockBody vs).length) 0xFF ++ [0x5A, 0xA5])) := by
    unfold imageBlock
    dsimp only
    change beBytes 2 number ++ byte1 k :: byte1 (vs.map Saved.bytes).length :: (beBytes 2 (blockBody vs).length ++ blockBody vs
      ++ List.replicate (Config.imageRoom - (blockBody vs).length) 0xFF) ++ [0x5A, 0xA5] = _
    rw [numberSpelt, lengthSpelt, List.length_map]
    simp
  change takeRecords vs.length (blockBody vs) = some vs at records
  rw [spelt]
  generalize blockBody vs = body at *
  have used : (word16At ([n1, n2, byte1 k, byte1 vs.length, l1, l2] ++ (body
      ++ (List.replicate (Config.imageRoom - body.length) 0xFF ++ [0x5A, 0xA5]))) 4).toNat = body.length := by
    change (BitVec.ofNat 16 (beNat [l1, l2])).toNat = body.length
    rw [lengthValue, BitVec.toNat_ofNat]
    exact Nat.mod_eq_of_lt (Nat.lt_of_le_of_lt room (by decide))
  have mark : word16At ([n1, n2, byte1 k, byte1 vs.length, l1, l2] ++ (body
      ++ (List.replicate (Config.imageRoom - body.length) 0xFF ++ [0x5A, 0xA5]))) 254 = 0x5AA5 := by
    have split : [n1, n2, byte1 k, byte1 vs.length, l1, l2] ++ (body
        ++ (List.replicate (Config.imageRoom - body.length) 0xFF ++ [0x5A, 0xA5]))
        = ([n1, n2, byte1 k, byte1 vs.length, l1, l2] ++ (body ++ List.replicate (Config.imageRoom - body.length) 0xFF))
          ++ bytes16 0x5AA5 ++ [] := by
      rw [List.append_nil, List.append_assoc, List.append_assoc]
      rfl
    rw [split]
    refine word16At_field ?_
    rw [List.length_append, List.length_append, List.length_replicate]
    change 6 + (body.length + (248 - body.length)) = 254
    have le : body.length ≤ 248 := room
    omega
  unfold readImageBlock
  dsimp only
  rw [used, if_pos ⟨mark, toNat_byte1 place, room⟩]
  change (takeRecords (byte1 vs.length).toNat ((body
      ++ (List.replicate (Config.imageRoom - body.length) 0xFF ++ [0x5A, 0xA5])).take body.length)).map
    (fun rs => ((BitVec.ofNat 16 (beNat [n1, n2])).toNat, rs)) = _
  rw [List.take_left, toNat_byte1 few, records, numberValue, BitVec.toNat_ofNat, Nat.mod_eq_of_lt (by exact small)]
  rfl

/-! ## The blocks of a flush -/

/-- How a list of records is cut into the blocks of a flush. -/
structure Cuts (records : List Saved) (groups : List (List Saved)) : Prop where
  flatten : groups.flatten = records
  room : ∀ g ∈ groups, (blockBody g).length ≤ Config.imageRoom

theorem fillBlocks_cuts {held : List Saved} (vs : List Saved) (fits : (blockBody held).length ≤ Config.imageRoom)
    (short : ∀ v ∈ vs, v.bytes.length ≤ Config.imageRoom) : ∃ g groups, Cuts (held ++ vs) (g :: groups) ∧
      groups.length ≤ vs.length ∧
      fillBlocks (held.map Saved.bytes) (vs.map Saved.bytes) = (g :: groups).map (·.map Saved.bytes) := by
  induction vs generalizing held with
  | nil =>
    exact ⟨held, [], ⟨by simp, fun g hg => List.mem_singleton.mp hg ▸ fits⟩, le_rfl, rfl⟩
  | cons v vs ih =>
    obtain ⟨first, rest⟩ := List.forall_mem_cons.mp short
    rw [List.map_cons]
    unfold fillBlocks
    by_cases joins : (held.map Saved.bytes).flatten.length + v.bytes.length ≤ Config.imageRoom
    · rw [if_pos joins]
      have body : (blockBody (held ++ [v])).length ≤ Config.imageRoom := by
        unfold blockBody
        rw [List.map_append, List.flatten_append, List.length_append]
        simpa using joins
      obtain ⟨g, groups, cuts, count, same⟩ := ih body rest
      rw [List.map_append] at same
      exact ⟨g, groups, ⟨by rw [cuts.flatten]; simp, cuts.room⟩, Nat.le_succ_of_le count, same⟩
    · rw [if_neg joins]
      have body : (blockBody [v]).length ≤ Config.imageRoom := by
        unfold blockBody
        simpa using first
      obtain ⟨g, groups, cuts, count, same⟩ := ih body rest
      refine ⟨held, g :: groups, ⟨?_, fun x hx => ?_⟩, Nat.succ_le_succ count, ?_⟩
      · rw [List.flatten_cons, cuts.flatten]
        rfl
      · obtain rfl | hx := List.mem_cons.mp hx
        · exact fits
        · exact cuts.room x hx
      · rw [List.map_cons, ← same]
        rfl

theorem readOnward_blocks {number : Nat} (small : number < 65536) {groups : List (List Saved)} {k : Nat}
    (place : k + groups.length ≤ 256) (room : ∀ g ∈ groups, (blockBody g).length ≤ Config.imageRoom)
    (few : ∀ g ∈ groups, g.length < 256) (fits : ∀ g ∈ groups, ∀ v ∈ g, v.fits) (rest : Nat) :
    readOnward number k (groups.mapIdx (fun i g => imageBlock number (k + i) (g.map Saved.bytes))
      ++ List.replicate rest (List.replicate 256 0xFF)) = groups.flatten := by
  induction groups generalizing k with
  | nil =>
    cases rest with
    | zero => rfl
    | succ n =>
      have erased : readImageBlock k (List.replicate 256 0xFF) = none := by
        unfold readImageBlock
        dsimp only
        exact if_neg fun h => absurd h.1 (by decide)
      change readOnward number k (List.replicate 256 0xFF :: List.replicate n (List.replicate 256 0xFF)) = []
      unfold readOnward
      rw [erased]
  | cons g groups ih =>
    rw [List.length_cons] at place
    have read := readImageBlock_imageBlock (k := k) small (by omega) (few g List.mem_cons_self) (room g List.mem_cons_self)
      (fits g List.mem_cons_self)
    have onward := ih (k := k + 1) (by omega) (fun x hx => room x (List.mem_cons_of_mem _ hx))
      (fun x hx => few x (List.mem_cons_of_mem _ hx)) fun x hx => fits x (List.mem_cons_of_mem _ hx)
    rw [List.mapIdx_cons, List.cons_append]
    unfold readOnward
    rw [Nat.add_zero, read]
    dsimp only
    rw [if_pos rfl, List.flatten_cons, ← onward]
    simp only [Nat.add_assoc, Nat.add_comm 1]

theorem mapIdx_of_map {α β γ : Type} (l : List α) (f : α → β) (g : Nat → β → γ) :
    (l.map f).mapIdx g = l.mapIdx fun i x => g i (f x) := by
  refine List.ext_getElem? fun i => ?_
  rw [List.getElem?_mapIdx, List.getElem?_mapIdx, List.getElem?_map, Option.map_map]
  rfl

/-- Settles O12: the records are cut into blocks, and each block and each record reads back. -/
theorem flushedImageReadsBack : Obligations.FlushedImageReadsBack := by
  intro number rest vs small few fits
  obtain ⟨g, groups, cuts, count, filled⟩ := fillBlocks_cuts (held := []) vs (Nat.zero_le _)
    fun v hv => (bytes_length (fits v hv).2.2.2.2.2.2.1).trans (by decide)
  have flatten : (g :: groups).flatten = vs := cuts.flatten
  have short : ∀ x ∈ g :: groups, x.length < 256 := fun x hx => by
    have le := List.Sublist.length_le (List.sublist_flatten_of_mem hx)
    rw [flatten] at le
    omega
  have good : ∀ x ∈ g :: groups, ∀ v ∈ x, v.fits := fun x hx v hv =>
    fits v (flatten ▸ List.mem_flatten.mpr ⟨x, hx, hv⟩)
  have onward := readOnward_blocks (number := number) (by omega) (groups := groups) (k := 1) (by omega)
    (fun x hx => cuts.room x (List.mem_cons_of_mem _ hx)) (fun x hx => short x (List.mem_cons_of_mem _ hx))
    (fun x hx => good x (List.mem_cons_of_mem _ hx)) rest
  have read := readImageBlock_imageBlock (k := 0) (number := number) (by omega) (by decide) (short g List.mem_cons_self)
    (cuts.room g List.mem_cons_self) (good g List.mem_cons_self)
  have blocks : flushBlocks number (vs.map Saved.bytes) = imageBlock number 0 (g.map Saved.bytes)
      :: groups.mapIdx fun i g => imageBlock number (1 + i) (g.map Saved.bytes) := by
    unfold flushBlocks
    rw [show fillBlocks [] (vs.map Saved.bytes) = _ from filled, List.map_cons, List.mapIdx_cons, mapIdx_of_map]
    simp only [Nat.add_comm 1]
  rw [blocks, List.cons_append]
  unfold readImage
  dsimp only
  rw [read]
  dsimp only
  rw [onward, ← flatten, List.flatten_cons]

end Sys2Proof.Machine


/-! # What the lines leave of one post while others change (R10, R14, R19, R41)

A `SideKit` holds at a post across the owners' work at the others, departures among it. -/

namespace Sys2Proof.Machine

/-! ## The causes of a run -/

theorem causes_join {r : RunRecord} {now : Time} {c : SuspCause} {n : Nat} {k : CauseEntry}
    (h : k ∈ (r.join now c n).causes) : k ∈ r.causes ∨ k.cause = c := by
  unfold RunRecord.join at h
  dsimp only at h
  split at h
  · rename_i commanded
    exact .inr (List.mem_singleton.mp h ▸ rfl)
  · exact .inr (List.mem_singleton.mp h ▸ rfl)
  · rename_i start prior cs suspended
    have same : r.causes = cs := by
      unfold RunRecord.causes
      rw [suspended]
    split at h
    · exact .inl h
    · obtain h | h := List.mem_append.mp h
      · exact .inl (same ▸ h)
      · exact .inr (List.mem_singleton.mp h ▸ rfl)
  · exact .inl h

theorem causes_resume (r : RunRecord) (now : Time) (prior : PriorState) : (r.resume now prior).causes = [] := by
  cases prior <;> rfl

theorem causes_leave {r : RunRecord} {now : Time} {c : SuspCause} {k : CauseEntry} :
    k ∈ (r.leave now c).causes ↔ k ∈ r.causes ∧ k.cause ≠ c := by
  unfold RunRecord.leave
  split
  · rename_i start prior cs suspended
    have same : r.causes = cs := by
      unfold RunRecord.causes
      rw [suspended]
    have filtered : k ∈ cs.filter (fun x => decide (x.cause ≠ c)) ↔ k ∈ r.causes ∧ k.cause ≠ c := by
      rw [List.mem_filter, same, decide_eq_true_eq]
    split
    · split
      · rename_i none
        rw [causes_resume, ← filtered, none]
      · rename_i x xs rest
        rw [← filtered, rest]
        rfl
    · rename_i absent
      rw [same]
      refine ⟨fun h => ⟨h, fun e => absent (List.any_eq_true.mpr ⟨k, h, decide_eq_true e⟩)⟩, And.left⟩
  all_goals
    rename_i other
    have none : r.causes = [] := by
      unfold RunRecord.causes
      rw [other]
    rw [none]
    simp

/-- A cause that has joined a run that is not ENDING is among its causes. -/
theorem mem_causes_join {r : RunRecord} (on : ∀ t o e, r.state ≠ .ending t o e) (now : Time) (c : SuspCause) (n : Nat) :
    ∃ k ∈ (r.join now c n).causes, k.cause = c := by
  unfold RunRecord.join
  dsimp only
  split
  · exact ⟨_, List.mem_singleton_self _, rfl⟩
  · exact ⟨_, List.mem_singleton_self _, rfl⟩
  · rename_i start prior cs suspended
    have same : r.causes = cs := by
      unfold RunRecord.causes
      rw [suspended]
    split
    · rename_i any
      obtain ⟨k, hk, is⟩ := List.any_eq_true.mp any
      exact ⟨k, same.symm ▸ hk, of_decide_eq_true is⟩
    · exact ⟨_, List.mem_append_right _ (List.mem_singleton_self _), rfl⟩
  · rename_i t o e ending
    exact absurd ending (on t o e)

theorem causes_join_mono {r : RunRecord} {k : CauseEntry} (h : k ∈ r.causes) (now : Time) (c : SuspCause) (n : Nat) :
    k ∈ (r.join now c n).causes := by
  unfold RunRecord.join
  unfold RunRecord.causes at h
  dsimp only
  split
  · rename_i other
    rw [other] at h
    cases h
  · rename_i other
    rw [other] at h
    cases h
  · rename_i start prior cs suspended
    rw [suspended] at h
    split
    · unfold RunRecord.causes
      rw [suspended]
      exact h
    · exact List.mem_append_left _ h
  · exact h

/-! ## The kits of one side -/

/-- A kit at the posts beside `q`, with records put and the directory changed there. -/
structure SideKit (q : Post) extends Kit (· ≠ q) where
  put : ∀ s p r, p ≠ q → rel (State.putTrailer s p r) s
  directory : ∀ (s : State) d, rel { s with directory := d } s

namespace SideKit

variable {q : Post} (h : SideKit q) (s : State)

theorem depart {p : Post} (hp : p ≠ q) : h.rel (s.depart p) s := by
  unfold State.depart
  dsimp only
  have cut : h.rel (s.cutShort p .departure) s := (h.unfile _ p hp).trans (h.endRun s p _ _ hp)
  generalize s.cutShort p .departure = c at *
  have emptied := (h.emptySets c hp).trans cut
  generalize c.emptySets p = e at *
  have item := (h.item e p (.departed (e.trailer p).serial) hp).trans emptied
  exact (h.put _ p .vacant hp).trans ((h.directory _ _).trans item)

theorem departAll {posts : List Post} {picks : RecordState → Bool} {f : State → Post → State}
    (hf : ∀ s p, f s p = if picks (s.trailer p).state then s.depart p else s)
    (hq : q ∈ posts → picks (s.trailer q).state = false) : h.rel (s.forEach posts f) s := by
  induction posts generalizing s with
  | nil => exact h.refl s
  | cons p posts ih =>
    have first : h.rel (f s p) s ∧ ((f s p).trailer q).state = (s.trailer q).state := by
      rw [hf]
      split
      · rename_i picked
        have apart : p ≠ q := by
          rintro rfl
          rw [hq List.mem_cons_self] at picked
          cases picked
        exact ⟨h.depart s apart, ((vacated_depart s p).others q apart.symm).1⟩
      · exact ⟨h.refl s, rfl⟩
    exact (ih (f s p) fun hm => first.2 ▸ hq (List.mem_cons_of_mem _ hm)).trans first.1

theorem discardRestored (l : Line) (hq : postLine q = l → (s.trailer q).state ≠ .restored) :
    h.rel (s.discardRestored l) s :=
  h.departAll s (picks := fun st => decide (st = .restored)) (fun s p => by simp only [decide_eq_true_eq])
    fun mem => decide_eq_false (hq (mem_postsOn.mp mem))

end SideKit

/-! ## A record beside its run -/

/-- A record without its run and its check code. -/
def TrailerRecord.offRun (t : TrailerRecord) : TrailerRecord := { t with run := none, checkError := 0 }

theorem TrailerRecord.field_of_offRun {t u : TrailerRecord} (h : t.offRun = u.offRun) {α : Type} (π : TrailerRecord → α)
    (hπ : ∀ x, π x.offRun = π x) : π t = π u := by
  rw [← hπ t, h, hπ]

theorem offRun_editTrailer (s : State) (p q : Post) {f : TrailerRecord → TrailerRecord}
    (hf : (f (s.trailer p)).offRun = (s.trailer p).offRun) : ((s.editTrailer p f).trailer q).offRun = (s.trailer q).offRun :=
  State.field_editTrailer s p f TrailerRecord.offRun (fun _ => rfl) hf q

theorem offRun_putRun (s : State) (p q : Post) (r : Option RunRecord) :
    ((s.putRun p r).trailer q).offRun = (s.trailer q).offRun := offRun_editTrailer s p q rfl

theorem offRun_causeJoins (s : State) (p q : Post) (c : SuspCause) (n : Nat) :
    ((s.causeJoins p c n).trailer q).offRun = (s.trailer q).offRun := by
  unfold State.causeJoins
  split
  · rfl
  · exact offRun_putRun s p q _

theorem offRun_causeLeaves (s : State) (p q : Post) (c : SuspCause) :
    ((s.causeLeaves p c).trailer q).offRun = (s.trailer q).offRun := by
  unfold State.causeLeaves
  split
  · rfl
  · exact offRun_putRun s p q _

theorem offRun_createRun (s : State) (q' : Queue) (r : Request) (q : Post) :
    ((s.createRun q' r).trailer q).offRun = (s.trailer q).offRun := by
  have started : ((((s.putRun r.post (some (s.newRun q' r))).item r.post
      (.defrostStarted r.cls q' r.load r.cls.firstState))).trailer q).offRun = (s.trailer q).offRun := by
    rw [State.item_trailer]
    exact offRun_putRun s r.post q _
  unfold State.createRun
  dsimp only
  have doored (u : State) (hu : (u.trailer q).offRun = (s.trailer q).offRun) (b : Prop) [Decidable b] :
      ((if b then u.causeJoins r.post .door 0 else u).trailer q).offRun = (s.trailer q).offRun := by
    split
    · exact (offRun_causeJoins u r.post q .door 0).trans hu
    · exact hu
  split
  · exact (offRun_causeJoins _ r.post q .cut _).trans (doored _ started _)
  · exact doored _ started _

theorem offRun_grant (s : State) (q' : Queue) (r : Request) (q : Post) :
    ((s.grant q' r).trailer q).offRun = (s.trailer q).offRun := by
  unfold State.grant
  exact offRun_createRun (s.putLoad q' (s.load q' + r.load)) q' r q

theorem offRun_grants (q' : Queue) (l : List Request) (s : State) (q : Post) :
    ((s.forEach l fun s' r => s'.grant q' r).trailer q).offRun = (s.trailer q).offRun :=
  State.forEach_same (fun u => (u.trailer q).offRun) s l (fun s' r => s'.grant q' r) fun u r _ => offRun_grant u q' r q

theorem offRun_walk (s : State) (q' : Queue) (q : Post) : ((s.walk q').trailer q).offRun = (s.trailer q).offRun := by
  cases running : s.running with
  | false => rw [State.walk_of_not_running running]
  | true =>
    rw [State.walk_of_running running]
    exact offRun_grants q' _ _ q

theorem offRun_releaseRun (s : State) {p q : Post} (h : q ≠ p) (r : RunRecord) (o : RunOutcome) (b : Bool) :
    ((s.releaseRun p r o b).trailer q).offRun = (s.trailer q).offRun := by
  rw [(releaseRun_releases s p r o b).others q h]

theorem offRun_endRun (s : State) {p q : Post} (h : p ≠ q) (o : RunOutcome) (b : Bool) :
    ((s.endRun p o b).trailer q).offRun = (s.trailer q).offRun := by
  cases hr : s.run p with
  | none => rw [State.endRun_of_none hr]
  | some r =>
    rw [State.endRun_of_run hr]
    exact (offRun_walk _ _ q).trans (offRun_releaseRun s h.symm r o b)

theorem trailer_of_others {p q : Post} {s t : State} (others : OtherPostsSame p s t) (h : p ≠ q) : t.trailer q = s.trailer q :=
  (others q h.symm).1

theorem trailer_upgradeRequest (s : State) (p : Post) (c : RequestClass) (q : Post) :
    (s.upgradeRequest p c).trailer q = s.trailer q := by
  unfold State.upgradeRequest
  split
  · rfl
  · exact removeRequest_trailer s p q

/-- A record beside its run stands while the owners work at other posts. -/
def SideKit.offRun (q : Post) : SideKit q where
  rel t s := (t.trailer q).offRun = (s.trailer q).offRun
  refl _ := rfl
  after x y := x.trans y
  edit s p f hp _ := congrArg _ (State.trailer_editTrailer_other s p q f hp.symm)
  output _ _ _ _ := rfl
  inForce _ _ _ _ := rfl
  item s p b _ := by rw [State.item_trailer]
  push _ _ _ _ _ _ := rfl
  unfile s p _ := congrArg _ (removeRequest_trailer s p q)
  editKey s p f hp _ := congrArg _ (State.trailer_editTrailer_other s p q f hp.symm)
  opening s p hp := congrArg _ (trailer_of_others (opens_opening s p).others hp)
  shut s p f hp _ := congrArg _ (State.trailer_editTrailer_other s p q _ hp.symm)
  walk s q' := offRun_walk s q' q
  endRun s p o b hp := offRun_endRun s hp o b
  upgrade s p c _ := congrArg _ (trailer_upgradeRequest s p c q)
  file s p c n _ _ _ _ := offRun_walk (s.joinQueue (s.queueOf p) _) _ q
  put s p r hp := congrArg _ (State.trailer_putTrailer_other s p q r hp.symm)
  directory _ _ := rfl

/-! ## A post that no walk can grant (R82) -/

/-- A post that is not eligible, whatever its queue: its line is not UP or its entry not LIVE. -/
def State.Barred (s : State) (q : Post) : Prop :=
  (s.line (postLine q)).state ≠ .up ∨ (s.entry q).map (·.state) ≠ some .live

theorem ineligible_of_barred {s : State} {q : Post} (h : s.Barred q) (q' : Queue) : s.ineligible q' q ≠ none := by
  unfold State.ineligible
  by_cases up : s.lineUp q = true
  · have notUp : ¬ (!s.lineUp q) = true := by rw [up]; nofun
    rw [if_neg notUp, if_pos (h.resolve_left fun no => no ((s.lineUp_eq_true_iff q).mp up))]
    nofun
  · rw [if_pos (by simpa using up)]
    nofun

/-- What a barred post keeps: its line's state, its entry and its record. -/
structure StandsBarred (q : Post) (s t : State) : Prop where
  line : t.line (postLine q) = s.line (postLine q)
  entry : t.entry q = s.entry q
  trailer : t.trailer q = s.trailer q

theorem StandsBarred.refl (q : Post) (s : State) : StandsBarred q s s := ⟨rfl, rfl, rfl⟩

theorem StandsBarred.trans {q : Post} {s t u : State} (x : StandsBarred q s t) (y : StandsBarred q t u) : StandsBarred q s u :=
  ⟨y.line.trans x.line, y.entry.trans x.entry, y.trailer.trans x.trailer⟩

theorem StandsBarred.barred {q : Post} {s t : State} (x : StandsBarred q s t) (h : s.Barred q) : t.Barred q := by
  unfold State.Barred
  rw [x.line, x.entry]
  exact h

theorem StandsBarred.of_framed {q : Post} {s t : State} (h : ∀ f : Framed, f.rel t s) (trailer : t.trailer q = s.trailer q) :
    StandsBarred q s t :=
  ⟨State.of_framed h (fun u => u.line (postLine q)) fun u => by cases postLine q <;> rfl,
    State.of_framed h (fun u => u.entry q) fun _ => rfl, trailer⟩

theorem trailer_walk_of_barred {s : State} {q : Post} (h : s.Barred q) (q' : Queue) : (s.walk q').trailer q = s.trailer q := by
  cases running : s.running with
  | false => rw [State.walk_of_not_running running]
  | true =>
    rw [State.walk_of_running running]
    refine trailer_grants_of_apart q' (fun r hr e => ?_) _
    have eligible : (s.ineligible q' r.post).isNone = true :=
      eligible_of_walkFrom _ (fun x => (s.ineligible q' x.post).isNone) _ _ _ r hr
    rw [e] at eligible
    exact ineligible_of_barred h q' (Option.isNone_iff_eq_none.mp eligible)

/-- A barred post stands while the owners work at other posts. -/
def SideKit.barred (q : Post) : SideKit q where
  rel t s := s.Barred q → StandsBarred q s t
  refl s _ := .refl q s
  after x y h := (y h).trans (x ((y h).barred h))
  edit s p f hp _ _ := .of_framed (fun k => k.editTrailer s p f) (State.trailer_editTrailer_other s p q f hp.symm)
  output s p o _ _ := .of_framed (fun k => k.output s p o) rfl
  inForce s p a _ _ := .of_framed (fun k => k.inForce s p a) rfl
  item s p b _ _ := .of_framed (fun k => k.item s p b) (by rw [State.item_trailer])
  push s p c d k _ _ := .of_framed (fun f => f.pushFrame s p c d k) rfl
  unfile s p _ _ := .of_framed (fun k => k.removeRequest s p) (removeRequest_trailer s p q)
  editKey s p f hp _ _ := .of_framed (fun k => k.editTrailer s p f) (State.trailer_editTrailer_other s p q f hp.symm)
  opening s p hp _ := .of_framed (fun k => k.opening s p) (trailer_of_others (opens_opening s p).others hp)
  shut s p f hp _ _ := .of_framed (fun k => k.editDoor s p f) (State.trailer_editTrailer_other s p q _ hp.symm)
  walk s q' h := .of_framed (fun k => k.walk s q') (trailer_walk_of_barred h q')
  endRun s p o b hp h := .of_framed (fun k => k.endRun s p o b) (by
    cases hr : s.run p with
    | none => rw [State.endRun_of_none hr]
    | some r =>
      rw [State.endRun_of_run hr]
      have released : StandsBarred q s (s.releaseRun p r o b) :=
        have alone := arbiterAlone_releaseRun s p r o b
        ⟨alone.line _, alone.entry q, (releaseRun_releases s p r o b).others q hp.symm⟩
      exact (trailer_walk_of_barred (released.barred h) _).trans released.trailer)
  upgrade s p c _ _ := .of_framed (fun k => k.upgradeRequest s p c) (trailer_upgradeRequest s p c q)
  file s p c n _ _ _ _ h :=
    .of_framed (fun k => k.fileRequest s p c n) (trailer_walk_of_barred (s := s.joinQueue (s.queueOf p) _) h _)
  put s p r hp _ := .of_framed (fun k => k.trailer s p r) (State.trailer_putTrailer_other s p q r hp.symm)
  directory s d _ := .of_framed (fun k => k.directory s d) rfl

end Sys2Proof.Machine


/-! # Line controllers that change, and the runs and records of their posts (R14, R19, R41, R100) -/

namespace Sys2Proof.Machine

/-! ## A cause that no grant brings -/

/-- The run of a post, if it has one, is free of a cause. -/
def State.FreeOf (s : State) (c : SuspCause) (q : Post) : Prop := ∀ x, s.run q = some x → ∀ k ∈ x.causes, k.cause ≠ c

theorem State.FreeOf.of_run {s t : State} {c : SuspCause} {q : Post} (h : s.FreeOf c q) (same : t.run q = s.run q) :
    t.FreeOf c q := fun x hx => h x (same ▸ hx)

theorem run_of_trailer {s t : State} {q : Post} (h : t.trailer q = s.trailer q) : t.run q = s.run q :=
  congrArg TrailerRecord.run h

theorem run_putRun_other (s : State) {p q : Post} (h : q ≠ p) (r : Option RunRecord) : (s.putRun p r).run q = s.run q :=
  run_of_trailer (State.trailer_editTrailer_other s p q _ h)

section
variable {s : State} {c : SuspCause} {q : Post}

theorem State.FreeOf.causeJoins (h : s.FreeOf c q) (p : Post) {c' : SuspCause} (apart : c ≠ c') (n : Nat) :
    (s.causeJoins p c' n).FreeOf c q := by
  unfold State.causeJoins
  split
  · exact h
  · rename_i r hr
    by_cases same : q = p
    · subst same
      intro x hx k hk
      rw [State.run_putRun_self] at hx
      cases hx
      exact (causes_join hk).elim (h r hr k) fun is e => apart (e.symm.trans is)
    · exact h.of_run (run_putRun_other s same _)

theorem State.FreeOf.causeLeaves (h : s.FreeOf c q) (p : Post) (c' : SuspCause) : (s.causeLeaves p c').FreeOf c q := by
  unfold State.causeLeaves
  split
  · exact h
  · rename_i r hr
    by_cases same : q = p
    · subst same
      intro x hx k hk
      rw [State.run_putRun_self] at hx
      cases hx
      exact h r hr k (causes_leave.mp hk).1
    · exact h.of_run (run_putRun_other s same _)

theorem freeOf_causeLeaves (s : State) (c : SuspCause) (q : Post) : (s.causeLeaves q c).FreeOf c q := by
  unfold State.causeLeaves
  split
  · rename_i none
    intro x hx
    rw [none] at hx
    cases hx
  · intro x hx k hk
    rw [State.run_putRun_self] at hx
    cases hx
    exact (causes_leave.mp hk).2

theorem causes_newRun (s : State) (q : Queue) (r : Request) : (s.newRun q r).causes = [] := by
  unfold State.newRun
  cases r.cls.firstState <;> rfl

variable (door : c ≠ .door) (cut : c ≠ .cut)
include door cut

theorem State.FreeOf.createRun (h : s.FreeOf c q) (q' : Queue) (r : Request) : (s.createRun q' r).FreeOf c q := by
  have started : (((s.putRun r.post (some (s.newRun q' r))).item r.post
      (.defrostStarted r.cls q' r.load r.cls.firstState))).FreeOf c q := by
    have put : (s.putRun r.post (some (s.newRun q' r))).FreeOf c q := by
      by_cases same : q = r.post
      · subst same
        intro x hx k hk
        rw [State.run_putRun_self] at hx
        cases hx
        rw [causes_newRun] at hk
        cases hk
      · exact h.of_run (run_putRun_other s same _)
    exact put.of_run (State.item_run _ _ _ _)
  have doored (u : State) (hu : u.FreeOf c q) (b : Prop) [Decidable b] :
      (if b then u.causeJoins r.post .door 0 else u).FreeOf c q := by
    split
    · exact hu.causeJoins r.post door 0
    · exact hu
  unfold State.createRun
  dsimp only
  split
  · exact (doored _ started _).causeJoins r.post cut _
  · exact doored _ started _

theorem State.FreeOf.grants (h : s.FreeOf c q) (q' : Queue) (l : List Request) :
    (s.forEach l fun s' r => s'.grant q' r).FreeOf c q := by
  induction l generalizing s with
  | nil => exact h
  | cons r l ih =>
    have loaded : (s.putLoad q' (s.load q' + r.load)).FreeOf c q := h
    exact ih (loaded.createRun door cut q' r)

theorem State.FreeOf.walk (h : s.FreeOf c q) (q' : Queue) : (s.walk q').FreeOf c q := by
  cases running : s.running with
  | false =>
    rw [State.walk_of_not_running running]
    exact h
  | true =>
    rw [State.walk_of_running running]
    have taken : (s.putQueue q' (s.walked q').2).FreeOf c q := h
    exact taken.grants door cut q' _

end

/-- A run free of a cause that no grant brings stays so while the owners work at other posts. -/
def SideKit.freeOf {c : SuspCause} (door : c ≠ .door) (cut : c ≠ .cut) (q : Post) : SideKit q where
  rel t s := s.FreeOf c q → t.FreeOf c q
  refl _ := id
  after x y := x ∘ y
  edit s p f hp _ h := h.of_run (run_of_trailer (State.trailer_editTrailer_other s p q f hp.symm))
  output _ _ _ _ h := h
  inForce _ _ _ _ h := h
  item s p b _ h := h.of_run (State.item_run _ _ _ _)
  push _ _ _ _ _ _ h := h
  unfile s p _ h := h.of_run (removeRequest_run s p q)
  editKey s p f hp _ h := h.of_run (run_of_trailer (State.trailer_editTrailer_other s p q f hp.symm))
  opening s p hp h := h.of_run (run_of_trailer (trailer_of_others (opens_opening s p).others hp))
  shut s p f hp _ h := h.of_run (run_of_trailer (State.trailer_editTrailer_other s p q _ hp.symm))
  walk _ q' h := h.walk door cut q'
  endRun s p o b hp h := by
    cases hr : s.run p with
    | none =>
      rw [State.endRun_of_none hr]
      exact h
    | some r =>
      rw [State.endRun_of_run hr]
      exact (h.of_run (run_of_trailer ((releaseRun_releases s p r o b).others q hp.symm))).walk door cut _
  upgrade s p c _ h := h.of_run (run_of_trailer (trailer_upgradeRequest s p c q))
  file s p _ _ _ _ _ _ h := State.FreeOf.walk (s := s.joinQueue (s.queueOf p) _) door cut h _
  put s p r hp h := h.of_run (run_of_trailer (State.trailer_putTrailer_other s p q r hp.symm))
  directory _ _ h := h

/-! ## What a change of a line controller keeps -/

/-- A preorder that a change of a line controller keeps: LINE joining and leaving runs, and walks. -/
structure ChangeKit where
  rel : State → State → Prop
  refl : ∀ s, rel s s
  after : ∀ {a b c}, rel a b → rel b c → rel a c
  putLine : ∀ s l c, rel (State.putLine s l c) s
  joins : ∀ s p, rel (State.causeJoins s p .line 0) s
  leaves : ∀ s p, rel (State.causeLeaves s p .line) s
  walk : ∀ s q, rel (State.walk s q) s

theorem ChangeKit.rel.trans {h : ChangeKit} {a b c : State} (x : h.rel a b) (y : h.rel b c) : h.rel a c := h.after x y

namespace ChangeKit

variable (h : ChangeKit) (s : State)

theorem forEach {β : Type} (l : List β) (f : State → β → State) (hf : ∀ s b, h.rel (f s b) s) : h.rel (s.forEach l f) s := by
  induction l generalizing s with
  | nil => exact h.refl s
  | cons b l ih => exact (ih (f s b)).trans (hf s b)

theorem walkForLine (l : Line) : h.rel (s.walkForLine l) s :=
  h.forEach s allQueues (fun s' q => if (s'.queue q).any fun r => decide (postLine r.post = l) then s'.walk q else s')
    fun s q => by
      split
      · exact h.walk s q
      · exact h.refl s

theorem changeLine (l : Line) (c : LineController) : h.rel (s.changeLine l c) s := by
  have put := h.putLine s l c
  unfold State.changeLine
  dsimp only
  split
  · exact (h.forEach _ (postsOn l) _ fun s p => h.joins s p).trans put
  · split
    · exact (h.walkForLine _ l).trans ((h.forEach _ (postsOn l) _ fun s p => h.leaves s p).trans put)
    · exact put

end ChangeKit

/-- A record beside its run, as a kit of a line that changes. -/
def ChangeKit.offRun (q : Post) : ChangeKit where
  rel t s := (t.trailer q).offRun = (s.trailer q).offRun
  refl _ := rfl
  after x y := x.trans y
  putLine s l c := by cases l <;> rfl
  joins s p := offRun_causeJoins s p q .line 0
  leaves s p := offRun_causeLeaves s p q .line
  walk s q' := offRun_walk s q' q

/-- A post whose entry is not LIVE and whose run has a cause. -/
structure State.Bears (s : State) (c : SuspCause) (q : Post) : Prop where
  away : (s.entry q).map (·.state) ≠ some .live
  run : ∃ x, s.run q = some x ∧ ∃ k ∈ x.causes, k.cause = c

theorem State.Bears.of_same {s t : State} {c : SuspCause} {q : Post} (h : s.Bears c q) (entry : t.entry q = s.entry q)
    (run : t.run q = s.run q) : t.Bears c q := ⟨entry ▸ h.away, run ▸ h.run⟩

theorem State.Bears.causeJoins {s : State} {c : SuspCause} {q : Post} (h : s.Bears c q) (p : Post) (c' : SuspCause) (n : Nat) :
    (s.causeJoins p c' n).Bears c q := by
  have entry := (arbiterAlone_causeJoins s p c' n).entry q
  obtain ⟨x, hx, k, hk, is⟩ := h.run
  by_cases same : q = p
  · subst same
    refine ⟨entry ▸ h.away, x.join s.now c' n, ?_, k, causes_join_mono hk _ _ _, is⟩
    unfold State.causeJoins
    rw [hx]
    exact State.run_putRun_self s q _
  · refine h.of_same entry ?_
    unfold State.causeJoins
    split
    · rfl
    · exact run_putRun_other s same _

theorem State.Bears.causeLeaves {s : State} {c : SuspCause} {q : Post} (h : s.Bears c q) (p : Post) {c' : SuspCause}
    (apart : c ≠ c') : (s.causeLeaves p c').Bears c q := by
  have entry := (arbiterAlone_causeLeaves s p c').entry q
  obtain ⟨x, hx, k, hk, is⟩ := h.run
  by_cases same : q = p
  · subst same
    refine ⟨entry ▸ h.away, x.leave s.now c', ?_, k, causes_leave.mpr ⟨hk, is ▸ apart⟩, is⟩
    unfold State.causeLeaves
    rw [hx]
    exact State.run_putRun_self s q _
  · refine h.of_same entry ?_
    unfold State.causeLeaves
    split
    · rfl
    · exact run_putRun_other s same _

theorem State.Bears.barred {s : State} {c : SuspCause} {q : Post} (h : s.Bears c q) : s.Barred q := .inr h.away

/-- A cause of a run whose post is away, as a kit of a line that changes. -/
def ChangeKit.bears {c : SuspCause} (hc : c ≠ .line) (q : Post) : ChangeKit where
  rel t s := s.Bears c q → t.Bears c q
  refl _ := id
  after x y := x ∘ y
  putLine s l c h := by cases l <;> exact ⟨h.away, h.run⟩
  joins s p h := h.causeJoins p .line 0
  leaves s p h := h.causeLeaves p hc
  walk s q' h := h.of_same ((arbiterAlone_walk s q').entry q) (run_of_trailer (trailer_walk_of_barred h.barred q'))

/-! ## The runs of a line that leaves UP, and of one that enters it -/

/-- The run of a post, if it has one, is neither COMMANDED nor HEATING. -/
def State.Halted (s : State) (q : Post) : Prop := ∀ x, s.run q = some x → x.state ≠ .commanded ∧ ∀ t, x.state ≠ .heating t

theorem halted_join (r : RunRecord) (now : Time) (c : SuspCause) (n : Nat) :
    (r.join now c n).state ≠ .commanded ∧ ∀ t, (r.join now c n).state ≠ .heating t := by
  unfold RunRecord.join
  dsimp only
  split
  · exact ⟨nofun, nofun⟩
  · exact ⟨nofun, nofun⟩
  · rename_i suspended
    split
    · rw [suspended]
      exact ⟨nofun, nofun⟩
    · exact ⟨nofun, nofun⟩
  · rename_i ending
    rw [ending]
    exact ⟨nofun, nofun⟩

theorem State.Halted.of_run {s t : State} {q : Post} (h : s.Halted q) (same : t.run q = s.run q) : t.Halted q :=
  fun x hx => h x (same ▸ hx)

theorem halted_causeJoins (s : State) (q : Post) (c : SuspCause) (n : Nat) : (s.causeJoins q c n).Halted q := by
  unfold State.causeJoins
  split
  · rename_i none
    intro x hx
    rw [none] at hx
    cases hx
  · intro x hx
    rw [State.run_putRun_self] at hx
    cases hx
    exact halted_join _ _ _ _

theorem State.Halted.causeJoins {s : State} {q : Post} (h : s.Halted q) (p : Post) (c : SuspCause) (n : Nat) :
    (s.causeJoins p c n).Halted q := by
  by_cases same : q = p
  · exact same ▸ halted_causeJoins s q c n
  · refine h.of_run ?_
    unfold State.causeJoins
    split
    · rfl
    · exact run_putRun_other s same _

/-- An operation done at every post of a list, which sets a property there that it keeps elsewhere. -/
theorem forEach_sets {P : State → Post → Prop} {f : State → Post → State} (sets : ∀ s p, P (f s p) p)
    (keeps : ∀ s p q, P s q → P (f s p) q) (posts : List Post) (s : State) {q : Post} (hq : q ∈ posts ∨ P s q) :
    P (s.forEach posts f) q := by
  induction posts generalizing s with
  | nil => exact hq.resolve_left nofun
  | cons p posts ih =>
    refine ih (f s p) ?_
    obtain hq | hq := hq
    · obtain rfl | hq := List.mem_cons.mp hq
      · exact .inr (sets s q)
      · exact .inl hq
    · exact .inr (keeps s p q hq)

theorem forEach_keeps {β : Type} (P : State → Prop) {f : State → β → State} (keeps : ∀ s b, P s → P (f s b)) (l : List β)
    (s : State) (h : P s) : P (s.forEach l f) := by
  induction l generalizing s with
  | nil => exact h
  | cons b l ih => exact ih (f s b) (keeps s b h)

theorem halted_lineLeavesUp (s : State) {l : Line} {q : Post} (h : postLine q = l) : (s.lineLeavesUp l).Halted q :=
  forEach_sets (P := fun s q => s.Halted q) (fun s p => halted_causeJoins s p .line 0) (fun _ p _ h => h.causeJoins p .line 0)
    (postsOn l) s (.inl (mem_postsOn.mpr h))

theorem freeOf_lineEntersUp (s : State) {l : Line} {q : Post} (h : postLine q = l) : (s.lineEntersUp l).FreeOf .line q := by
  have left : (s.forEach (postsOn l) fun s' p => s'.causeLeaves p .line).FreeOf .line q :=
    forEach_sets (P := fun s q => s.FreeOf .line q) (fun s p => freeOf_causeLeaves s .line p) (fun _ p _ h => h.causeLeaves p .line)
      (postsOn l) s (.inl (mem_postsOn.mpr h))
  unfold State.lineEntersUp
  generalize (s.forEach (postsOn l) fun s' p => s'.causeLeaves p .line) = u at left
  unfold State.walkForLine
  refine forEach_keeps (fun u => u.FreeOf .line q) (fun u q' h => ?_) allQueues u left
  split
  · exact State.FreeOf.walk (c := .line) nofun nofun h q'
  · exact h

end Sys2Proof.Machine


/-! # Missed exchanges (R3, R7, R10, R12, R14, R19) -/

namespace Sys2Proof.Machine

/-! ## A finding produced -/

/-- The run's cause stands beside an action that does not abort the run. -/
theorem State.Bears.applyAction {s : State} {c : SuspCause} {p : Post} (h : s.Bears c p) {a : Action}
    (quiet : a ≠ .inhibitDefrost) (k : Nat) : (s.applyAction p a k).Bears c p := by
  have active : (s.activate p a k).Bears c p := h.of_same (by rw [State.activate_changes]; rfl)
    (run_of_trailer (State.activate_trailer s p p a k))
  unfold State.applyAction
  split
  · exact h
  · dsimp only
    split
    · exact active
    · exact active
    · exact absurd rfl quiet
    · exact active.causeJoins p .cut k

/-- A finding produced is dropped, noted or raised (R147, R149, R150). -/
theorem produce_cases (s : State) (p : Post) (c : FindingClass) (d k : Nat) :
    ((s.running = false ∨ (s.trailer p).stands c = true) ∧ s.produce p c d k = s) ∨
    (s.running = true ∧ (s.trailer p).stands c = false ∧ s.produce p c d k = s.noteFinding p c d) ∨
    (s.running = true ∧ (s.trailer p).stands c = false ∧ s.produce p c d k = s.raiseFinding State.applyAction p c d k) := by
  unfold State.produce
  by_cases drops : s.running = false ∨ (s.trailer p).stands c = true
  · exact .inl ⟨drops, by rw [produceWith_of_drops _ _ _ drops]⟩
  · obtain ⟨running, free⟩ := not_or.mp drops
    have running := Bool.not_eq_false _ ▸ running
    have free := Bool.eq_false_iff.mpr free
    by_cases mask : (s.trailer p).mask.getLsbD c.num = true ∨ c = .custodyBreak
    · exact .inr (.inr ⟨running, free, by rw [produceWith_of_raises _ _ _ running free mask]⟩)
    · obtain ⟨clear, other⟩ := not_or.mp mask
      exact .inr (.inl ⟨running, free, by rw [produceWith_of_notes _ _ _ running free (Bool.eq_false_iff.mpr clear) other]⟩)

theorem entry_pushed (s : State) (p : Post) (c : FindingClass) (d k : Nat) (q : Post) :
    (s.pushed p c d k).entry q = s.entry q :=
  State.of_framed (fun f => (f.editTrailer (s.pushFrame p c d k) p _).trans (f.pushFrame s p c d k)) (fun u => u.entry q)
    fun _ => rfl

theorem State.Bears.produce {s : State} {c : SuspCause} {p : Post} (h : s.Bears c p) {x : FindingClass}
    (quiet : (s.tableEntry x).action ≠ .inhibitDefrost) (d k : Nat) : (s.produce p x d k).Bears c p := by
  obtain ⟨-, same⟩ | ⟨-, -, same⟩ | ⟨-, -, same⟩ := produce_cases s p x d k <;> rw [same]
  · exact h
  · refine h.of_same (State.of_framed (fun f => f.noteFinding s p x d) (fun u => u.entry p) fun _ => rfl) ?_
    exact (State.item_run _ _ _ _).trans (State.field_editTrailer_self s p _ TrailerRecord.run fun _ => rfl)
  · rw [raiseFinding_eq]
    have pushed : (s.pushed p x d k).Bears c p := h.of_same (entry_pushed s p x d k p) (pushed_run s p x d k p)
    exact (pushed.applyAction quiet s.nextPush).of_same
      (State.of_framed (fun f => f.item _ p _) (fun u => u.entry p) fun _ => rfl) (State.item_run _ _ _ _)

theorem TrailerRecord.detailOf_of_active {t : TrailerRecord} {c : FindingClass} {a : ActiveFinding} (h : t.activeOf c = some a) :
    t.detailOf c = some a.detail := by
  unfold TrailerRecord.detailOf
  rw [h]

theorem TrailerRecord.detailOf_of_noted {t : TrailerRecord} {c : FindingClass} (h : t.activeOf c = none) :
    t.detailOf c = (t.notedOf c).map (·.detail) := by
  unfold TrailerRecord.detailOf
  rw [h]

/-- A class that comes to stand has the detail it was produced with. -/
theorem detailOf_produce {s : State} {p : Post} {c : FindingClass} (running : s.running = true)
    (free : (s.trailer p).stands c = false) (d k : Nat) : ((s.produce p c d k).trailer p).detailOf c = some d := by
  obtain ⟨drops, -⟩ | ⟨-, -, same⟩ | ⟨-, -, same⟩ := produce_cases s p c d k
  · rw [running, free] at drops
    exact (drops.elim nofun nofun)
  · have unheld := TrailerRecord.not_stands_iff.mp free
    rw [same, noteFinding_trailer, State.field_editTrailer_self s p _ (fun t => t.detailOf c) fun _ => rfl]
    have active : ((s.trailer p).noting c d).activeOf c = none := unheld.1
    rw [TrailerRecord.detailOf_of_noted active, TrailerRecord.notedOf_noting unheld.2]
    rfl
  · rw [same, raiseFinding_eq]
    exact TrailerRecord.detailOf_of_active (raised_stands (d := d) (k := k) free _ _).1

/-! ## The round end -/

/-- The line controller at a round end: the judgement, and the rounds since first UP (R3, R13 to R18). -/
def LineController.ended (c : LineController) (r : Round) : LineController :=
  ({ c with round := none }.judged r).advanceUp

theorem advanceUp_changes (c : LineController) : c.advanceUp = { c with sinceUp := c.advanceUp.sinceUp } := by
  unfold LineController.advanceUp
  split
  · rfl
  · split <;> rfl

theorem judged_changes (c : LineController) (r : Round) : c.judged r = { c with
    state := (c.judged r).state, goodRounds := (c.judged r).goodRounds, silentRounds := (c.judged r).silentRounds } := by
  unfold LineController.judged LineController.endDisturbed LineController.endRecovering
  split
  · dsimp only
    split_ifs <;> rfl
  · dsimp only
    split_ifs <;> rfl
  all_goals rfl

theorem ended_changes (c : LineController) (r : Round) : c.ended r = { c with
    round := none, state := (c.ended r).state, goodRounds := (c.ended r).goodRounds
    silentRounds := (c.ended r).silentRounds, sinceUp := (c.ended r).sinceUp } := by
  unfold LineController.ended
  have judged := judged_changes { c with round := none } r
  generalize LineController.judged { c with round := none } r = j at *
  have advanced := advanceUp_changes j
  generalize j.advanceUp = a at *
  rw [advanced, judged]

/-- The state as the line controller has changed at a round end, before the round-end event at the Trailer Table. -/
def State.roundJudged (s : State) (l : Line) (r : Round) : State := s.changeLine l ((s.line l).ended r)

theorem endRound_eq (s : State) (l : Line) (r : Round) :
    s.endRound l r = if ((s.line l).ended r).sinceUp = some 5 ∧ (s.line l).sinceUp ≠ some 5
      then (s.roundJudged l r).discardRestored l else s.roundJudged l r := rfl

/-- What a round end keeps, whether or not the restored records of the line depart (R41). -/
theorem endRound_of {P : State → Prop} (s : State) (l : Line) (r : Round) (judged : P (s.roundJudged l r))
    (discarded : P ((s.roundJudged l r).discardRestored l)) : P (s.endRound l r) := by
  rw [endRound_eq]
  split
  · exact discarded
  · exact judged

theorem framed_discardRestored (s : State) (l : Line) (f : Framed) : f.rel (s.discardRestored l) s :=
  (departAll_discardRestored s l).frame f

theorem line_of_framed {s t : State} (h : ∀ f : Framed, f.rel t s) (l : Line) : t.line l = s.line l :=
  State.of_framed h (fun u => u.line l) fun _ => by cases l <;> rfl

theorem entry_of_framed {s t : State} (h : ∀ f : Framed, f.rel t s) (p : Post) : t.entry p = s.entry p :=
  State.of_framed h (fun u => u.entry p) fun _ => rfl

theorem line_endRound_self (s : State) (l : Line) (r : Round) : (s.endRound l r).line l = (s.line l).ended r := by
  have judged : (s.roundJudged l r).line l = (s.line l).ended r := line_changeLine_self s l _
  exact endRound_of (P := fun u => u.line l = (s.line l).ended r) s l r judged
    ((line_of_framed (framed_discardRestored _ l) l).trans judged)

theorem line_endRound_other (s : State) {l l' : Line} (h : l' ≠ l) (r : Round) : (s.endRound l r).line l' = s.line l' := by
  have judged : (s.roundJudged l r).line l' = s.line l' := line_changeLine_other s h _
  exact endRound_of (P := fun u => u.line l' = s.line l') s l r judged
    ((line_of_framed (framed_discardRestored _ l) l').trans judged)

theorem entry_endRound (s : State) (l : Line) (r : Round) (p : Post) : (s.endRound l r).entry p = s.entry p := by
  have judged : (s.roundJudged l r).entry p = s.entry p := entry_changeLine s l _ p
  exact endRound_of (P := fun u => u.entry p = s.entry p) s l r judged
    ((entry_of_framed (framed_discardRestored _ l) p).trans judged)

theorem offRun_endRound (s : State) (l : Line) (r : Round) {p : Post} (h : (s.trailer p).state ≠ .restored) :
    ((s.endRound l r).trailer p).offRun = (s.trailer p).offRun := by
  have judged : ((s.roundJudged l r).trailer p).offRun = (s.trailer p).offRun := (ChangeKit.offRun p).changeLine s l _
  refine endRound_of (P := fun u => (u.trailer p).offRun = (s.trailer p).offRun) s l r judged
    (((SideKit.offRun p).discardRestored _ l fun _ => ?_).trans judged)
  rw [TrailerRecord.field_of_offRun judged TrailerRecord.state fun _ => rfl]
  exact h

theorem State.Bears.endRound {s : State} {c : SuspCause} {p : Post} (h : s.Bears c p) (hc : c ≠ .line) (l : Line) (r : Round)
    (stays : (s.trailer p).state ≠ .restored) : (s.endRound l r).Bears c p := by
  have judged : (s.roundJudged l r).Bears c p := (ChangeKit.bears hc p).changeLine s l _ h
  refine endRound_of (P := fun u => u.Bears c p) s l r judged ?_
  have same : ((s.roundJudged l r).trailer p).offRun = (s.trailer p).offRun := (ChangeKit.offRun p).changeLine s l _
  have barred := (SideKit.barred p).discardRestored (s.roundJudged l r) l (fun _ => by
    rw [TrailerRecord.field_of_offRun same TrailerRecord.state fun _ => rfl]
    exact stays) judged.barred
  exact judged.of_same barred.entry (run_of_trailer barred.trailer)

/-! ## The next address -/

theorem nextAddress_of_more {s : State} {l : Line} {r : Round} {q : Post} {rest : List Post}
    (round : (s.line l).round = some r) (more : r.remaining = q :: rest) :
    s.nextAddress l = s.beginExchange l q false { r with remaining := rest } := by
  unfold State.nextAddress
  rw [round]
  dsimp only
  rw [more]

theorem nextAddress_of_last {s : State} {l : Line} {r : Round} (round : (s.line l).round = some r) (last : r.remaining = []) :
    s.nextAddress l = s.endRound l r := by
  unfold State.nextAddress
  rw [round]
  dsimp only
  rw [last]

theorem pollsNext_nextAddress {s : State} {l : Line} {r : Round} {q : Post} {rest : List Post}
    (round : (s.line l).round = some r) (more : r.remaining = q :: rest) :
    (s.nextAddress l).PollsNext l q { r with remaining := rest } := by
  rw [nextAddress_of_more round more]
  have same : (s.levelsFor q true).2.line l = s.line l := by
    rw [levelsFor_changes]
    cases l <;> rfl
  have begun : s.beginExchange l q false { r with remaining := rest } = (s.levelsFor q true).2.putLine l
      { (s.levelsFor q true).2.line l with round := some { r with
        remaining := rest, exchange := { post := q, retry := false, levels := (s.levelsFor q true).1 } } } := rfl
  rw [same] at begun
  exact ⟨s, begun⟩

/-- What going on to the next address leaves of the entries, the lines, the records and the runs' causes. -/
structure GoesOn (l : Line) (r : Round) (s u : State) : Prop where
  entry : ∀ p, u.entry p = s.entry p
  misses : (u.line l).misses = (s.line l).misses
  other : ∀ l', l' ≠ l → u.line l' = s.line l'
  offRun : ∀ p, ((s.trailer p).state ≠ .restored ∨ r.remaining ≠ []) → (u.trailer p).offRun = (s.trailer p).offRun
  bears : ∀ c p, c ≠ .line → (s.trailer p).state ≠ .restored → s.Bears c p → u.Bears c p

theorem goesOn_nextAddress {s : State} {l : Line} {r : Round} (round : (s.line l).round = some r) :
    GoesOn l r s (s.nextAddress l) := by
  cases more : r.remaining with
  | nil =>
    rw [nextAddress_of_last round more]
    refine ⟨entry_endRound s l r, ?_, fun l' h => line_endRound_other s h r,
      fun p h => offRun_endRound s l r (h.resolve_right fun no => no more), fun c p hc stays h => h.endRound hc l r stays⟩
    rw [line_endRound_self, ended_changes]
  | cons q rest =>
    rw [nextAddress_of_more round more]
    have polls := polls_beginExchange s l q false { r with remaining := rest }
    generalize s.beginExchange l q false { r with remaining := rest } = u at *
    have entry (p : Post) : u.entry p = s.entry p := by
      rw [polls.changes]
      rfl
    have trailer (p : Post) : u.trailer p = s.trailer p := by
      rw [polls.changes]
      rfl
    refine ⟨entry, by rw [polls.line], polls.other, fun p _ => by rw [trailer], fun c p _ _ h => ?_⟩
    exact h.of_same (entry p) (run_of_trailer (trailer p))

/-! ## The result of an address that failed (R7, R10, R12) -/

/-- A post that becomes LOST: POST among the causes of its run, and LINK-LOST where a trailer stands (R10). -/
structure LosesPost (p : Post) (s v : State) : Prop where
  frame : ∀ f : Framed, f.rel v s
  bears : ∀ x, (s.entry p).map (·.state) ≠ some .live → (s.trailer p).state = .enrolled → s.run p = some x →
    (∀ t o seen, x.state ≠ .ending t o seen) → (s.tableEntry .linkLost).action ≠ .inhibitDefrost → v.Bears .post p
  stands : s.phase = .running → (s.trailer p).state ≠ .vacant → (v.trailer p).stands .linkLost = true
  detail : s.phase = .running → (s.trailer p).state ≠ .vacant → (s.trailer p).stands .linkLost = false →
    (v.trailer p).detailOf .linkLost = some 1
  state : ∀ q, (v.trailer q).state = (s.trailer q).state

theorem bears_causeJoins {s : State} {p : Post} {x : RunRecord} (away : (s.entry p).map (·.state) ≠ some .live)
    (run : s.run p = some x) (on : ∀ t o seen, x.state ≠ .ending t o seen) (c : SuspCause) (n : Nat) :
    (s.causeJoins p c n).Bears c p := by
  refine ⟨?_, x.join s.now c n, ?_, mem_causes_join on s.now c n⟩
  · rw [(arbiterAlone_causeJoins s p c n).entry p]
    exact away
  · unfold State.causeJoins
    rw [run]
    exact State.run_putRun_self s p _

theorem losesPost_losePost (s : State) (p : Post) : LosesPost p s (s.losePost p) := by
  have joined (f : Framed) := f.causeJoins s p .post 0
  have record (q : Post) : ((s.causeJoins p .post 0).trailer q).offRun = (s.trailer q).offRun :=
    offRun_causeJoins s p q .post 0
  have bears (x : RunRecord) := bears_causeJoins (s := s) (p := p) (x := x) (c := .post) (n := 0)
  have phase : (s.causeJoins p .post 0).phase = s.phase := State.of_framed joined State.phase fun _ => rfl
  have table : (s.causeJoins p .post 0).tableEntry .linkLost = s.tableEntry .linkLost :=
    State.of_framed joined (fun u => u.tableEntry .linkLost) fun _ => rfl
  unfold State.losePost
  dsimp only
  generalize s.causeJoins p .post 0 = j at *
  have state (q : Post) : (j.trailer q).state = (s.trailer q).state :=
    TrailerRecord.field_of_offRun (record q) TrailerRecord.state fun _ => rfl
  have standing : (j.trailer p).stands .linkLost = (s.trailer p).stands .linkLost :=
    TrailerRecord.field_of_offRun (record p) (fun t => t.stands .linkLost) fun _ => rfl
  split
  · rename_i vacant
    exact ⟨joined, fun x away _ run on _ => bears x away run on, fun _ some => absurd (state p ▸ vacant) some,
      fun _ some => absurd (state p ▸ vacant) some, state⟩
  · refine ⟨fun f => (f.produce j p .linkLost 1 0).trans (joined f), fun x away _ run on quiet => ?_, fun running _ => ?_,
      fun running _ free => ?_, ?_⟩
    · exact (bears x away run on).produce (table ▸ quiet) 1 0
    · exact (stands_produce j p .linkLost 1 0).2 (running_of_phase (phase.trans running))
    · exact detailOf_produce (running_of_phase (phase.trans running)) (standing.trans free) 1 0
    · exact fun q => ((Kit.identity.produce j trivial .linkLost 1 0).state q).trans (state q)

/-- A live post becomes LOST at a MISS while missed rounds are counted (R10). -/
def State.LosesAt (s : State) (l : Line) (e : PostEntry) : Prop :=
  (s.line l).state.countsMisses = true ∧ e.state = .live ∧ e.miss.state = .lost

/-- What a MISS leaves of the lines, the entries and the post that missed. -/
structure Misses (l : Line) (p : Post) (e : PostEntry) (s v : State) : Prop where
  other : ∀ l', l' ≠ l → v.line l' = s.line l'
  entry : v.entry p = some (if (s.line l).state.countsMisses then e.miss else e)
  others : ∀ q, q ≠ p → v.entry q = s.entry q
  state : ∀ q, (v.trailer q).state = (s.trailer q).state
  bears : s.LosesAt l e → ∀ x, (s.trailer p).state = .enrolled → s.run p = some x →
    (∀ t o seen, x.state ≠ .ending t o seen) → (s.tableEntry .linkLost).action ≠ .inhibitDefrost → v.Bears .post p
  stands : s.LosesAt l e → s.phase = .running → (s.trailer p).state ≠ .vacant → (v.trailer p).stands .linkLost = true
  detail : s.LosesAt l e → s.phase = .running → (s.trailer p).state ≠ .vacant → (s.trailer p).stands .linkLost = false →
    (v.trailer p).detailOf .linkLost = some 1

theorem misses_missPost {s : State} {l : Line} {p : Post} {e : PostEntry} (he : s.entry p = some e) :
    Misses l p e s (s.missPost l p) ∧ (s.missPost l p).line l = s.line l := by
  have away (h : s.LosesAt l e) : ((s.putEntry p (some e.miss)).entry p).map (·.state) ≠ some .live := by
    rw [State.entry_putEntry_self, Option.map_some, h.2.2]
    nofun
  have line (l' : Line) : (s.putEntry p (some e.miss)).line l' = s.line l' := by cases l' <;> rfl
  have self := s.entry_putEntry_self p (some e.miss)
  have others (q : Post) (h : q ≠ p) := s.entry_putEntry_other p q (some e.miss) h
  have trailer (q : Post) : (s.putEntry p (some e.miss)).trailer q = s.trailer q := rfl
  have run : (s.putEntry p (some e.miss)).run p = s.run p := rfl
  have phase : (s.putEntry p (some e.miss)).phase = s.phase := rfl
  have table (c : FindingClass) : (s.putEntry p (some e.miss)).tableEntry c = s.tableEntry c := rfl
  unfold State.missPost
  rw [he]
  dsimp only
  cases counts : (s.line l).state.countsMisses with
  | false =>
    have still : ¬ s.LosesAt l e := fun h => absurd (counts.symm.trans h.1) nofun
    exact ⟨⟨fun _ _ => rfl, by rw [counts]; exact he, fun _ _ => rfl, fun _ => rfl, fun h => absurd h still, fun h => absurd h still,
      fun h => absurd h still⟩, rfl⟩
  | true =>
    rw [if_pos rfl]
    generalize s.putEntry p (some e.miss) = w at *
    split
    · rename_i lost
      have loses := losesPost_losePost w p
      have entry (q : Post) := entry_of_framed loses.frame q
      have line' (l' : Line) := (line_of_framed loses.frame l').trans (line l')
      generalize w.losePost p = v at *
      refine ⟨⟨fun l' _ => line' l', by rw [counts, entry]; exact self, fun q h => (entry q).trans (others q h),
        fun q => (loses.state q).trans (congrArg _ (trailer q)), fun h x enrolled hx on quiet => ?_, fun _ running some => ?_,
        fun _ running some free => ?_⟩, line' l⟩
      · exact loses.bears x (away h) (trailer p ▸ enrolled) (run ▸ hx) on (table _ ▸ quiet)
      · exact loses.stands (phase.trans running) (trailer p ▸ some)
      · exact loses.detail (phase.trans running) (trailer p ▸ some) (trailer p ▸ free)
    · rename_i still
      have still : ¬ s.LosesAt l e := fun h => still h.2
      exact ⟨⟨fun l' _ => line l', by rw [counts]; exact self, others, fun q => congrArg _ (trailer q), fun h => absurd h still,
        fun h => absurd h still, fun h => absurd h still⟩, line l⟩

theorem misses_missResult {s : State} {l : Line} {p : Post} {e : PostEntry} (he : s.entry p = some e) :
    Misses l p e s (s.missResult l p) ∧
    (s.missResult l p).line l = if e.state = .live then (s.line l).miss else s.line l := by
  obtain ⟨misses, line⟩ := misses_missPost (l := l) he
  unfold State.missResult
  rw [he]
  dsimp only [Option.map_some]
  generalize s.missPost l p = v at *
  by_cases live : e.state = .live
  · have wasLive : decide (some e.state = some PostState.live) = true := by rw [live]; rfl
    rw [wasLive, if_pos live, if_pos rfl, line]
    have record (q : Post) : ((v.changeLine l (s.line l).miss).trailer q).offRun = (v.trailer q).offRun :=
      (ChangeKit.offRun q).changeLine v l _
    refine ⟨⟨fun l' h => (line_changeLine_other v h _).trans (misses.other l' h),
      (entry_changeLine v l _ p).trans misses.entry, fun q h => (entry_changeLine v l _ q).trans (misses.others q h),
      fun q => ?_, fun h x enrolled hx on quiet => ?_, fun h running some => ?_, fun h running some free => ?_⟩,
      line_changeLine_self v l _⟩
    · exact (TrailerRecord.field_of_offRun (record q) TrailerRecord.state fun _ => rfl).trans (misses.state q)
    · exact (ChangeKit.bears (c := .post) nofun p).changeLine v l _ (misses.bears h x enrolled hx on quiet)
    · exact (TrailerRecord.field_of_offRun (record p) (fun t => t.stands .linkLost) fun _ => rfl).trans
        (misses.stands h running some)
    · exact (TrailerRecord.field_of_offRun (record p) (fun t => t.detailOf .linkLost) fun _ => rfl).trans
        (misses.detail h running some free)
  · have away : decide (some e.state = some PostState.live) = false := decide_eq_false fun h => live (Option.some.inj h)
    rw [away, if_neg live, if_neg nofun]
    exact ⟨misses, line⟩

theorem miss_misses (c : LineController) : c.miss.misses = min 255 (c.misses + 1) := by
  unfold LineController.miss
  dsimp only
  split
  · split <;> rfl
  · rfl

theorem miss_round {c : LineController} {r : Round} (h : c.round = some r) :
    c.miss.round = some { r with spoiled := r.spoiled || decide (2 ≤ c.misses) } := by
  unfold LineController.miss
  dsimp only
  split
  · rename_i third
    have spoils : 2 ≤ c.misses := by omega
    rw [decide_eq_true spoils, Bool.or_true, h]
    split <;> rfl
  · rename_i fewer
    have keeps : ¬ 2 ≤ c.misses := by omega
    rw [decide_eq_false keeps, Bool.or_false]
    exact h

theorem miss_state_of_up {c : LineController} (up : c.state = .up) (third : 2 ≤ c.misses) :
    c.miss.state = .disturbed ∧ c.miss.silentRounds = 0 := by
  have third : 3 ≤ min 255 (c.misses + 1) := by omega
  unfold LineController.miss
  dsimp only
  rw [if_pos third, up]
  exact ⟨rfl, rfl⟩

/-- A round as a MISS leaves it (R13). -/
def Round.missed (r : Round) (e : PostEntry) (c : LineController) : Round :=
  { r with spoiled := r.spoiled || decide (e.state = .live ∧ 2 ≤ c.misses) }

theorem round_missResult {s : State} {l : Line} {r : Round} {e : PostEntry} (round : (s.line l).round = some r)
    (he : s.entry r.exchange.post = some e) :
    ((s.missResult l r.exchange.post).line l).round = some (r.missed e (s.line l)) := by
  rw [(misses_missResult (l := l) he).2]
  unfold Round.missed
  split
  · rename_i live
    rw [miss_round round]
    simp only [live, true_and]
  · rename_i away
    rw [round, decide_eq_false fun h => away h.1, Bool.or_false]

/-! ## The statement on failed exchanges -/

theorem exchangeTimesOut_eq {s : State} {l : Line} {r : Round} (round : (s.line l).round = some r) :
    s.exchangeTimesOut l = s.exchangeFailed l r := by
  unfold State.exchangeTimesOut
  rw [round]

theorem frameEnds_of_garbled {s : State} {l : Line} {r : Round} (round : (s.line l).round = some r) {bytes : List Byte}
    (garbled : goodStatus (postAddress r.exchange.post) bytes = none) : s.frameEnds l bytes = s.exchangeFailed l r := by
  unfold State.frameEnds
  rw [round]
  dsimp only
  rw [garbled]

/-- The three events that end an exchange with no GOOD status do the same (R6). -/
theorem execs_exchangeFailed {s : State} {l : Line} {r : Round} (round : (s.line l).round = some r) :
    exec (.responseWindowExpiry l) s = .next (s.exchangeFailed l r).pumpTx ∧
    exec (.postFrameGapTimeout l) s = .next (s.exchangeFailed l r).pumpTx ∧
    ∀ bytes, goodStatus (postAddress r.exchange.post) bytes = none →
      exec (.status l bytes) s = .next (s.exchangeFailed l r).pumpTx :=
  ⟨exec_of_effect (i := .responseWindowExpiry l) (exchangeTimesOut_eq round),
    exec_of_effect (i := .postFrameGapTimeout l) (exchangeTimesOut_eq round),
    fun bytes garbled => exec_of_effect (i := .status l bytes) (frameEnds_of_garbled round garbled)⟩

theorem countsMisses_iff (st : LineState) : st.countsMisses = true ↔ st = .up ∨ st = .recovering := by
  cases st <;> decide

theorem miss_of_away {e : PostEntry} (h : e.state ≠ .live ∨ e.missed + 1 < 3) :
    e.miss = { e with missed := min 255 (e.missed + 1) } := by
  unfold PostEntry.miss
  dsimp only
  exact if_neg fun x => h.elim (fun no => no x.1) fun few => by omega

theorem miss_of_third {e : PostEntry} (live : e.state = .live) (third : 3 ≤ e.missed + 1) :
    e.miss = { e with state := .lost, missed := min 255 (e.missed + 1), pluggedNoUnit := false } := by
  unfold PostEntry.miss
  dsimp only
  exact if_pos ⟨live, by omega⟩

/-- Settles O35: a first failure polls once more; a retry's failure is a MISS, after which the round goes on. -/
theorem failedExchangesAreRetriedThenMissed : Obligations.FailedExchangesAreRetriedThenMissed := by
  refine ⟨fun l s r round first => ?_, fun l s r e round retry he => ?_⟩
  · obtain ⟨window, gap, status⟩ := execs_exchangeFailed round
    refine ⟨_, window, gap, status, ?_⟩
    have again : s.exchangeFailed l r = s.beginExchange l r.exchange.post true r := by
      unfold State.exchangeFailed
      rw [first, if_neg nofun]
    have polls := polls_beginExchange s l r.exchange.post true r
    rw [← again] at polls
    exact ⟨polls.line, polls.other, polls.outputs, polls.changes⟩
  · obtain ⟨window, gap, status⟩ := execs_exchangeFailed round
    refine ⟨_, window, gap, status, ?_⟩
    have world : WorldSame s (s.exchangeFailed l r) := (LineKit.host.exchangeFailed s l r).world
    have result : s.exchangeFailed l r = (s.missResult l r.exchange.post).nextAddress l := by
      unfold State.exchangeFailed
      rw [retry, if_pos rfl]
    obtain ⟨misses, line⟩ := misses_missResult (l := l) he
    have after := round_missResult round he
    have goes := goesOn_nextAddress after
    have polls (q : Post) (rest : List Post) (more : r.remaining = q :: rest) := pollsNext_nextAddress after (q := q) (rest := rest) more
    rw [result] at world ⊢
    generalize s.missResult l r.exchange.post = v at *
    generalize v.nextAddress l = u at *
    have entry := (goes.entry r.exchange.post).trans misses.entry
    refine ⟨fun counts few => ?_, fun counts live third => ?_, fun up recovering => ?_, ?_, fun q h => (goes.entry q).trans (misses.others q h),
      polls, world⟩
    · rw [entry, if_pos ((countsMisses_iff _).mpr counts), miss_of_away few]
    · have counts := (countsMisses_iff _).mpr counts
      have lost := miss_of_third live third
      have loses : s.LosesAt l e := ⟨counts, live, by rw [lost]⟩
      refine ⟨by rw [entry, if_pos counts, lost], fun x enrolled hx on quiet => ?_, fun running some away => ?_⟩
      · have bears := goes.bears .post _ nofun (by rw [misses.state, enrolled]; nofun) (misses.bears loses x enrolled hx on quiet)
        obtain ⟨x', hx', k, hk, is⟩ := bears.run
        exact ⟨x', k, hx', hk, is⟩
      · have same := goes.offRun r.exchange.post (away.imp_left fun h => by rw [misses.state]; exact h)
        refine ⟨?_, fun free => ?_⟩
        · exact (TrailerRecord.field_of_offRun same (fun t => t.stands .linkLost) fun _ => rfl).trans (misses.stands loses running some)
        · exact (TrailerRecord.field_of_offRun same (fun t => t.detailOf .linkLost) fun _ => rfl).trans
            (misses.detail loses running some free)
    · rw [entry, if_neg fun h => ((countsMisses_iff _).mp h).elim up recovering]
    · rw [goes.misses, line]
      split
      · exact miss_misses _
      · rfl

/-! ## The third miss in a row (R14, R19) -/

theorem changeLine_of_same {s : State} {l : Line} {c : LineController} (h : (s.line l).state = c.state) :
    s.changeLine l c = s.putLine l c := by
  unfold State.changeLine
  dsimp only
  rw [if_neg fun x => x.2 (h ▸ x.1), if_neg fun x => x.1 (h ▸ x.2)]

theorem changeLine_of_leaves {s : State} {l : Line} {c : LineController} (up : (s.line l).state = .up) (away : c.state ≠ .up) :
    s.changeLine l c = (s.putLine l c).lineLeavesUp l := by
  unfold State.changeLine
  dsimp only
  exact if_pos ⟨up, away⟩

theorem changeLine_of_enters {s : State} {l : Line} {c : LineController} (away : (s.line l).state ≠ .up) (up : c.state = .up) :
    s.changeLine l c = (s.putLine l c).lineEntersUp l := by
  unfold State.changeLine
  dsimp only
  rw [if_neg fun x => away x.1, if_pos ⟨away, up⟩]

theorem advanceUp_state (c : LineController) : c.advanceUp.state = c.state := by rw [advanceUp_changes]

/-- A DISTURBED line with no silent round before stays so at the end of a round that was spoiled (R13, R15). -/
theorem ended_state_of_spoiled {c : LineController} {r : Round} (disturbed : c.state = .disturbed) (silent : c.silentRounds = 0)
    (spoiled : r.spoiled = true) : (c.ended r).state = .disturbed := by
  unfold LineController.ended
  rw [advanceUp_state]
  unfold LineController.judged
  dsimp only
  rw [disturbed]
  dsimp only
  unfold LineController.endDisturbed Round.clean
  dsimp only
  have few : ¬ 3 ≤ (if r.hadGood then 0 else min 3 (0 + 1)) := by split <;> omega
  rw [spoiled, silent, Bool.not_true, Bool.and_false, if_neg nofun, if_neg few]

theorem trailer_depart_self (s : State) (p : Post) : (s.depart p).trailer p = .vacant := by
  unfold State.depart
  exact State.trailer_putTrailer_self _ p _

theorem run_depart_self (s : State) (p : Post) : (s.depart p).run p = none := by
  unfold State.run
  rw [trailer_depart_self]
  rfl

/-- What the restored records of a line, as they depart, leave of a post of their own line or of another. -/
theorem discardRestored_keeps {q : Post} (kit : SideKit q) {P : State → Prop} (side : ∀ s t, kit.rel t s → P s → P t)
    (departs : ∀ s, P s → P (s.depart q)) (s : State) (l : Line) (h : P s) : P (s.discardRestored l) := by
  unfold State.discardRestored
  refine forEach_keeps P (f := fun s' p => if (s'.trailer p).state = .restored then s'.depart p else s') (fun s p h => ?_)
    (postsOn l) s h
  split
  · by_cases here : p = q
    · exact here ▸ departs s h
    · exact side s _ (kit.depart s here) h
  · exact h

theorem State.Barred.of_framed {s t : State} {q : Post} (h : s.Barred q) (frame : ∀ f : Framed, f.rel t s) : t.Barred q := by
  unfold State.Barred
  rw [line_of_framed frame, entry_of_framed frame]
  exact h

/-- Going on from a DISTURBED line whose round is spoiled leaves no run of its posts heating. -/
theorem halted_nextAddress {s : State} {l : Line} {r : Round} (round : (s.line l).round = some r)
    (disturbed : (s.line l).state = .disturbed) (silent : (s.line l).silentRounds = 0) (spoiled : r.spoiled = true) :
    ((s.nextAddress l).line l).state = .disturbed ∧
    ∀ q, postLine q = l → s.Halted q → (s.nextAddress l).Halted q := by
  cases more : r.remaining with
  | cons q rest =>
    rw [nextAddress_of_more round more]
    have polls := polls_beginExchange s l q false { r with remaining := rest }
    generalize s.beginExchange l q false { r with remaining := rest } = u at *
    refine ⟨by rw [polls.line]; exact disturbed, fun q' _ halted => halted.of_run ?_⟩
    rw [polls.changes]
    rfl
  | nil =>
    rw [nextAddress_of_last round more]
    have ends := ended_state_of_spoiled disturbed silent spoiled
    refine ⟨by rw [line_endRound_self]; exact ends, fun q here halted => ?_⟩
    have judged : (s.roundJudged l r).Halted q := by
      unfold State.roundJudged
      rw [changeLine_of_same (disturbed.trans ends.symm), State.putLine_changes]
      exact halted
    refine endRound_of (P := fun u => u.Halted q) s l r judged ?_
    have line : ((s.roundJudged l r).line l).state = .disturbed := by
      unfold State.roundJudged
      rw [line_changeLine_self]
      exact ends
    exact (discardRestored_keeps (SideKit.barred q) (P := fun u => u.Barred q ∧ u.Halted q)
      (fun s t kept h => ⟨(kept h.1).barred h.1, h.2.of_run (run_of_trailer (kept h.1).trailer)⟩)
      (fun s h => ⟨h.1.of_framed fun f => f.depart s q, fun x hx => by rw [run_depart_self] at hx; cases hx⟩) _ l
      ⟨.inl (by rw [here, line]; nofun), judged⟩).2

/-- Settles O36: LINE joins every run of the line, and no grant follows while it is DISTURBED. -/
theorem thirdMissStopsTheLine : Obligations.ThirdMissStopsTheLine := by
  intro l s r e round retry he live up third
  refine ⟨_, (execs_exchangeFailed round).1, ?_⟩
  have result : s.exchangeFailed l r = (s.missResult l r.exchange.post).nextAddress l := by
    unfold State.exchangeFailed
    rw [retry, if_pos rfl]
  have line := (misses_missResult (l := l) he).2
  rw [if_pos live] at line
  have after := round_missResult round he
  obtain ⟨disturbed, silent⟩ := miss_state_of_up up third
  have halted (q : Post) (here : postLine q = l) : (s.missResult l r.exchange.post).Halted q := by
    unfold State.missResult
    rw [he]
    dsimp only [Option.map_some]
    have same := (misses_missPost (l := l) he).2
    generalize s.missPost l r.exchange.post = v at *
    rw [decide_eq_true (congrArg some live), if_pos rfl, same,
      changeLine_of_leaves (by rw [same]; exact up) (by rw [disturbed]; nofun)]
    exact halted_lineLeavesUp _ here
  rw [result]
  generalize s.missResult l r.exchange.post = v at *
  obtain ⟨state, keeps⟩ := halted_nextAddress after (by rw [line]; exact disturbed) (by rw [line]; exact silent) (by
    unfold Round.missed
    rw [decide_eq_true ⟨live, third⟩, Bool.or_true])
  exact ⟨state, fun q x here hx => keeps q here (halted q here) x hx⟩

end Sys2Proof.Machine


/-! # GOOD exchanges: the line, and the end of its round (R3, R12 to R18) -/

namespace Sys2Proof.Machine

/-! ## The causes that a status can hand to Hold-Up Control (R29) -/

/-- Only TABLE-FAULT joins the causes handed to Hold-Up Control, as a kit. -/
def TableKit.causes : TableKit where
  rel t s := ∀ c ∈ t.heldCauses, c ∈ s.heldCauses ∨ c = .tableFault
  refl _ _ := .inl
  after x y c hc := (x c hc).elim (y c) .inr
  put _ _ _ _ _ := .inl
  output _ _ _ _ := .inl
  inForce _ _ _ _ := .inl
  item s p b c hc := .inl (by rw [State.item_changes] at hc; exact hc)
  push _ _ _ _ _ _ := .inl
  queue _ _ _ _ := .inl
  load _ _ _ _ := .inl
  directory _ _ _ := .inl
  rebuilds _ _ _ h := h

def LineKit.causes : LineKit :=
  TableKit.causes.lines (fun s l c x hx => .inl (by rw [State.putLine_changes] at hx; exact hx)) fun _ _ _ _ => .inl

/-- What a TABLE-FAULT taken leaves: the restart's own fields, the stations flushed and the rounds ended. -/
structure TakesFault (v w : State) : Prop where
  changes : w = { v with
    restartRecord := w.restartRecord, phase := w.phase, rebuilds := w.rebuilds, heldCauses := w.heldCauses
    lineA := w.lineA, lineB := w.lineB, stations := w.stations, notices := w.notices, noticesLost := w.noticesLost, tx := w.tx }
  tx : TxGoesOn v w
  line : ∀ l, w.line l = { v.line l with round := (w.line l).round }
  round : ∀ l, (w.line l).round = (v.line l).round ∨ (w.line l).round = none

theorem TakesFault.of_same {v w : State} (h : w = { v with
    restartRecord := w.restartRecord, rebuilds := w.rebuilds, heldCauses := w.heldCauses }) : TakesFault v w := by
  refine ⟨?_, .inl ?_, fun l => ?_, fun l => .inl ?_⟩
  · rw [h]
  · rw [h]
  · rw [h]
    cases l <;> rfl
  · rw [h]
    cases l <;> rfl

theorem TakesFault.trans {v w x : State} (a : TakesFault v w) (b : TakesFault w x) : TakesFault v x := by
  refine ⟨?_, a.tx.trans b.tx, fun l => ?_, fun l => ?_⟩
  · rw [b.changes, a.changes]
  · rw [b.line, a.line]
  · exact (b.round l).elim (fun same => (a.round l).imp (fun e => same.trans e) fun e => same.trans e) .inr

theorem takesFault_beginRestart (v : State) : TakesFault v (v.beginRestart .tableFault) := by
  have stopped : TakesFault v (v.flushedFor .tableFault) := by
    have changes := flushedFor_changes v .tableFault
    have tx : TxGoesOn v (v.flushedFor .tableFault) :=
      (OutsideSame.of_framed fun f => f.flushAll v.stations.length (v.stoppedFor .tableFault)).tx
    generalize v.flushedFor .tableFault = w at *
    refine ⟨?_, tx, fun l => ?_, fun l => .inr ?_⟩
    · rw [changes]
      rfl
    · rw [changes]
      cases l <;> rfl
    · rw [changes]
      cases l <;> rfl
  rw [beginRestart_of_other v (r := .tableFault) nofun]
  split
  · have begun := beginFlush_changes (v.flushedFor .tableFault)
    generalize (v.flushedFor .tableFault).beginFlush = x at *
    refine stopped.trans ⟨?_, .inl ?_, fun l => ?_, fun l => .inl ?_⟩
    · rw [begun]
    · rw [begun]
    · rw [begun]
      cases l <;> rfl
    · rw [begun]
      cases l <;> rfl
  · exact stopped

theorem takesFault_takeCause (v : State) : TakesFault v (v.takeCause .tableFault) := by
  unfold State.takeCause
  split
  · exact takesFault_beginRestart v
  iterate 3
    unfold State.pendingCause
    rw [if_neg fun h => absurd h.1 nofun]
    exact .of_same rfl
  · exact .of_same rfl
  · exact .of_same rfl

theorem takesFault_settleCauses {v : State} (h : ∀ c ∈ v.heldCauses, c = .tableFault) : TakesFault v v.settleCauses := by
  have only : ∀ c ∈ orderedCauses v.heldCauses, c = .tableFault := fun c hc => by
    unfold orderedCauses at hc
    obtain ⟨_, -, hc⟩ := List.mem_flatMap.mp hc
    exact h c (List.mem_filter.mp hc).1
  have folds : ∀ (cs : List Reason) (w : State), (∀ c ∈ cs, c = .tableFault) → TakesFault w (cs.foldl State.takeCause w) := by
    intro cs
    induction cs with
    | nil => exact fun w _ => .of_same rfl
    | cons c cs ih =>
      intro w hc
      have first : TakesFault w (w.takeCause c) := hc c List.mem_cons_self ▸ takesFault_takeCause w
      exact first.trans (ih (w.takeCause c) fun x hx => hc x (List.mem_cons_of_mem _ hx))
  exact TakesFault.trans (w := { v with heldCauses := [] }) (.of_same rfl) (folds _ _ only)

/-! ## Records that verify (R27) -/

/-- Where every record verifies, every record still verifies and no rebuild is recorded. -/
structure StaysVerified (s t : State) : Prop where
  verifies : ∀ q, (t.trailer q).verifies = true
  rebuilds : t.rebuilds = s.rebuilds
  causes : t.heldCauses = s.heldCauses

def State.AllVerify (s : State) : Prop := ∀ q, (s.trailer q).verifies = true

def PutKit.verified : PutKit where
  rel t s := s.AllVerify → StaysVerified s t
  refl _ h := ⟨h, rfl, rfl⟩
  after x y h := ⟨(x (y h).verifies).verifies, (x (y h).verifies).rebuilds.trans (y h).rebuilds,
    (x (y h).verifies).causes.trans (y h).causes⟩
  put s p r _ h := ⟨fun q => by
    by_cases here : q = p
    · rw [here, State.trailer_putTrailer_self]
      rfl
    · rw [State.trailer_putTrailer_other _ _ _ _ here]
      exact h q, rfl, rfl⟩
  output _ _ _ h := ⟨h, rfl, rfl⟩
  inForce _ _ _ h := ⟨h, rfl, rfl⟩
  item s p b h := by rw [State.item_changes]; exact ⟨h, rfl, rfl⟩
  push _ _ _ _ _ h := ⟨h, rfl, rfl⟩
  queue _ _ _ h := ⟨h, rfl, rfl⟩
  load _ _ _ h := ⟨h, rfl, rfl⟩
  directory _ _ h := ⟨h, rfl, rfl⟩

theorem StaysVerified.of {s t : State} (r : PutKit.verified.rel t s) (h : s.AllVerify) : StaysVerified s t := r h

theorem StaysVerified.trans {s t u : State} (x : StaysVerified s t) (y : StaysVerified t u) : StaysVerified s u :=
  ⟨y.verifies, y.rebuilds.trans x.rebuilds, y.causes.trans x.causes⟩

theorem StaysVerified.then {s t u : State} (x : StaysVerified s t) (r : PutKit.verified.rel u t) : StaysVerified s u :=
  x.trans (r x.verifies)

theorem move_of_verified {a : Arrival} {o : Post} (h : (a.s.trailer o).verifies = true) (p : Post) (rep : StatusReport) :
    a.move o p rep = { a with s := a.s.carry o p rep, ended := a.ended || (a.s.run o).isSome } := by
  unfold Arrival.move
  exact if_pos h

theorem verified_arrive {a : Arrival} (h : a.s.AllVerify) (fresh : a.rebuilt = none) (p : Post) (rep : StatusReport) :
    StaysVerified a.s (a.arrive p rep).s ∧ (a.arrive p rep).rebuilt = none := by
  unfold Arrival.arrive
  split
  · split
    · rw [move_of_verified (h _)]
      dsimp only
      exact ⟨.of (PutKit.verified.carry a.s _ p rep) h, fresh⟩
    · unfold Arrival.on
      dsimp only
      exact ⟨.of (PutKit.verified.hold a.s _ p rep) h, fresh⟩
  · rw [fresh]
    unfold Arrival.on
    dsimp only
    exact ⟨.of (PutKit.verified.arriveUnknown a.s p rep) h, fresh⟩

theorem rebuilt_same {a : Arrival} {p : Post} {rep : StatusReport} (unheld : (a.s.trailer p).state ≠ .held) :
    (a.same p rep).rebuilt = a.rebuilt := by
  unfold Arrival.same
  split
  iterate 3 rfl
  · exact absurd ‹_› unheld
  · rfl

theorem verified_retryHeld {a : Arrival} (h : a.s.AllVerify) (fresh : a.rebuilt = none) (p : Post) (rep : StatusReport) :
    StaysVerified a.s (a.retryHeld p rep).s ∧ (a.retryHeld p rep).rebuilt = none := by
  unfold Arrival.retryHeld
  split
  · unfold Arrival.on
    dsimp only
    refine ⟨?_, fresh⟩
    exact StaysVerified.of ((PutKit.verified.tryMatch _ p _).trans ((PutKit.verified.dirInsert _ _ _).trans
      ((PutKit.verified.putFresh _ p _ _ _).trans ((PutKit.verified.kit.emptySets _ trivial).trans
        ((PutKit.verified.kit.clearFinding _ trivial _ _).trans (PutKit.verified.item _ p _)))))) h
  · split
    · have cleared : StaysVerified a.s (a.s.clearFinding p .duplicateUnit false) :=
        .of (PutKit.verified.kit.clearFinding a.s (p := p) trivial .duplicateUnit false) h
      rw [move_of_verified (a := a.on fun s => s.clearFinding p .duplicateUnit false) (cleared.verifies _)]
      unfold Arrival.on
      dsimp only
      exact ⟨cleared.then (PutKit.verified.carry _ _ p rep), fresh⟩
    · exact ⟨⟨h, rfl, rfl⟩, fresh⟩

theorem verified_same {a : Arrival} (h : a.s.AllVerify) (fresh : a.rebuilt = none) (p : Post) (rep : StatusReport) :
    StaysVerified a.s (a.same p rep).s ∧ (a.same p rep).rebuilt = none := by
  by_cases held : (a.s.trailer p).state = .held
  · unfold Arrival.same
    rw [held]
    exact verified_retryHeld h fresh p rep
  · exact ⟨.of (PutKit.verified.sameUnheld a p rep held) h, (rebuilt_same held).trans fresh⟩

theorem verified_lifecycle {a : Arrival} (h : a.s.AllVerify) (fresh : a.rebuilt = none) (p : Post) (rep : StatusReport) :
    StaysVerified a.s (a.lifecycle p rep).s ∧ (a.lifecycle p rep).rebuilt = none := by
  have still : StaysVerified a.s a.s := ⟨h, rfl, rfl⟩
  unfold Arrival.lifecycle
  dsimp only
  rw [fresh]
  split
  · split
    · unfold Arrival.on
      dsimp only
      exact ⟨.of (PutKit.verified.depart a.s p) h, fresh⟩
    · exact ⟨still, fresh⟩
  · split
    · unfold Arrival.on
      dsimp only
      exact ⟨.of (PutKit.verified.countAbsent a.s p) h, fresh⟩
    · exact ⟨still, fresh⟩
  · split
    · exact verified_arrive h fresh p rep
    · split
      · exact verified_same h fresh p rep
      · have departed : StaysVerified a.s (a.s.depart p) := .of (PutKit.verified.depart a.s p) h
        obtain ⟨arrived, rebuilt⟩ := verified_arrive
          (a := { s := a.s.depart p, before := TrailerRecord.vacant.atArrival, rebuilt := none, ended := a.ended })
          departed.verifies rfl p rep
        exact ⟨departed.trans arrived, rebuilt⟩

/-- Where every record verifies, a status at the table hands no cause to Hold-Up Control. -/
theorem verified_statusAtTable {s : State} (h : s.AllVerify) (p : Post) (rep : StatusReport) (b : Bool) :
    StaysVerified s (s.statusAtTable p rep b) := by
  have verified : s.verifyAt p = { s := s, before := (s.trailer p).atArrival, rebuilt := none, ended := false } := by
    unfold State.verifyAt
    dsimp only
    rw [if_pos (h p)]
  obtain ⟨stepped, fresh⟩ := verified_lifecycle (a := s.verifyAt p) (by rw [verified]; exact h) (by rw [verified]) p rep
  rw [verified] at stepped
  have stamped : StaysVerified s (s.stamped p rep).s := by
    unfold State.stamped Arrival.on
    dsimp only
    rw [verified] at fresh ⊢
    exact stepped.then (PutKit.verified.stampStatus _ p)
  have rebuilt : (s.stamped p rep).rebuilt = none := by
    unfold State.stamped Arrival.on
    dsimp only
    exact fresh
  have handled : StaysVerified s ((s.stamped p rep).handled p rep b) := by
    unfold Arrival.handled
    split
    · rename_i enrolled
      exact stamped.then (PutKit.verified.kit.evaluate trivial _ rep b enrolled.1)
    · exact stamped
  rw [State.statusAtTable_eq, rebuilt]
  exact handled

/-! ## The result of a GOOD exchange (R9, R12) -/

theorem good_state (c : LineController) : c.good.state = if c.state = .down then .recovering else c.state := by
  unfold LineController.good
  dsimp only
  split <;> rfl

theorem good_changes (c : LineController) : c.good = { c with
    misses := 0, round := c.round.map fun r => { r with hadGood := true }, state := c.good.state
    goodRounds := c.good.goodRounds, silentRounds := c.good.silentRounds } := by
  unfold LineController.good
  dsimp only
  split <;> rfl

/-- The post's own part of a GOOD result, before the line changes (R9). -/
def State.heardAt (s : State) (p : Post) : State :=
  let heard := s.putEntry p ((s.entry p).map fun e => e.good s.now)
  (if decide ((s.entry p).map (·.state) = some .lost) then heard.causeLeaves p .post else heard).clearLinkLost p 1

theorem heardAt_frame (s : State) (p : Post) (f : Framed) :
    f.rel (s.heardAt p) (s.putEntry p ((s.entry p).map fun e => e.good s.now)) := by
  unfold State.heardAt
  dsimp only
  split
  · exact (f.clearLinkLost _ p 1).trans (f.causeLeaves _ p .post)
  · exact f.clearLinkLost _ p 1

theorem hearPost_eq (s : State) (l : Line) (p : Post) : s.hearPost l p = (s.heardAt p).putLine l (s.line l).good := by
  have line : (s.heardAt p).line l = s.line l :=
    (line_of_framed (heardAt_frame s p) l).trans (by cases l <;> rfl)
  have unread (t : State) (h : t.line l = s.line l) : t.changeLine l (t.line l).good = t.putLine l (s.line l).good := by
    rw [h]
    unfold State.changeLine
    dsimp only
    rw [h, good_state]
    split_ifs <;> simp_all
  exact unread (s.heardAt p) line

/-- What a GOOD result leaves of the lines, the entries, the phase and the causes. -/
structure HeardGood (l : Line) (x : Exchange) (rep : StatusReport) (s v : State) : Prop where
  line : v.line l = (s.line l).good
  other : ∀ l', l' ≠ l → v.line l' = s.line l'
  others : ∀ q, q ≠ x.post → v.entry q = s.entry q
  causes : s.heldCauses = [] → ∀ c ∈ v.heldCauses, c = .tableFault
  verified : s.AllVerify → StaysVerified s v
  world : WorldSame s v

theorem OutsideSame.lineOf {s t : State} (h : OutsideSame s t) (l : Line) : t.line l = s.line l := by
  cases l
  · exact h.lineA
  · exact h.lineB

theorem OutsideSame.entryOf {s t : State} (h : OutsideSame s t) (p : Post) : t.entry p = s.entry p :=
  congrArg (fun v : Vector (Option PostEntry) 240 => v.get p) h.posts

/-- The state as the status has been handled at the table, with the post and the line as the GOOD result set them. -/
def State.atTable (s : State) (l : Line) (x : Exchange) (rep : StatusReport) : State :=
  (s.hearPost l x.post).statusAtTable x.post rep (s.trailer x.post).atArrival.runHeating

theorem goodResult_eq (s : State) (l : Line) (x : Exchange) (rep : StatusReport) : s.goodResult l x rep =
    ((s.atTable l x rep).settlePlugged x.post rep).outputAtGood x.post x.levels rep.actual := rfl

theorem atTable_outside (s : State) (l : Line) (x : Exchange) (rep : StatusReport) :
    OutsideSame (s.hearPost l x.post) (s.atTable l x rep) :=
  .of_framed fun f => f.statusAtTable _ _ _ _

theorem entry_settlePlugged_other (s : State) {p q : Post} (h : q ≠ p) (rep : StatusReport) :
    (s.settlePlugged p rep).entry q = s.entry q := by
  unfold State.settlePlugged
  split
  · rfl
  · exact State.entry_putEntry_other _ _ _ _ h

theorem line_settlePlugged (s : State) (p : Post) (rep : StatusReport) (l : Line) : (s.settlePlugged p rep).line l = s.line l := by
  unfold State.settlePlugged
  split
  · rfl
  · cases l <;> rfl

theorem heldCauses_settlePlugged (s : State) (p : Post) (rep : StatusReport) :
    (s.settlePlugged p rep).heldCauses = s.heldCauses ∧ (s.settlePlugged p rep).records = s.records ∧
    (s.settlePlugged p rep).rebuilds = s.rebuilds := by
  unfold State.settlePlugged
  split <;> exact ⟨rfl, rfl, rfl⟩

theorem heardGood_goodResult (s : State) (l : Line) (x : Exchange) (rep : StatusReport) :
    HeardGood l x rep s (s.goodResult l x rep) := by
  have heard := hearPost_eq s l x.post
  have heardFrame := heardAt_frame s x.post
  have table := atTable_outside s l x rep
  have output (u : State) : OutsideSame u (u.outputAtGood x.post x.levels rep.actual) := .of_framed fun f => f.outputAtGood u _ _ _
  have line (l' : Line) : (s.goodResult l x rep).line l' = (s.hearPost l x.post).line l' := by
    rw [goodResult_eq, (output _).lineOf, line_settlePlugged, table.lineOf]
  refine ⟨?_, fun l' h => ?_, fun q h => ?_, fun none c hc => ?_, fun all => ?_, (LineKit.host.goodResult s l x rep).world⟩
  · rw [line, heard]
    exact State.line_putLine_self _ _ _
  · rw [line, heard, State.line_putLine_other _ h, line_of_framed heardFrame]
    cases l' <;> rfl
  · rw [goodResult_eq, (output _).entryOf, entry_settlePlugged_other _ h, table.entryOf, heard]
    have put : ((s.heardAt x.post).putLine l (s.line l).good).entry q = (s.heardAt x.post).entry q := by cases l <;> rfl
    rw [put, entry_of_framed heardFrame, State.entry_putEntry_other _ _ _ _ h]
  · obtain h | h := LineKit.causes.goodResult s l x rep c hc
    · rw [none] at h
      cases h
    · exact h
  · have put : StaysVerified s (s.putEntry x.post ((s.entry x.post).map fun e => e.good s.now)) := ⟨all, rfl, rfl⟩
    have heardAt : StaysVerified s (s.heardAt x.post) := by
      unfold State.heardAt
      dsimp only
      split
      · exact put.then ((PutKit.verified.kit.clearLinkLost _ trivial 1).trans (PutKit.verified.kit.causeLeaves _ trivial .post))
      · exact put.then (PutKit.verified.kit.clearLinkLost _ trivial 1)
    have heardAll : StaysVerified s (s.hearPost l x.post) := by
      rw [heard, State.putLine_changes]
      exact ⟨heardAt.verifies, heardAt.rebuilds, heardAt.causes⟩
    have atTable := verified_statusAtTable heardAll.verifies x.post rep (s.trailer x.post).atArrival.runHeating
    obtain ⟨causes, records, rebuilds⟩ := heldCauses_settlePlugged (s.atTable l x rep) x.post rep
    have plugged : StaysVerified s ((s.atTable l x rep).settlePlugged x.post rep) :=
      ⟨fun q => (congrArg (fun v : Vector TrailerRecord 240 => (v.get q).verifies) records).trans (atTable.verifies q),
        rebuilds.trans (atTable.rebuilds.trans heardAll.rebuilds), causes.trans (atTable.causes.trans heardAll.causes)⟩
    rw [goodResult_eq]
    exact plugged.then (PutKit.verified.kit.outputAtGood _ trivial _ _)

/-! ## The round goes on (R3) -/

theorem exchangeGood_eq (s : State) (l : Line) (r : Round) (rep : StatusReport) :
    s.exchangeGood l r rep = (s.goodResult l r.exchange rep).settleCauses.nextAddress l := rfl

theorem State.Hears.exec {s : State} {l : Line} {bytes : List Byte} {r : Round} {rep : StatusReport} (h : s.Hears l bytes r rep) :
    exec (.status l bytes) s = .next (s.exchangeGood l r rep).pumpTx :=
  exec_of_effect (i := .status l bytes) (show s.frameEnds l bytes = _ by
    unfold State.frameEnds
    rw [h.round]
    dsimp only
    rw [h.good])

/-! ## The judgement of a round (R13 to R18) -/

theorem advanceUp_sinceUp (c : LineController) :
    (∀ n, c.sinceUp = some n → c.advanceUp.sinceUp = some (min 255 (n + 1))) ∧
    (c.sinceUp = none → c.advanceUp.sinceUp = if c.state = .up then some 0 else none) := by
  unfold LineController.advanceUp
  constructor
  · intro n h
    rw [h]
  · intro h
    rw [h]
    dsimp only
    split
    · rfl
    · exact h

/-- The line as a round end judges it, before its rounds since first UP advance. -/
def LineController.judgedAt (c : LineController) (r : Round) : LineController := { c with round := none }.judged r

theorem judgedAt_changes (c : LineController) (r : Round) : c.judgedAt r = { c with
    round := none, state := (c.judgedAt r).state, goodRounds := (c.judgedAt r).goodRounds
    silentRounds := (c.judgedAt r).silentRounds } := judged_changes { c with round := none } r

section
variable (c : LineController) (r : Round)

theorem ended_state : (c.ended r).state = (c.judgedAt r).state := advanceUp_state _

theorem ended_goodRounds : (c.ended r).goodRounds = (c.judgedAt r).goodRounds := by
  have advanced : c.ended r = (c.judgedAt r).advanceUp := rfl
  rw [advanced, advanceUp_changes]

theorem ended_silentRounds : (c.ended r).silentRounds = (c.judgedAt r).silentRounds := by
  have advanced : c.ended r = (c.judgedAt r).advanceUp := rfl
  rw [advanced, advanceUp_changes]

theorem ended_sinceUp : (∀ n, c.sinceUp = some n → (c.ended r).sinceUp = some (min 255 (n + 1))) ∧
    (c.sinceUp = none → (c.ended r).sinceUp = if (c.ended r).state = .up then some 0 else none) := by
  obtain ⟨counts, starts⟩ := advanceUp_sinceUp (c.judgedAt r)
  have same : (c.judgedAt r).sinceUp = c.sinceUp := by rw [judgedAt_changes]
  rw [same] at counts starts
  exact ⟨counts, fun none => (starts none).trans (by rw [ended_state])⟩

/-- The records still RESTORED depart as rounds since first UP reaches 5 (R41). -/
theorem discards_iff : (c.ended r).sinceUp = some 5 ∧ c.sinceUp ≠ some 5 ↔ c.sinceUp = some 4 := by
  obtain ⟨counts, starts⟩ := ended_sinceUp c r
  cases since : c.sinceUp with
  | none =>
    rw [starts since]
    split <;> simp
  | some n =>
    rw [counts n since, Option.some.injEq, Option.some.injEq, ne_eq, Option.some.injEq]
    omega

/-- A line that is neither DISTURBED nor RECOVERING is not judged (R14, R17). -/
theorem judgedAt_of_steady (h : c.state = .off ∨ c.state = .up ∨ c.state = .down) : c.judgedAt r = { c with round := none } := by
  unfold LineController.judgedAt LineController.judged
  dsimp only
  obtain h | h | h := h <;> rw [h]

theorem silent_of_judgedAt (h : c.state ≠ .disturbed) : (c.judgedAt r).silentRounds = c.silentRounds := by
  unfold LineController.judgedAt LineController.judged
  dsimp only
  split
  · exact absurd ‹_› h
  · unfold LineController.endRecovering
    dsimp only
    split_ifs <;> rfl
  all_goals rfl

end

theorem clean_iff (r : Round) : r.clean = true ↔ r.hadGood = true ∧ r.spoiled = false := by
  unfold Round.clean
  simp

/-- What the judgement makes of a DISTURBED line (R15). -/
structure DisturbedJudged (c : LineController) (r : Round) (c' : LineController) : Prop where
  silent : c'.silentRounds = if r.hadGood then 0 else min 3 (c.silentRounds + 1)
  up : r.clean = true → c.settings.recover ≤ 1 → c'.state = .up ∧ c'.goodRounds = 0
  recovering : r.clean = true → 1 < c.settings.recover → c'.state = .recovering ∧ c'.goodRounds = 1
  down : r.clean = false → 3 ≤ (if r.hadGood then 0 else min 3 (c.silentRounds + 1)) → c'.state = .down ∧ c'.goodRounds = 0
  stays : r.clean = false → (if r.hadGood then 0 else min 3 (c.silentRounds + 1)) < 3 →
    c'.state = .disturbed ∧ c'.goodRounds = c.goodRounds

theorem disturbedJudged (c : LineController) (r : Round) (h : c.state = .disturbed) : DisturbedJudged c r (c.judgedAt r) := by
  have eq : c.judgedAt r = { c with round := none }.endDisturbed r := by
    unfold LineController.judgedAt LineController.judged
    dsimp only
    rw [h]
  rw [eq]
  unfold LineController.endDisturbed
  dsimp only
  refine ⟨by split_ifs <;> rfl, fun clean few => ?_, fun clean more => ?_, fun spoiled third => ?_, fun spoiled fewer => ?_⟩
  · rw [if_pos clean, if_pos few]
    exact ⟨rfl, rfl⟩
  · rw [if_pos clean, if_neg (by omega)]
    exact ⟨rfl, rfl⟩
  · rw [if_neg (by rw [spoiled]; nofun), if_pos third]
    exact ⟨rfl, rfl⟩
  · rw [if_neg (by rw [spoiled]; nofun), if_neg (by omega)]
    exact ⟨h, rfl⟩

/-- What the judgement makes of a RECOVERING line (R16). -/
structure RecoveringJudged (c : LineController) (r : Round) (c' : LineController) : Prop where
  up : r.beganRecovering = true → r.clean = true → c.settings.recover ≤ min 15 (c.goodRounds + 1) →
    c'.state = .up ∧ c'.goodRounds = 0
  counts : r.beganRecovering = true → r.clean = true → min 15 (c.goodRounds + 1) < c.settings.recover →
    c'.state = .recovering ∧ c'.goodRounds = min 15 (c.goodRounds + 1)
  stays : r.beganRecovering = false ∨ r.clean = false → c'.state = .recovering ∧ c'.goodRounds = c.goodRounds

theorem recoveringJudged (c : LineController) (r : Round) (h : c.state = .recovering) : RecoveringJudged c r (c.judgedAt r) := by
  have eq : c.judgedAt r = { c with round := none }.endRecovering r := by
    unfold LineController.judgedAt LineController.judged
    dsimp only
    rw [h]
  rw [eq]
  unfold LineController.endRecovering
  dsimp only
  refine ⟨fun began clean reached => ?_, fun began clean short => ?_, fun spoiled => ?_⟩
  · rw [began, clean, Bool.and_self, if_pos rfl, if_pos reached]
    exact ⟨rfl, rfl⟩
  · rw [began, clean, Bool.and_self, if_pos rfl, if_neg (by omega)]
    exact ⟨h, rfl⟩
  · have no : (r.beganRecovering && r.clean) = false := by obtain e | e := spoiled <;> rw [e] <;> simp
    rw [no, if_neg nofun]
    exact ⟨h, rfl⟩

/-! ## The records and runs of a line at its round end (R19, R41) -/

theorem freeOf_endRound {s : State} {l : Line} {r : Round} (away : (s.line l).state ≠ .up)
    (up : ((s.line l).ended r).state = .up) {q : Post} (here : postLine q = l) : (s.endRound l r).FreeOf .line q := by
  have judged : (s.roundJudged l r).FreeOf .line q := by
    unfold State.roundJudged
    rw [changeLine_of_enters away up]
    exact freeOf_lineEntersUp _ here
  exact endRound_of (P := fun u => u.FreeOf .line q) s l r judged
    (discardRestored_keeps (SideKit.freeOf (c := .line) nofun nofun q) (P := fun u => u.FreeOf .line q) (fun _ _ kept => kept)
      (fun s _ x hx => by rw [run_depart_self] at hx; cases hx) _ l judged)

theorem gone_endRound {s : State} {l : Line} {r : Round} (fifth : (s.line l).sinceUp = some 4) (law : s.GrantLaw) {q : Post}
    (here : postLine q = l) (restored : (s.trailer q).state = .restored) : (s.endRound l r).Gone q := by
  rw [endRound_eq, if_pos ((discards_iff _ r).mpr fifth)]
  have same : ((s.roundJudged l r).trailer q).offRun = (s.trailer q).offRun := (ChangeKit.offRun q).changeLine s l _
  have state := TrailerRecord.field_of_offRun same TrailerRecord.state fun _ => rfl
  have lawful : (s.roundJudged l r).GrantLaw := StepKit.grants.lines.changeLine s l _ law
  refine (departAll_discardRestored (s.roundJudged l r) l).gone lawful q (mem_postsOn.mpr here) (decide_eq_true ?_)
  rw [state]
  exact restored

theorem identity_endRound (s : State) (l : Line) (r : Round) {q : Post}
    (stays : (s.line l).sinceUp ≠ some 4 ∨ postLine q ≠ l ∨ (s.trailer q).state ≠ .restored) :
    ((s.endRound l r).trailer q).state = (s.trailer q).state ∧ ((s.endRound l r).trailer q).serial = (s.trailer q).serial := by
  have same : ((s.roundJudged l r).trailer q).offRun = (s.trailer q).offRun := (ChangeKit.offRun q).changeLine s l _
  have state := TrailerRecord.field_of_offRun same TrailerRecord.state fun _ => rfl
  have serial := TrailerRecord.field_of_offRun same TrailerRecord.serial fun _ => rfl
  rw [endRound_eq]
  split
  · rename_i discards
    have fifth := (discards_iff _ r).mp discards
    obtain ⟨state', serial'⟩ := (departAll_discardRestored (s.roundJudged l r) l).keeps q fun h => by
      obtain no | no | no := stays
      · exact no fifth
      · exact no (mem_postsOn.mp h.1)
      · exact no (state.symm.trans (of_decide_eq_true h.2))
    exact ⟨state'.trans state, serial'.trans serial⟩
  · exact ⟨state, serial⟩

/-! ## The statement on the line state -/

theorem missResult_of_away {s : State} {p : Post} {e : PostEntry} (he : s.entry p = some e) (away : e.state ≠ .live) (l : Line) :
    s.missResult l p = { s with posts := (s.missResult l p).posts } := by
  have still : (s.missPost l p) = { s with posts := (s.missPost l p).posts } := by
    unfold State.missPost
    rw [he]
    dsimp only
    split
    · rw [if_neg fun h => away h.1]
      rfl
    · rfl
  unfold State.missResult
  rw [he]
  dsimp only [Option.map_some]
  rw [decide_eq_false fun h => away (Option.some.inj h), if_neg nofun]
  exact still

theorem missed_of_away {e : PostEntry} (away : e.state ≠ .live) (r : Round) (c : LineController) : r.missed e c = r := by
  unfold Round.missed
  rw [decide_eq_false fun h => away h.1, Bool.or_false]

/-- The MISS of an absent post at the last address ends the round, and changes that post's entry alone before. -/
theorem exchangeFailed_of_away_last {l : Line} {s : State} {r : Round} {e : PostEntry} (round : (s.line l).round = some r)
    (retry : r.exchange.retry = true) (last : r.remaining = []) (he : s.entry r.exchange.post = some e)
    (away : e.state ≠ .live) : ∃ v : State, s.exchangeFailed l r = v.endRound l r ∧ v = { s with posts := v.posts } ∧
      ∀ q, q ≠ r.exchange.post → v.entry q = s.entry q := by
  have result : s.exchangeFailed l r = (s.missResult l r.exchange.post).nextAddress l := by
    unfold State.exchangeFailed
    rw [retry, if_pos rfl]
  have after := round_missResult round he
  rw [missed_of_away away] at after
  exact ⟨_, result.trans (nextAddress_of_last after last), missResult_of_away he away l,
    (misses_missResult (l := l) he).1.others⟩

theorem good_of_undown {c : LineController} (h : c.state ≠ .down) : c.good = { c with
    misses := 0, round := c.round.map fun r => { r with hadGood := true } } := by
  unfold LineController.good
  exact if_neg h

theorem good_of_down {c : LineController} (h : c.state = .down) : c.good = { c with
    misses := 0, round := c.round.map fun r => { r with hadGood := true }, state := .recovering, goodRounds := 0
    silentRounds := 0 } := by
  unfold LineController.good
  exact if_pos h

/-- The result of a GOOD exchange once Hold-Up Control has taken what it handed on: its round goes on, or a restart has
ended it. -/
theorem settled_goodResult {s : State} {l : Line} {bytes : List Byte} {r : Round} {rep : StatusReport}
    (h : s.Hears l bytes r rep) :
    HeardGood l r.exchange rep s (s.goodResult l r.exchange rep) ∧
    TakesFault (s.goodResult l r.exchange rep) (s.goodResult l r.exchange rep).settleCauses ∧
    (((s.goodResult l r.exchange rep).settleCauses.line l).round = some { r with hadGood := true } ∨
      ((s.goodResult l r.exchange rep).settleCauses.line l).round = none) := by
  have heard := heardGood_goodResult s l r.exchange rep
  have takes := takesFault_settleCauses (heard.causes h.noCause)
  refine ⟨heard, takes, (takes.round l).imp (fun same => ?_) id⟩
  rw [same, heard.line, good_changes]
  dsimp only
  rw [h.round]
  rfl

theorem nextAddress_of_none {s : State} {l : Line} (h : (s.line l).round = none) : s.nextAddress l = s := by
  unfold State.nextAddress
  rw [h]

/-- A line that is RECOVERING in a round that did not begin so stays as it is, whichever way the round goes on (R16). -/
theorem recovering_nextAddress {w : State} {l : Line} {r : Round} (recovering : (w.line l).state = .recovering)
    (began : r.beganRecovering = false) (round : (w.line l).round = some r ∨ (w.line l).round = none) :
    ((w.nextAddress l).line l).state = .recovering ∧ ((w.nextAddress l).line l).goodRounds = (w.line l).goodRounds ∧
    ((w.nextAddress l).line l).silentRounds = (w.line l).silentRounds ∧
    ((w.nextAddress l).line l).misses = (w.line l).misses := by
  obtain round | none := round
  · cases more : r.remaining with
    | nil =>
      obtain ⟨state, good⟩ := (recoveringJudged (w.line l) r recovering).stays (.inl began)
      have silent := silent_of_judgedAt (w.line l) r (by rw [recovering]; nofun)
      rw [nextAddress_of_last round more, line_endRound_self, ended_state, ended_goodRounds, ended_silentRounds]
      exact ⟨state, good, silent, by rw [ended_changes]⟩
    | cons q rest =>
      rw [nextAddress_of_more round more, (polls_beginExchange w l q false { r with remaining := rest }).line]
      exact ⟨recovering, rfl, rfl, rfl⟩
  · rw [nextAddress_of_none none]
    exact ⟨recovering, rfl, rfl, rfl⟩

/-- Settles O43: the judgement of a round as an equation of the controller, and the changes of state beside it. -/
theorem lineStateAtARoundEnd : Obligations.LineStateAtARoundEnd := by
  refine ⟨fun l s r e round retry last he away => ?_, fun l bytes s r rep hears began down => ?_,
    fun l bytes s r rep hears last verify => ?_⟩
  · obtain ⟨window, gap, -⟩ := execs_exchangeFailed round
    have world : WorldSame s (s.exchangeFailed l r) := (LineKit.host.exchangeFailed s l r).world
    obtain ⟨v, result, changes, others⟩ := exchangeFailed_of_away_last round retry last he away
    refine ⟨_, window, gap, ?_⟩
    rw [result] at world ⊢
    have line (l' : Line) : v.line l' = s.line l' := by
      rw [changes]
      cases l' <;> rfl
    have trailer (q : Post) : v.trailer q = s.trailer q := by
      rw [changes]
      rfl
    have law (h : s.GrantLaw) : v.GrantLaw := h.of_keeps (.of_same (by rw [changes]) (by rw [changes]) (by rw [changes]))
    have ends := line_endRound_self v l r
    have other (l' : Line) (h : l' ≠ l) := line_endRound_other v h r
    have entry (q : Post) := entry_endRound v l r q
    have freed (h) (up) (q : Post) := freeOf_endRound (s := v) (l := l) (r := r) h up (q := q)
    have gone (h) (h') (q : Post) := gone_endRound (s := v) (l := l) (r := r) h h' (q := q)
    have identity (q : Post) := identity_endRound v l r (q := q)
    rw [line] at ends freed gone identity
    generalize v.endRound l r = u at *
    obtain ⟨counts, starts⟩ := ended_sinceUp (s.line l) r
    have state := ended_state (s.line l) r
    have good := ended_goodRounds (s.line l) r
    have silent := ended_silentRounds (s.line l) r
    have changed := ended_changes (s.line l) r
    rw [← ends] at counts starts state good silent changed freed
    refine ⟨changed, fun steady => silent.trans (silent_of_judgedAt _ r steady), fun steady => ?_, fun disturbed => ?_,
      fun recovering => ?_, counts, starts, fun down up q x here hx => freed down up q here x hx, fun fifth lawful q here restored => ?_,
      fun q stays => ?_, fun l' h => (other l' h).trans (line l'), fun q h => (entry q).trans (others q h), world⟩
    · rw [state, good, judgedAt_of_steady _ r steady]
      exact ⟨rfl, rfl⟩
    · have judged := disturbedJudged (s.line l) r disturbed
      rw [silent, state, good]
      refine ⟨judged.silent, fun clean one => judged.up ((clean_iff r).mpr clean) one.le,
        fun clean more => judged.recovering ((clean_iff r).mpr clean) more, fun spoiled third => ?_, fun spoiled fewer => ?_⟩
      · exact judged.down (Bool.eq_false_iff.mpr fun c => spoiled ((clean_iff r).mp c)) third.ge
      · exact judged.stays (Bool.eq_false_iff.mpr fun c => spoiled ((clean_iff r).mp c)) fewer
    · have judged := recoveringJudged (s.line l) r recovering
      rw [state, good]
      exact ⟨fun began clean => judged.up began ((clean_iff r).mpr clean), fun began clean => judged.counts began ((clean_iff r).mpr clean),
        fun other => judged.stays (other.imp_right fun spoiled => Bool.eq_false_iff.mpr fun c => spoiled ((clean_iff r).mp c))⟩
    · have left := gone fifth (law lawful) q here (by rw [trailer]; exact restored)
      exact ⟨left.vacant, left.directory⟩
    · rw [← trailer q]
      exact identity q (by rw [trailer]; exact stays)
  · refine ⟨_, hears.exec, ?_⟩
    obtain ⟨heard, takes, round⟩ := settled_goodResult hears
    rw [exchangeGood_eq]
    have line : ∀ {α : Type} (π : LineController → α), (∀ c x, π { c with round := x } = π c) →
        π ((s.goodResult l r.exchange rep).settleCauses.line l) = π (s.line l).good := fun π hπ => by
      rw [takes.line, hπ, heard.line]
    generalize (s.goodResult l r.exchange rep).settleCauses = w at *
    have good := good_of_down down
    have state := line LineController.state fun _ _ => rfl
    have rounds := line LineController.goodRounds fun _ _ => rfl
    have silent := line LineController.silentRounds fun _ _ => rfl
    have misses := line LineController.misses fun _ _ => rfl
    rw [good] at state rounds silent misses
    obtain ⟨state', rounds', silent', misses'⟩ := recovering_nextAddress (r := { r with hadGood := true }) state began round
    exact ⟨state', rounds'.trans rounds, silent'.trans silent, misses'.trans misses⟩
  · refine ⟨_, hears.exec, ?_⟩
    obtain ⟨heard, -, -⟩ := settled_goodResult hears
    have none : (s.goodResult l r.exchange rep).heldCauses = [] := ((heard.verified verify).causes).trans hears.noCause
    rw [exchangeGood_eq, settleCauses_of_none none]
    have line := heard.line
    generalize s.goodResult l r.exchange rep = v at *
    have round : (v.line l).round = some { r with hadGood := true } := by
      rw [line, good_changes]
      dsimp only
      rw [hears.round]
      rfl
    rw [nextAddress_of_last round last]
    have ends := line_endRound_self v l { r with hadGood := true }
    have freed (h) (up) (q : Post) := freeOf_endRound (s := v) (l := l) (r := { r with hadGood := true }) h up (q := q)
    rw [line] at ends freed
    generalize v.endRound l { r with hadGood := true } = u at *
    have state := ended_state (s.line l).good { r with hadGood := true }
    have good := ended_goodRounds (s.line l).good { r with hadGood := true }
    have silent := ended_silentRounds (s.line l).good { r with hadGood := true }
    have changed := ended_changes (s.line l).good { r with hadGood := true }
    rw [← ends] at state good silent changed freed
    have clean (h : r.spoiled = false) : Round.clean { r with hadGood := true } = true := (clean_iff _).mpr ⟨rfl, h⟩
    have spoils (h : r.spoiled = true) : Round.clean { r with hadGood := true } = false := by
      unfold Round.clean
      rw [h]
      rfl
    refine ⟨by rw [changed], by rw [changed, good_changes], fun up => ?_, fun disturbed => ?_, fun recovering => ?_,
      fun down up q x here hx => freed (by rw [good_state]; split <;> [nofun; exact down]) up q here x hx⟩
    · have steady := good_of_undown (c := s.line l) (by rw [up]; nofun)
      rw [state, judgedAt_of_steady _ _ (.inr (.inl (by rw [steady]; exact up))), steady]
      exact up
    · have steady := good_of_undown (c := s.line l) (by rw [disturbed]; nofun)
      have judged := disturbedJudged (s.line l).good { r with hadGood := true } (by rw [steady]; exact disturbed)
      rw [state, good, silent]
      rw [steady] at judged ⊢
      exact ⟨judged.silent, fun h one => judged.up (clean h) one.le, fun h more => judged.recovering (clean h) more,
        fun h => judged.stays (spoils h) (by simp)⟩
    · have steady := good_of_undown (c := s.line l) (by rw [recovering]; nofun)
      have judged := recoveringJudged (s.line l).good { r with hadGood := true } (by rw [steady]; exact recovering)
      rw [state, good]
      rw [steady] at judged ⊢
      exact ⟨fun began h => judged.up began (clean h), fun began h => judged.counts began (clean h),
        fun h => judged.stays (h.imp_right spoils)⟩

end Sys2Proof.Machine


/-! # The content of a completed write: lines and capacities (R2, R72, R194) -/

namespace Sys2Proof.Machine

/-! ## A line that wakes (R2) -/

/-- What the waking of a line leaves. -/
structure Wakes (l : Line) (s u : State) : Prop where
  still : (s.line l).state ≠ .off ∨ (s.lineConfig l).installed = 0 → u = s
  wakes : (s.line l).state = .off → (s.line l).settings.installed = 0 →
    ∀ p rest, installedPosts l (s.lineConfig l).installed = p :: rest →
      (∃ x, u.line l = { s.line l with
          state := .recovering, goodRounds := 0, silentRounds := 0, settings := s.lineConfig l, lastStart := some s.now
          round := some x } ∧ x.exchange.post = p ∧ x.exchange.retry = false ∧ x.remaining = rest ∧
        x.beganRecovering = true) ∧ ∀ q ∈ p :: rest, u.entry q = some .start
  other : ∀ l', l' ≠ l → u.line l' = s.line l'
  away : ∀ q, postLine q ≠ l → u.entry q = s.entry q ∧ u.output q = s.output q
  quiet : ((s.line l).state = .off → (s.line l).settings.installed = 0) →
    u = { s with lineA := u.lineA, lineB := u.lineB, posts := u.posts, outputs := u.outputs }

theorem wakes_of_still {l : Line} {s : State} (h : (s.line l).state ≠ .off ∨ (s.lineConfig l).installed = 0) : Wakes l s s :=
  { still := fun _ => rfl
    wakes := fun off _ p rest posts => by
      rw [installedPosts_eq_nil_iff.mpr (h.resolve_left fun on => on off)] at posts
      cases posts
    other := fun _ _ => rfl
    away := fun _ _ => ⟨rfl, rfl⟩
    quiet := fun _ => rfl }

theorem wakes_wakeLine (s : State) (l : Line) : Wakes l s (s.wakeLine l) := by
  unfold State.wakeLine
  split
  · rename_i wake
    obtain ⟨off, some⟩ := wake
    cases posts : installedPosts l (s.lineConfig l).installed with
    | nil => exact absurd (installedPosts_eq_nil_iff.mp posts) some
    | cons p rest =>
      have self := s.line_putLine_self l { s.line l with state := .recovering, goodRounds := 0, silentRounds := 0 }
      have other (l' : Line) (h : l' ≠ l) :=
        s.line_putLine_other h { s.line l with state := .recovering, goodRounds := 0, silentRounds := 0 }
      have put := s.putLine_changes l { s.line l with state := .recovering, goodRounds := 0, silentRounds := 0 }
      generalize s.putLine l { s.line l with state := .recovering, goodRounds := 0, silentRounds := 0 } = s0 at *
      have config : s0.lineConfig l = s.lineConfig l := by
        rw [put]
        cases l <;> rfl
      have now : s0.now = s.now := by
        rw [put]
        rfl
      have takes := takesSettings_takeSettings s0 l
      generalize taken : s0.takeSettings l = v at *
      have begins := beginRound_of_posts taken (p := p) (rest := rest) (by rw [takes.line, config]; exact posts) takes.now
      generalize s0.beginRound l = u at *
      have entry (q : Post) : u.entry q = v.entry q := by
        rw [begins.changes]
        rfl
      have outputs (q : Post) (h : postLine q ≠ l) : u.output q = v.output q := by
        refine begins.outputs q fun e => h ?_
        have mem : p ∈ installedPosts l (s.lineConfig l).installed := by
          rw [posts]
          exact List.mem_cons_self
        rw [e]
        exact (mem_installedPosts.mp mem).1
      refine ⟨fun h => absurd some (fun no => h.elim (fun on => on off) no), fun _ none q rest' posts' => ?_,
        fun l' h => (begins.other l' h).trans ((takes.other l' h).trans (other l' h)), fun q h => ?_, fun empty => ?_⟩
      · rw [posts] at posts'
        obtain ⟨rfl, rfl⟩ := List.cons_eq_cons.mp posts'
        have line := begins.line
        rw [takes.line, self, config, takes.now, now] at line
        refine ⟨⟨_, line, rfl, rfl, rfl, ?_⟩, fun q hq => ?_⟩
        · unfold LineController.firstRound
          rfl
        · refine (entry q).trans (takes.added q ?_).1
          rw [self, config, none]
          rw [← posts] at hq
          have all : (s.lineConfig l).installed &&& ~~~(0 : BitVec 120) = (s.lineConfig l).installed := by
            rw [BitVec.ofNat_eq_ofNat, BitVec.not_zero, BitVec.and_allOnes]
          rw [all]
          exact hq
      · have out (x : BitVec 120) : q ∉ installedPosts l x := fun m => h (mem_installedPosts.mp m).1
        refine ⟨(entry q).trans ((takes.kept q (out _) (out _)).trans ?_), (outputs q h).trans ((takes.keptOutput q (out _) (out _)).trans ?_)⟩
        · rw [put]
          rfl
        · rw [put]
          rfl
      · have none := takes.quiet (by
          rw [self, empty off]
          exact installedPosts_eq_nil_iff.mpr (by simp))
        have changes := begins.changes
        rw [none, put] at changes
        rw [changes]
  · rename_i still
    refine wakes_of_still ?_
    by_cases off : (s.line l).state = .off
    · exact .inr (not_not.mp fun some => still ⟨off, some⟩)
    · exact .inl off

/-! ## The content taken -/

/-- What the completion of a write does beside the content's effect: the flush that waits, or nothing. -/
structure Completes (v u : State) : Prop where
  changes : u = { v with
    rebuilds := u.rebuilds, heldCauses := u.heldCauses, restartRecord := u.restartRecord, phase := u.phase }

theorem completes_completeWrite {s : State} {w : StoreWrite} {c : BlockContent} (hw : s.write = some w)
    (read : readBlock w.block.val w.content = some c) : Completes ((s.writtenBy w).takeContent c) s.completeWrite := by
  rw [completeWrite_of_write hw read]
  split
  · refine ⟨?_⟩
    rw [beginFlush_changes]
  · exact ⟨rfl⟩

/-- The state with the content in force, before its effects. -/
def State.inForceWith (s : State) (w : StoreWrite) (c : BlockContent) : State :=
  { s.writtenBy w with config := (s.writtenBy w).config.put c }

/-- Beside the store and the reply, the state as content comes into force differs in the configuration alone. -/
structure PutsInForce (s t : State) : Prop where
  records : t.records = s.records
  queues : t.queues = s.queues
  committed : t.committed = s.committed
  actions : t.actions = s.actions
  stack : t.stack = s.stack
  nextPush : t.nextPush = s.nextPush
  directory : t.directory = s.directory
  lineA : t.lineA = s.lineA
  lineB : t.lineB = s.lineB
  posts : t.posts = s.posts
  outputs : t.outputs = s.outputs
  phase : t.phase = s.phase
  now : t.now = s.now
  notices : SameNotices s t

theorem putsInForce (s : State) (w : StoreWrite) (c : BlockContent) : PutsInForce s (s.inForceWith w c) :=
  ⟨rfl, rfl, rfl, rfl, rfl, rfl, rfl, rfl, rfl, rfl, rfl, rfl, rfl, rfl, rfl, rfl, rfl⟩

end Sys2Proof.Machine


/-! # Queues walked one after another, and queued requests that follow a post map (R72, R73) -/

namespace Sys2Proof.Machine

/-! ## One walk, entry by entry -/

/-- What became of a request that stood in a queue: it stands there, no pass count lower, or its run has been created. -/
def State.StandsOrRuns (s u : State) (q : Queue) (x : Request) : Prop :=
  (∃ y ∈ u.queue q, y = { x with passes := y.passes } ∧ x.passes ≤ y.passes) ∨
  ∃ y, u.run x.post = some y ∧ y.cls = x.cls ∧ y.load = x.load ∧ y.queue = q ∧ y.grantTime = s.now

theorem eq_of_post {l : List Request} (nodup : (l.map (·.post)).Nodup) {x y : Request} (hx : x ∈ l) (hy : y ∈ l)
    (h : x.post = y.post) : x = y := List.inj_on_of_nodup_map nodup hx hy h

theorem eq_of_key {x y : Request} (h : y.key = x.key) : y = { x with passes := y.passes } := by
  simp only [Request.key, Prod.mk.injEq] at h
  obtain ⟨post, cls, filed, load⟩ := h
  cases x
  cases y
  simp_all

theorem standsOrRuns_walk {s : State} (running : s.running = true) {q : Queue} (nodup : ((s.queue q).map (·.post)).Nodup)
    {x : Request} (hx : x ∈ s.queue q) : s.StandsOrRuns (s.walk q) q x := by
  have walks := walks_walk running nodup
  have divides := s.walked_divides q
  have mem : x.key ∈ ((s.walked q).1 ++ (s.walked q).2).map Request.key :=
    divides.all.mem_iff.mpr (List.mem_map_of_mem (by simpa using hx))
  obtain ⟨y, hy, same⟩ := List.mem_map.mp mem
  obtain granted | stays := List.mem_append.mp hy
  · have is : y = x := eq_of_post nodup (divides.granted.subset granted) hx (congrArg Prod.fst same)
    obtain ⟨z, run, terms⟩ := walks.runs x (is ▸ granted)
    simp only [RunRecord.terms, Prod.mk.injEq] at terms
    obtain ⟨cls, queue, load, grant, -⟩ := terms
    exact .inr ⟨z, run, cls, load, queue, grant⟩
  · obtain ⟨r₀, h₀, post, le⟩ := walkFrom_covers (s.capacityOf q) (fun r => (s.ineligible q r.post).isNone) (s.load q) []
      (s.queue q) y stays
    have is : r₀ = x := eq_of_post nodup h₀ hx (post.trans (congrArg Prod.fst same))
    refine .inl ⟨y, ?_, eq_of_key same, is ▸ le⟩
    rw [walks.queue]
    exact stays

/-! ## Several walks -/

/-- What a queue walked beside others is: as its own walk from the start leaves it, where no record matters to it. -/
structure WalksAll (qs : List Queue) (s u : State) : Prop where
  law : u.GrantLaw
  alone : ArbiterAlone s u
  stands : ∀ q ∈ qs, ∀ x ∈ s.queue q, s.StandsOrRuns u q x
  asWalked : ∀ q ∈ qs, q ≠ Queue.engineBay → u.queue q = (s.walked q).2 ∧
    u.load q = s.load q + ((s.walked q).1.map (·.load)).sum
  grants : ∀ q ∈ qs, q ≠ Queue.engineBay → ∀ x ∈ (s.walked q).1, ∃ y, u.run x.post = some y ∧ y.cls = x.cls ∧
    y.load = x.load ∧ y.queue = q ∧ y.grantTime = s.now
  others : ∀ q, q ∉ qs → u.queue q = s.queue q ∧ u.load q = s.load q
  runs : ∀ p x, s.run p = some x → u.run p = some x

/-- A feeder's queue is walked by what the lines, the entries and the configuration say. -/
theorem walked_of_alone {s t : State} (alone : ArbiterAlone s t) {q : Queue} (feeder : q ≠ Queue.engineBay)
    (queue : t.queue q = s.queue q) (load : t.load q = s.load q) : t.walked q = s.walked q := by
  have capacity : t.capacityOf q = s.capacityOf q := by
    unfold ArbiterAlone at alone
    rw [alone]
    rfl
  have ineligible (p : Post) : t.ineligible q p = s.ineligible q p := by
    have up : t.lineUp p = s.lineUp p := by
      unfold State.lineUp
      rw [alone.line]
    unfold State.ineligible
    simp only [up, alone.entry, feeder, false_and, if_false]
  unfold State.walked
  simp only [capacity, ineligible, queue, load]

theorem run_walk_of_run {s : State} (law : s.GrantLaw) {p : Post} {x : RunRecord} (run : s.run p = some x) (q : Queue) :
    (s.walk q).run p = some x :=
  (run_of_trailer (trailer_walk_of_unfiled (law.unfiled_of_run (by rw [run]; nofun)) q)).trans run

theorem walksAll_forEach {qs : List Queue} (nodup : qs.Nodup) {s : State} (running : s.running = true) (law : s.GrantLaw) :
    WalksAll qs s (s.forEach qs State.walk) := by
  induction qs generalizing s with
  | nil => exact ⟨law, .refl s, nofun, nofun, nofun, fun _ _ => ⟨rfl, rfl⟩, fun _ _ => id⟩
  | cons q qs ih =>
    obtain ⟨apart, nodup⟩ := List.nodup_cons.mp nodup
    have walks := walks_walk running (law.onePerQueue q)
    have stands {x : Request} (hx : x ∈ s.queue q) := standsOrRuns_walk running (law.onePerQueue q) hx
    have keeps {p : Post} {x : RunRecord} (run : s.run p = some x) := run_walk_of_run law run q
    have lawful := law.walk q
    have first : s.forEach (q :: qs) State.walk = (s.walk q).forEach qs State.walk := rfl
    rw [first]
    generalize s.walk q = t at *
    have rest := ih nodup (walks.alone.running.trans running) lawful
    generalize t.forEach qs State.walk = u at *
    have now := walks.alone.now
    obtain ⟨here, load⟩ := rest.others q apart
    have moves {q' : Queue} {x : Request} (h : t.StandsOrRuns u q' x) : s.StandsOrRuns u q' x :=
      h.imp_right fun ⟨y, run, cls, load, queue, grant⟩ => ⟨y, run, cls, load, queue, grant.trans now⟩
    have away {q' : Queue} (h : q' ∈ qs) : q' ≠ q := fun e => apart (e ▸ h)
    refine ⟨rest.law, walks.alone.trans rest.alone, fun q' hq x hx => ?_, fun q' hq feeder => ?_, fun q' hq feeder x hx => ?_,
      fun q' hq => ?_, fun p x run => rest.runs p x (keeps run)⟩
    · obtain rfl | hq := List.mem_cons.mp hq
      · refine (stands hx).imp (fun ⟨y, hy, same⟩ => ⟨y, here ▸ hy, same⟩) fun ⟨y, run, terms⟩ => ⟨y, rest.runs _ _ run, terms⟩
      · exact moves (rest.stands q' hq x (walks.queues q' (away hq) ▸ hx))
    · obtain rfl | hq := List.mem_cons.mp hq
      · exact ⟨here.trans walks.queue, load.trans walks.load⟩
      · have same := walked_of_alone walks.alone feeder (walks.queues q' (away hq)) (walks.loads q' (away hq))
        rw [← same, ← walks.loads q' (away hq)]
        exact rest.asWalked q' hq feeder
    · obtain rfl | hq := List.mem_cons.mp hq
      · obtain ⟨y, run, terms⟩ := walks.runs x hx
        simp only [RunRecord.terms, Prod.mk.injEq] at terms
        obtain ⟨cls, queue, load, grant, -⟩ := terms
        exact ⟨y, rest.runs _ _ run, cls, load, queue, grant⟩
      · rw [← walked_of_alone walks.alone feeder (walks.queues q' (away hq)) (walks.loads q' (away hq))] at hx
        obtain ⟨y, run, cls, load, queue, grant⟩ := rest.grants q' hq feeder x hx
        exact ⟨y, run, cls, load, queue, grant.trans now⟩
    · have out : q' ≠ q := fun e => hq (e ▸ List.mem_cons_self)
      obtain ⟨queue, load⟩ := rest.others q' fun m => hq (List.mem_cons_of_mem _ m)
      exact ⟨queue.trans (walks.queues q' out), load.trans (walks.loads q' out)⟩

/-! ## Requests that follow a post map (R73) -/

theorem queue_removeRequest {s : State} (law : s.GrantLaw) (p : Post) (q : Queue) :
    (s.removeRequest p).queue q = (s.queue q).filter fun r => decide (r.post ≠ p) := by
  have whole {l : List Request} (h : ∀ r ∈ l, r.post ≠ p) : l.filter (fun r => decide (r.post ≠ p)) = l :=
    List.filter_eq_self.mpr fun r hr => decide_eq_true (h r hr)
  unfold State.removeRequest
  split
  · rename_i none
    exact (whole (State.requestOf_eq_none_iff.mp none q)).symm
  · rename_i q' r found
    obtain ⟨mem, post⟩ := State.requestOf_spec found
    by_cases same : q = q'
    · rw [same, State.queue_putQueue_self]
    · rw [State.queue_putQueue_other _ _ _ _ same]
      refine (whole fun x hx e => ?_).symm
      exact law.oneQueue q q' same x hx r mem (e.trans post.symm)

/-- What requests given new queues one after another leave. -/
structure PlacesRequests (l : List (Queue × Request)) (s v : State) : Prop where
  law : v.GrantLaw
  changes : v = { s with queues := v.queues }
  stays : ∀ q, ∀ x ∈ s.queue q, (∀ m ∈ l, m.2.post ≠ x.post) → x ∈ v.queue q
  placed : ∀ m ∈ l, m.2 ∈ v.queue m.1
  others : ∀ q, (∀ m ∈ l, m.1 ≠ q) → v.queue q = (s.queue q).filter fun r => decide (∀ m ∈ l, m.2.post ≠ r.post)

theorem removeRequest_queuesAlone (s : State) (p : Post) : s.removeRequest p = { s with queues := (s.removeRequest p).queues } :=
  removeRequest_changes s p

theorem places_requests {l : List (Queue × Request)} (nodup : (l.map fun m => m.2.post).Nodup) {s : State} (law : s.GrantLaw)
    (hl : ∀ m ∈ l, (s.trailer m.2.post).state = .enrolled ∧ s.run m.2.post = none) :
    PlacesRequests l s (s.forEach l fun s' m => (s'.removeRequest m.2.post).joinQueue m.1 m.2) := by
  induction l generalizing s with
  | nil => exact ⟨law, rfl, fun _ _ hx _ => hx, nofun, fun q _ => (List.filter_eq_self.mpr fun _ _ => by simp).symm⟩
  | cons m l ih =>
    obtain ⟨apart, nodup⟩ := List.nodup_cons.mp nodup
    obtain ⟨enrolled, noRun⟩ := hl m List.mem_cons_self
    have lawful := law.placeRequest enrolled noRun m.1
    have removed := removeRequest_changes s m.2.post
    have queues (q : Queue) := queue_removeRequest law m.2.post q
    have first : s.forEach (m :: l) (fun s' m => (s'.removeRequest m.2.post).joinQueue m.1 m.2)
        = ((s.removeRequest m.2.post).joinQueue m.1 m.2).forEach l fun s' m => (s'.removeRequest m.2.post).joinQueue m.1 m.2 := rfl
    rw [first]
    generalize s.removeRequest m.2.post = r at *
    have joinedSelf : (r.joinQueue m.1 m.2).queue m.1 = insertRequest m.2 (r.queue m.1) := State.queue_putQueue_self _ _ _
    have joinedOther (q : Queue) (h : q ≠ m.1) : (r.joinQueue m.1 m.2).queue q = r.queue q := State.queue_putQueue_other _ _ _ _ h
    have joined : r.joinQueue m.1 m.2 = { r with queues := (r.joinQueue m.1 m.2).queues } := rfl
    generalize r.joinQueue m.1 m.2 = t at *
    have changes : t = { s with queues := t.queues } := by
      rw [joined, removed]
    have mem {q : Queue} {x : Request} (hx : x ∈ r.queue q) : x ∈ t.queue q := by
      by_cases here : q = m.1
      · rw [here, joinedSelf]
        exact mem_insertRequest.mpr (.inr (here ▸ hx))
      · rw [joinedOther q here]
        exact hx
    have rest := ih nodup lawful fun x hx => by
      have kept := hl x (List.mem_cons_of_mem _ hx)
      rw [changes]
      exact kept
    generalize (t.forEach l fun s' m => (s'.removeRequest m.2.post).joinQueue m.1 m.2) = v at *
    refine ⟨rest.law, ?_, fun q x hx out => ?_, fun x hx => ?_, fun q out => ?_⟩
    · rw [rest.changes, changes]
    · refine rest.stays q x (mem ?_) fun m' hm => out m' (List.mem_cons_of_mem _ hm)
      rw [queues]
      exact List.mem_filter.mpr ⟨hx, decide_eq_true (out m List.mem_cons_self).symm⟩
    · obtain rfl | hx := List.mem_cons.mp hx
      · refine rest.stays x.1 x.2 ?_ fun m' hm e => apart (List.mem_map.mpr ⟨m', hm, e⟩)
        rw [joinedSelf]
        exact mem_insertRequest.mpr (.inl rfl)
      · exact rest.placed x hx
    · rw [rest.others q fun m' hm => out m' (List.mem_cons_of_mem _ hm), joinedOther q (out m List.mem_cons_self).symm, queues,
        List.filter_filter]
      refine List.filter_congr fun x _ => ?_
      simp only [List.mem_cons, forall_eq_or_imp, ne_eq, decide_not, Bool.decide_and, eq_comm (a := x.post)]
      rw [Bool.and_comm]

end Sys2Proof.Machine


/-! # A finding table and a profile that take effect (R131, R156, R194) -/

namespace Sys2Proof.Machine

/-! ## Requests under a new post map -/

/-- What a new post map leaves of the queues and the runs (R73). -/
structure Remaps (s u : State) : Prop where
  stands : ∀ q, ∀ x ∈ s.queue q, s.StandsOrRuns u (s.queueOf x.post) x
  others : ∀ q, (∀ q', q' ≠ q → ∀ x ∈ s.queue q', s.queueOf x.post ≠ q) →
    u.queue q = (s.queue q).filter (fun x => decide (s.queueOf x.post = q)) ∧ u.load q = s.load q
  runs : ∀ p x, s.run p = some x → u.run p = some x

theorem mem_movedRequests {s : State} {m : Queue × Request} :
    m ∈ s.movedRequests ↔ ∃ q, m.2 ∈ s.queue q ∧ s.queueOf m.2.post ≠ q ∧ m.1 = s.queueOf m.2.post := by
  unfold State.movedRequests
  simp only [List.mem_flatMap, List.mem_map, List.mem_filter, decide_eq_true_eq]
  constructor
  · rintro ⟨q, -, r, ⟨hr, away⟩, rfl⟩
    exact ⟨q, hr, away, rfl⟩
  · rintro ⟨q, hr, away, same⟩
    exact ⟨q, mem_allQueues q, m.2, ⟨hr, away⟩, Prod.ext same.symm rfl⟩

theorem movedRequests_nodup {s : State} (law : s.GrantLaw) : (s.movedRequests.map fun m => m.2.post).Nodup := by
  have posts : s.movedRequests.map (fun m => m.2.post)
      = allQueues.flatMap fun q => ((s.queue q).filter fun r => decide (s.queueOf r.post ≠ q)).map (·.post) := by
    unfold State.movedRequests
    rw [List.map_flatMap]
    refine congrArg (fun f => allQueues.flatMap f) (funext fun q => ?_)
    rw [List.map_map]
    rfl
  rw [posts, List.nodup_flatMap]
  refine ⟨fun q _ => (law.onePerQueue q).sublist (List.filter_sublist.map _), ?_⟩
  refine List.Pairwise.imp_of_mem (fun {q q'} _ _ apart => ?_) (List.nodup_finRange 9)
  intro p hp hp'
  obtain ⟨x, hx, rfl⟩ := List.mem_map.mp hp
  obtain ⟨y, hy, same⟩ := List.mem_map.mp hp'
  exact law.oneQueue q' q (Ne.symm apart) y (List.mem_of_mem_filter hy) x (List.mem_of_mem_filter hx) same

theorem remaps_remapRequests {s : State} (running : s.running = true) (law : s.GrantLaw) : Remaps s s.remapRequests := by
  have places := places_requests (movedRequests_nodup law) law fun m hm => by
    obtain ⟨q, hr, -, -⟩ := mem_movedRequests.mp hm
    exact law.requestEnrolled q m.2 hr
  unfold State.remapRequests
  dsimp only
  generalize (s.forEach s.movedRequests fun s' m => (s'.removeRequest m.2.post).joinQueue m.1 m.2) = v at *
  have vRunning : v.running = true := by
    rw [places.changes]
    exact running
  have now : v.now = s.now := by
    rw [places.changes]
    rfl
  have run (p : Post) : v.run p = s.run p := by
    rw [places.changes]
    rfl
  have load (q : Queue) : v.load q = s.load q := by
    rw [places.changes]
    rfl
  have qs : (allQueues.filter fun q => s.movedRequests.any fun m => decide (m.1 = q)).Nodup := (List.nodup_finRange 9).filter _
  have receives (q : Queue) : (q ∈ allQueues.filter fun q => s.movedRequests.any fun m => decide (m.1 = q)) ↔
      ∃ m ∈ s.movedRequests, m.1 = q := by
    rw [List.mem_filter, List.any_eq_true]
    simp only [mem_allQueues, true_and, decide_eq_true_eq]
  have walks := walksAll_forEach qs vRunning places.law
  generalize (allQueues.filter fun q => s.movedRequests.any fun m => decide (m.1 = q)) = targets at *
  generalize v.forEach targets State.walk = u at *
  have still {q : Queue} {x : Request} (hx : x ∈ s.queue q) : (∀ m ∈ s.movedRequests, m.2.post ≠ x.post) ↔ s.queueOf x.post = q := by
    constructor
    · intro h
      by_contra away
      exact h (s.queueOf x.post, x) (mem_movedRequests.mpr ⟨q, hx, away, rfl⟩) rfl
    · intro here m hm same
      obtain ⟨q', hr, away, -⟩ := mem_movedRequests.mp hm
      have one : q' = q := by
        by_contra apart
        exact law.oneQueue q' q apart m.2 hr x hx same
      rw [same, one] at away
      exact away here
  refine ⟨fun q x hx => ?_, fun q none => ?_, fun p x h => walks.runs p x ((run p).trans h)⟩
  · have stood : x ∈ v.queue (s.queueOf x.post) := by
      by_cases here : s.queueOf x.post = q
      · rw [here]
        exact places.stays q x hx ((still hx).mpr here)
      · exact places.placed (s.queueOf x.post, x) (mem_movedRequests.mpr ⟨q, hx, here, rfl⟩)
    by_cases target : s.queueOf x.post ∈ targets
    · exact (walks.stands _ target x stood).imp_right fun ⟨y, run, cls, load, queue, grant⟩ => ⟨y, run, cls, load, queue, grant.trans now⟩
    · refine .inl ⟨x, ?_, rfl, le_rfl⟩
      rw [(walks.others _ target).1]
      exact stood
  · have untouched : ∀ m ∈ s.movedRequests, m.1 ≠ q := fun m hm e => by
      obtain ⟨q', hr, away, is⟩ := mem_movedRequests.mp hm
      have lands : s.queueOf m.2.post = q := is.symm.trans e
      exact none q' (fun h => away (lands.trans h.symm)) m.2 hr lands
    obtain ⟨queue, load'⟩ := walks.others q fun target => by
      obtain ⟨m, hm, e⟩ := (receives q).mp target
      exact untouched m hm e
    refine ⟨queue.trans ((places.others q untouched).trans (List.filter_congr fun x hx => ?_)), load'.trans (load q)⟩
    exact decide_eq_decide.mpr (still hx)

/-! ## One post among those that an operation goes over -/

/-- The state as the operation comes to a post, and as it leaves it: both agree with the start and the end there. -/
theorem forEach_at {f : State → Post → State} (others : ∀ s p, OtherPostsSame p s (f s p))
    (config : ∀ s p, (f s p).config = s.config) {posts : List Post} (nodup : posts.Nodup) {p : Post} (hp : p ∈ posts) (s : State) :
    ∃ w : State, (w.trailer p = s.trailer p ∧ w.inForce p = s.inForce p) ∧ w.config = s.config ∧
      ((s.forEach posts f).trailer p = (f w p).trailer p ∧ (s.forEach posts f).inForce p = (f w p).inForce p) := by
  have away : ∀ (l : List Post) (u : State), p ∉ l →
      ((u.forEach l f).trailer p = u.trailer p ∧ (u.forEach l f).inForce p = u.inForce p) ∧ (u.forEach l f).config = u.config := by
    intro l
    induction l with
    | nil => exact fun u _ => ⟨⟨rfl, rfl⟩, rfl⟩
    | cons q l ih =>
      intro u hu
      obtain ⟨⟨trailer, inForce⟩, same⟩ := ih (f u q) fun m => hu (List.mem_cons_of_mem _ m)
      obtain ⟨trailer', -, inForce'⟩ := others u q p fun e => hu (e ▸ List.mem_cons_self)
      exact ⟨⟨trailer.trans trailer', inForce.trans inForce'⟩, same.trans (config u q)⟩
  obtain ⟨a, b, rfl⟩ := List.append_of_mem hp
  have split : s.forEach (a ++ p :: b) f = (f (s.forEach a f) p).forEach b f := by
    unfold State.forEach
    rw [List.foldl_append, List.foldl_cons]
  have apart := List.nodup_append.mp nodup
  obtain ⟨same, config'⟩ := away a s fun m => apart.2.2 p m p List.mem_cons_self rfl
  exact ⟨s.forEach a f, same, config', split ▸ (away b (f (s.forEach a f) p) (List.nodup_cons.mp apart.2.1).1).1⟩

/-! ## The actions of a record settled, its run whatever it is (R152, R154, R156) -/

theorem inForce_produceEnding (s : State) (p : Post) (c : FindingClass) (d k : Nat) (a : Action) :
    ((s.produceEnding p c d k).1.inForce p).of a = (s.inForce p).of a ∨
    ((s.inForce p).of a = none ∧ (s.tableEntry c).action = a) := by
  unfold State.produceEnding State.produceWith
  split
  · exact .inl rfl
  · split
    · have edited : ((s.pushed p c d k).inForce p) = s.inForce p := by
        unfold State.pushed
        rw [State.editTrailer_changes]
        rfl
      have same : ∀ u b, (State.item u p b).inForce p = u.inForce p := fun u b =>
        congrArg (fun v : Vector ActionsInForce 240 => v.get p) (u.item_actions p b)
      dsimp only
      rw [raiseFinding_eq, same, inForce_activate, edited]
      split
      · exact .inl rfl
      · rename_i fresh
        obtain ⟨some, idle⟩ := not_or.mp fresh
        by_cases this : a = (s.tableEntry c).action
        · refine .inr ⟨?_, this.symm⟩
          rw [this]
          unfold State.actionInForce at idle
          rw [edited] at idle
          simpa using idle
        · rw [ActionsInForce.of_put _ some, if_neg this]
          exact .inl rfl
    · have edited : (s.editTrailer p fun t => t.noting c d).inForce p = s.inForce p := by
        rw [State.editTrailer_changes]
        rfl
      have noted : (s.noteFinding p c d).inForce p = s.inForce p :=
        (congrArg (fun v : Vector ActionsInForce 240 => v.get p)
          (State.item_actions (s.editTrailer p fun t => t.noting c d) p _)).trans edited
      exact .inl (congrArg (fun x : ActionsInForce => x.of a) noted)

theorem inForce_relink (s : State) (p : Post) (n : Option Nat) : (s.relink p n).inForce p = s.inForce p := by
  unfold State.relink
  split
  · unfold State.putRun
    rw [State.editTrailer_changes]
    rfl
  · rfl

theorem inForce_abortRun (s : State) (p : Post) (k : Nat) (a : Action) :
    (((s.abortRun p .inhibit true k).1.inForce p).of a) = (s.inForce p).of a ∨
    ((s.inForce p).of a = none ∧ (s.run p).isSome ∧ (s.tableEntry .defrostAborted).action = a) := by
  unfold State.abortRun
  split
  · exact .inl rfl
  · rename_i r hr
    split
    · exact .inl rfl
    · have finding : RunOutcome.finding (.aborted .inhibit) true = some (.defrostAborted, 5) := rfl
      rw [enterEnding_of_run hr, finding]
      dsimp only
      have entered : ((s.editTrailer p fun t => t.entering r s.now (.aborted .inhibit) true k).inForce p) = s.inForce p := by
        rw [State.editTrailer_changes]
        rfl
      have table : (s.editTrailer p fun t => t.entering r s.now (.aborted .inhibit) true k).tableEntry .defrostAborted
          = s.tableEntry .defrostAborted := by
        rw [State.editTrailer_changes]
        rfl
      rw [inForce_relink]
      have produced := inForce_produceEnding (s.editTrailer p fun t => t.entering r s.now (.aborted .inhibit) true k) p
        .defrostAborted 5 ((r.enter s.now (.aborted .inhibit) true k).link.getD 0) a
      rw [entered, table] at produced
      rw [hr]
      exact produced.imp_right fun ⟨off, action⟩ => ⟨off, rfl, action⟩

/-- What settling one action leaves of those in force. -/
structure SettlesAction (p : Post) (a : Action) (s t : State) : Prop where
  self : (t.inForce p).of a = s.settledCause p a
  others : ∀ b, b ≠ a → (t.inForce p).of b = (s.inForce p).of b ∨
    ((s.inForce p).of b = none ∧ a = .inhibitDefrost ∧ (s.run p).isSome ∧ (s.tableEntry .defrostAborted).action = b)
  active : a ≠ .inhibitDefrost → (t.trailer p).active = (s.trailer p).active
  run : (s.run p).isSome = false → (t.run p).isSome = false
  config : t.config = s.config


theorem settledCause_of_carrier {s : State} {p : Post} {a : Action} {x : ActiveFinding} (h : s.carrier p a = some x) :
    s.settledCause p a = if ((s.inForce p).of a).isSome then (s.inForce p).of a else some (x.push.getD 0) := by
  unfold State.settledCause
  rw [h]

theorem inForce_causeJoins (s : State) (p : Post) (c : SuspCause) (n : Nat) : (s.causeJoins p c n).inForce p = s.inForce p := by
  rw [State.causeJoins_changes]
  rfl

theorem inForce_causeLeaves (s : State) (p : Post) (c : SuspCause) : (s.causeLeaves p c).inForce p = s.inForce p := by
  rw [State.causeLeaves_changes]
  rfl

theorem inForce_removeRequest (s : State) (p : Post) : (s.removeRequest p).inForce p = s.inForce p := by
  rw [removeRequest_changes]
  rfl

theorem active_causeJoins (s : State) (p : Post) (c : SuspCause) (n : Nat) :
    ((s.causeJoins p c n).trailer p).active = (s.trailer p).active :=
  TrailerRecord.field_of_offRun (offRun_causeJoins s p p c n) TrailerRecord.active fun _ => rfl

/-- An action applied: those in force after it, as a raise of DEFROST-ABORTED can add one. -/
theorem inForce_applyAction (s : State) (p : Post) {a : Action} (some : a ≠ .none) (k : Nat) :
    ((s.applyAction p a k).inForce p).of a = (if ((s.inForce p).of a).isSome then (s.inForce p).of a else Option.some k) ∧
    ∀ b, b ≠ a → ((s.applyAction p a k).inForce p).of b = (s.inForce p).of b ∨
      ((s.inForce p).of b = Option.none ∧ a = .inhibitDefrost ∧ (s.run p).isSome ∧
        (s.tableEntry .defrostAborted).action = b) := by
  unfold State.applyAction
  split
  · rename_i no
    have on : ((s.inForce p).of a).isSome = true := no.resolve_left some
    rw [if_pos on]
    exact ⟨rfl, fun _ _ => .inl rfl⟩
  · rename_i fresh
    have off : ¬ ((s.inForce p).of a).isSome = true := (not_or.mp fresh).2
    rw [if_neg off]
    have active (b : Action) : ((s.activate p a k).inForce p).of b = if b = a then Option.some k else (s.inForce p).of b := by
      rw [inForce_activate, if_neg fresh, ActionsInForce.of_put _ some]
    have self := (active a).trans (if_pos rfl)
    have other (b : Action) (h : b ≠ a) := (active b).trans (if_neg h)
    have run : (s.activate p a k).run p = s.run p := run_of_trailer (State.activate_trailer s p p a k)
    have table (c : FindingClass) : (s.activate p a k).tableEntry c = s.tableEntry c := by
      rw [State.activate_changes]
      rfl
    generalize s.activate p a k = t at *
    dsimp only
    split
    · exact absurd rfl some
    · exact ⟨self, fun b h => .inl (other b h)⟩
    · have abort := inForce_abortRun (t.removeRequest p) p k
      have tableR : (t.removeRequest p).tableEntry .defrostAborted = s.tableEntry .defrostAborted := by
        rw [removeRequest_changes]
        exact table _
      rw [inForce_removeRequest, removeRequest_run, run, tableR] at abort
      unfold State.inhibitDefrost
      refine ⟨(abort _).elim (fun same => same.trans self) fun ⟨gone, _⟩ => ?_, fun b h => ?_⟩
      · rw [self] at gone
        cases gone
      · rw [← other b h]
        exact (abort b).imp_right fun ⟨gone, run, action⟩ => ⟨gone, rfl, run, action⟩
    · rw [inForce_causeJoins]
      exact ⟨self, fun b h => .inl (other b h)⟩

theorem settlesAction_settleAction (s : State) (p : Post) {a : Action} (some : a ≠ .none) :
    SettlesAction p a s (s.settleAction p a) := by
  have config : (s.settleAction p a).config = s.config :=
    State.of_framed (fun f => f.settleAction s p a) State.config fun _ => rfl
  have run (h : (s.run p).isSome = false) : ((s.settleAction p a).run p).isSome = false := by
    have idle := Option.isSome_eq_false_iff.mp h
    have settles := settlesIdle_settleAction (Option.isNone_iff_eq_none.mp idle) some
    rw [run_of_trailer (settles.trailer p)]
    exact h
  unfold State.settleAction at config run ⊢
  cases carrier : s.carrier p a with
  | none =>
    rw [carrier] at config run
    dsimp only at config run ⊢
    have withdraws := withdraws_withdrawAction s p a
    refine ⟨?_, fun b h => ?_, fun _ => withdraws.active p, run, config⟩
    · rw [of_withdrawAction, State.settledCause, carrier]
    · refine .inl ?_
      unfold State.withdrawAction
      split
      · have ended : ((s.putInForce p ((s.inForce p).put a none)).inForce p).of b = (s.inForce p).of b := by
          rw [State.inForce_putInForce_self, ActionsInForce.of_put _ some, if_neg h]
        dsimp only
        split
        iterate 3 exact ended
        rw [inForce_causeLeaves]
        exact ended
      · rfl
  | some x =>
    rw [carrier] at config run
    dsimp only at config run ⊢
    obtain ⟨self, others⟩ := inForce_applyAction s p some (x.push.getD 0)
    refine ⟨self.trans (settledCause_of_carrier carrier).symm, others, fun quiet => ?_, run, config⟩
    have active : ((s.activate p a (x.push.getD 0)).trailer p).active = (s.trailer p).active := by rw [State.activate_trailer]
    unfold State.applyAction
    split
    · rfl
    · dsimp only
      split
      · exact active
      · exact active
      · exact absurd rfl quiet
      · exact (active_causeJoins _ p .cut _).trans active

theorem settledCause_of_same {s t : State} {p : Post} {a : Action} (active : (t.trailer p).active = (s.trailer p).active)
    (config : t.config = s.config) (inForce : (t.inForce p).of a = (s.inForce p).of a) :
    t.settledCause p a = s.settledCause p a := by
  have table (c : FindingClass) : t.tableEntry c = s.tableEntry c := by
    unfold State.tableEntry
    rw [config]
  have carrier : t.carrier p a = s.carrier p a := by
    unfold State.carrier
    simp only [active, table]
  unfold State.settledCause
  rw [carrier, inForce]

/-- What settling every action of a record leaves of those in force. -/
theorem inForce_settleActions (s : State) (p : Post) {a : Action} (some : a ≠ .none) :
    ((s.settleActions p).inForce p).of a = s.settledCause p a ∨
    (s.settledCause p a = none ∧ (s.run p).isSome ∧ (s.tableEntry .defrostAborted).action = a) := by
  have unfolded : s.settleActions p
      = ((s.settleAction p .beacon).settleAction p .cutHeater).settleAction p .inhibitDefrost := rfl
  rw [unfolded]
  have first := settlesAction_settleAction s p (a := .beacon) nofun
  generalize s.settleAction p .beacon = t at *
  have second := settlesAction_settleAction t p (a := .cutHeater) nofun
  generalize t.settleAction p .cutHeater = u at *
  have third := settlesAction_settleAction u p (a := .inhibitDefrost) nofun
  generalize u.settleAction p .inhibitDefrost = v at *
  have config := second.config.trans first.config
  have table : u.tableEntry .defrostAborted = s.tableEntry .defrostAborted := by
    unfold State.tableEntry
    rw [config]
  have ran (h : (u.run p).isSome) : (s.run p).isSome := by
    by_contra no
    have idle := second.run (first.run (Bool.eq_false_iff.mpr no))
    rw [idle] at h
    cases h
  have quiet₁ (b : Action) (h : b ≠ .beacon) : (t.inForce p).of b = (s.inForce p).of b :=
    (first.others b h).resolve_right fun ⟨_, no, _⟩ => nomatch no
  have quiet₂ (b : Action) (h : b ≠ .cutHeater) : (u.inForce p).of b = (t.inForce p).of b :=
    (second.others b h).resolve_right fun ⟨_, no, _⟩ => nomatch no
  have last {b : Action} (h : b ≠ .inhibitDefrost) (at' : (u.inForce p).of b = s.settledCause p b) :
      (v.inForce p).of b = s.settledCause p b ∨
      (s.settledCause p b = none ∧ (s.run p).isSome ∧ (s.tableEntry .defrostAborted).action = b) := by
    rw [← at', ← table]
    exact (third.others b h).imp_right fun ⟨off, _, run, action⟩ => ⟨off, ran run, action⟩
  cases a with
  | none => exact absurd rfl some
  | beacon => exact last nofun ((quiet₂ .beacon nofun).trans first.self)
  | cutHeater =>
    exact last nofun (second.self.trans (settledCause_of_same (first.active nofun) first.config (quiet₁ .cutHeater nofun)))
  | inhibitDefrost =>
    exact .inl (third.self.trans (settledCause_of_same ((second.active nofun).trans (first.active nofun)) config
      ((quiet₂ .inhibitDefrost nofun).trans (quiet₁ .inhibitDefrost nofun))))

end Sys2Proof.Machine


/-! # What completed content does (R2, R72, R73, R131, R156, R194) -/

namespace Sys2Proof.Machine

/-! ## Lines that wake, both of them -/

/-- What the waking of both lines leaves of one. -/
structure WakesAs (l : Line) (s u : State) : Prop where
  wakes : (s.line l).state = .off → (s.line l).settings.installed = 0 →
    ∀ p rest, installedPosts l (s.lineConfig l).installed = p :: rest →
      ∃ x, u.line l = { s.line l with
          state := .recovering, goodRounds := 0, silentRounds := 0, settings := s.lineConfig l, lastStart := some s.now
          round := some x } ∧ x.exchange.post = p ∧ x.exchange.retry = false ∧ x.remaining = rest ∧
        x.beganRecovering = true ∧ ∀ q ∈ p :: rest, u.entry q = some .start
  still : (s.line l).state ≠ .off ∨ (s.lineConfig l).installed = 0 →
    u.line l = s.line l ∧ ∀ q, postLine q = l → u.entry q = s.entry q ∧ u.output q = s.output q

theorem Wakes.as {l : Line} {s u : State} (h : Wakes l s u) : WakesAs l s u :=
  ⟨fun off none p rest posts =>
      have ⟨⟨x, line, post, retry, remaining, began⟩, entries⟩ := h.wakes off none p rest posts
      ⟨x, line, post, retry, remaining, began, entries⟩,
    fun still => by
      rw [h.still still]
      exact ⟨rfl, fun _ _ => ⟨rfl, rfl⟩⟩⟩

theorem lineConfig_of_config {s t : State} (h : t.config = s.config) (l : Line) : t.lineConfig l = s.lineConfig l := by
  unfold State.lineConfig
  rw [h]

theorem WakesAs.after_other {l l' : Line} (apart : l ≠ l') {s t u : State} (first : Wakes l' s t)
    (config : t.config = s.config) (now : t.now = s.now) (h : WakesAs l t u) : WakesAs l s u := by
  have line := first.other l apart
  have posts {q : Post} (on : postLine q = l) := first.away q fun other => apart (on.symm.trans other)
  obtain ⟨wakes, still⟩ := h
  rw [line, lineConfig_of_config config, now] at wakes
  rw [line, lineConfig_of_config config] at still
  exact ⟨wakes, fun x => ⟨(still x).1, fun q on =>
    ⟨((still x).2 q on).1.trans (posts on).1, ((still x).2 q on).2.trans (posts on).2⟩⟩⟩

theorem WakesAs.before_other {l l' : Line} (apart : l ≠ l') {s t u : State} (h : WakesAs l s t) (last : Wakes l' t u) :
    WakesAs l s u := by
  have line := last.other l apart
  have posts {q : Post} (on : postLine q = l) := last.away q fun other => apart (on.symm.trans other)
  refine ⟨fun off none p rest installed => ?_, fun x => ⟨line.trans (h.still x).1, fun q on =>
    ⟨(posts on).1.trans ((h.still x).2 q on).1, (posts on).2.trans ((h.still x).2 q on).2⟩⟩⟩
  obtain ⟨x, woken, post, retry, remaining, began, entries⟩ := h.wakes off none p rest installed
  refine ⟨x, line.trans woken, post, retry, remaining, began, fun q hq => (posts ?_).1.trans (entries q hq)⟩
  rw [← installed] at hq
  exact (mem_installedPosts.mp hq).1

theorem now_of_world {s t : State} (h : HostSame s t) : t.now = s.now := by
  unfold State.now
  rw [h.world.runCounter]

theorem wakesAs_wakeLines (s : State) (l : Line) : WakesAs l s ((s.wakeLine .a).wakeLine .b) := by
  have first := wakes_wakeLine s .a
  have second := wakes_wakeLine (s.wakeLine .a) .b
  have host : HostSame s (s.wakeLine .a) := LineKit.host.wakeLine s .a
  cases l with
  | a => exact .before_other (by nofun) first.as second
  | b => exact .after_other (by nofun) first host.world.config (now_of_world host) second.as

/-- Where no line can wake, lines, entries and outputs are all that can differ. -/
theorem quiet_wakeLines {s : State} (empty : ∀ l, (s.line l).state = .off → (s.line l).settings.installed = 0) :
    (s.wakeLine .a).wakeLine .b = { s with
      lineA := ((s.wakeLine .a).wakeLine .b).lineA, lineB := ((s.wakeLine .a).wakeLine .b).lineB
      posts := ((s.wakeLine .a).wakeLine .b).posts, outputs := ((s.wakeLine .a).wakeLine .b).outputs } := by
  have first := wakes_wakeLine s .a
  have second := wakes_wakeLine (s.wakeLine .a) .b
  generalize s.wakeLine .a = t at *
  have quiet := second.quiet (by
    rw [first.other .b nofun]
    exact empty .b)
  generalize t.wakeLine .b = u at *
  rw [quiet, first.quiet (empty .a)]

/-! ## A finding table that takes effect (R156) -/

theorem config_settleActions (s : State) (p : Post) : (s.settleActions p).config = s.config :=
  State.of_framed (fun f => f.settleActions s p) State.config fun _ => rfl

/-- The actions of one record settled, a VACANT record left as it is (R156). -/
def State.settleRecord (s : State) (p : Post) : State := if (s.trailer p).state = .vacant then s else s.settleActions p

theorem settleTable_eq (s : State) : s.settleTable = s.forEach allPosts State.settleRecord := rfl

theorem otherPosts_settleRecord (s : State) (p : Post) : OtherPostsSame p s (s.settleRecord p) := by
  unfold State.settleRecord
  split
  · exact .refl p s
  · exact (FindingKit.others p).settleActions s rfl

theorem config_settleRecord (s : State) (p : Post) : (s.settleRecord p).config = s.config := by
  unfold State.settleRecord
  split
  · rfl
  · exact config_settleActions s p

/-- The record's state as the table is settled comes to it: what it holds there is what it held. -/
theorem settleTable_at (s : State) (p : Post) : ∃ w : State,
    (w.trailer p = s.trailer p ∧ w.inForce p = s.inForce p) ∧ w.config = s.config ∧
      s.settleTable.trailer p = (w.settleRecord p).trailer p ∧ s.settleTable.inForce p = (w.settleRecord p).inForce p :=
  forEach_at otherPosts_settleRecord config_settleRecord (List.nodup_finRange 240) (List.mem_finRange p) s

/-- What a new finding table leaves where no trailer has a run. -/
structure SettlesQuietly (s u : State) : Prop where
  records : u.records = s.records
  stack : u.stack = s.stack
  nextPush : u.nextPush = s.nextPush
  notices : SameNotices s u

theorem settlesQuietly_settleRecord {s : State} {p : Post} (idle : s.run p = none) : SettlesQuietly s (s.settleRecord p) := by
  unfold State.settleRecord
  split
  · exact ⟨rfl, rfl, rfl, rfl, rfl, rfl, rfl⟩
  · rw [(settlesIdle_settleActions idle).changes]
    exact ⟨rfl, rfl, rfl, rfl, rfl, rfl, rfl⟩

theorem settlesQuietly_settleTable {s : State} (idle : ∀ q, s.run q = none) : SettlesQuietly s s.settleTable := by
  rw [settleTable_eq]
  generalize allPosts = posts
  induction posts generalizing s with
  | nil => exact ⟨rfl, rfl, rfl, rfl, rfl, rfl, rfl⟩
  | cons p posts ih =>
    have first := settlesQuietly_settleRecord (idle p)
    have step : s.forEach (p :: posts) State.settleRecord = (s.settleRecord p).forEach posts State.settleRecord := rfl
    rw [step]
    generalize s.settleRecord p = t at *
    have rest := ih (s := t) fun q => by
      unfold State.run State.trailer
      rw [first.records]
      exact idle q
    obtain ⟨a, b, c, d⟩ := first.notices
    obtain ⟨a', b', c', d'⟩ := rest.notices
    exact ⟨rest.records.trans first.records, rest.stack.trans first.stack, rest.nextPush.trans first.nextPush,
      a'.trans a, b'.trans b, c'.trans c, d'.trans d⟩

/-! ## A profile that takes effect (R131) -/

/-- What the reset of the fuel fields leaves of a record. -/
structure ResetsFuel (t u : TrailerRecord) : Prop where
  fuel : u.fuel = .start
  senderFault : t.InOneSet .senderFault → u.stands .senderFault = false
  lowFuel : t.InOneSet .lowFuel → u.stands .lowFuel = false
  lossActive : u.activeOf .fuelLoss = t.activeOf .fuelLoss
  lossNoted : u.notedOf .fuelLoss = t.notedOf .fuelLoss
  f : u.f = t.f
  mask : u.mask = t.mask

theorem ResetsFuel.offRun {t u v : TrailerRecord} (h : ResetsFuel t u) (same : v.offRun = u.offRun) : ResetsFuel t v where
  fuel := (TrailerRecord.field_of_offRun same TrailerRecord.fuel fun _ => rfl).trans h.fuel
  senderFault one :=
    (TrailerRecord.field_of_offRun same (TrailerRecord.stands · .senderFault) fun _ => rfl).trans (h.senderFault one)
  lowFuel one := (TrailerRecord.field_of_offRun same (TrailerRecord.stands · .lowFuel) fun _ => rfl).trans (h.lowFuel one)
  lossActive := (TrailerRecord.field_of_offRun same (TrailerRecord.activeOf · .fuelLoss) fun _ => rfl).trans h.lossActive
  lossNoted := (TrailerRecord.field_of_offRun same (TrailerRecord.notedOf · .fuelLoss) fun _ => rfl).trans h.lossNoted
  f := (TrailerRecord.field_of_offRun same TrailerRecord.f fun _ => rfl).trans h.f
  mask := (TrailerRecord.field_of_offRun same TrailerRecord.mask fun _ => rfl).trans h.mask

theorem inOneSet_of_same {t u : TrailerRecord} {c : FindingClass} (active : u.activeOf c = t.activeOf c)
    (noted : u.notedOf c = t.notedOf c) (h : t.InOneSet c) : u.InOneSet c := by
  unfold TrailerRecord.InOneSet at *
  rw [active, noted]
  exact h

theorem stands_of_same {t u : TrailerRecord} {c : FindingClass} (active : u.activeOf c = t.activeOf c)
    (noted : u.notedOf c = t.notedOf c) : u.stands c = t.stands c := by
  unfold TrailerRecord.stands
  rw [active, noted]

theorem resetsFuel_resetFuel (s : State) (p : Post) : ResetsFuel (s.trailer p) ((s.resetFuel p).trailer p) := by
  have put {α : Type} (π : TrailerRecord → α) (hπ : ∀ t : TrailerRecord, π t.sealed = π t)
      (same : π { s.trailer p with fuel := .start } = π (s.trailer p)) :
      π ((s.putFuel p .start).trailer p) = π (s.trailer p) :=
    State.field_editTrailer s p _ π hπ same p
  have fuel : ((s.putFuel p .start).trailer p).fuel = .start :=
    State.field_editTrailer_self s p _ TrailerRecord.fuel fun _ => rfl
  unfold State.resetFuel
  generalize s.putFuel p .start = v at *
  have sender := clears_clearFinding v p .senderFault false
  generalize v.clearFinding p .senderFault false = w at *
  have low := clears_clearFinding w p .lowFuel false
  generalize w.clearFinding p .lowFuel false = u at *
  have rest := (low.rest p).trans (sender.rest p)
  have active (c : FindingClass) := put (TrailerRecord.activeOf · c) (fun _ => rfl) rfl
  have noted (c : FindingClass) := put (TrailerRecord.notedOf · c) (fun _ => rfl) rfl
  refine ⟨(TrailerRecord.field_of_rest rest TrailerRecord.fuel fun _ => rfl).trans fuel, fun one => ?_, fun one => ?_, ?_, ?_,
    (TrailerRecord.field_of_rest rest TrailerRecord.f fun _ => rfl).trans (put TrailerRecord.f (fun _ => rfl) rfl),
    (TrailerRecord.field_of_rest rest TrailerRecord.mask fun _ => rfl).trans (put TrailerRecord.mask (fun _ => rfl) rfl)⟩
  · exact (stands_of_same (low.activeOf_other (by nofun)) (low.notedOf_other (by nofun))).trans
      (sender.not_stands (inOneSet_of_same (active _) (noted _) one))
  · refine low.not_stands (inOneSet_of_same ((sender.activeOf_other (by nofun)).trans (active _))
      ((sender.notedOf_other (by nofun)).trans (noted _)) one)
  · exact (low.activeOf_other (by nofun)).trans ((sender.activeOf_other (by nofun)).trans (active _))
  · exact (low.notedOf_other (by nofun)).trans ((sender.notedOf_other (by nofun)).trans (noted _))

theorem resetsFuel_quietly (s : State) (p : Post) : ResetsFuel (s.trailer p) ((s.resetFuelQuietly p).trailer p) := by
  have gone {c : FindingClass} (h : c = .senderFault ∨ c = .lowFuel) {α : Type} (l : List α) (cls : α → FindingClass) :
      (l.filter fun a => decide (cls a ≠ .senderFault ∧ cls a ≠ .lowFuel)).find? (fun a => decide (cls a = c)) = none := by
    rw [List.find?_filter, List.find?_eq_none]
    rintro a - both
    simp only [ne_eq, Bool.decide_and, decide_not, Bool.and_eq_true, Bool.not_eq_eq_eq_not, Bool.not_true,
      decide_eq_false_iff_not, decide_eq_true_eq] at both
    obtain ⟨⟨sender, low⟩, is⟩ := both
    exact h.elim (fun e => sender (is.trans e)) fun e => low (is.trans e)
  have kept {α : Type} (l : List α) (cls : α → FindingClass) :
      (l.filter fun a => decide (cls a ≠ .senderFault ∧ cls a ≠ .lowFuel)).find? (fun a => decide (cls a = .fuelLoss))
        = l.find? fun a => decide (cls a = .fuelLoss) := by
    rw [List.find?_filter]
    refine congrArg (fun f => List.find? f l) (funext fun a => ?_)
    by_cases is : cls a = .fuelLoss <;> simp [is]
  have active : ((s.resetFuelQuietly p).trailer p).active
      = (s.trailer p).active.filter fun a => decide (a.cls ≠ .senderFault ∧ a.cls ≠ .lowFuel) :=
    State.field_editTrailer_self s p _ TrailerRecord.active fun _ => rfl
  have noted : ((s.resetFuelQuietly p).trailer p).noted
      = (s.trailer p).noted.filter fun a => decide (a.cls ≠ .senderFault ∧ a.cls ≠ .lowFuel) :=
    State.field_editTrailer_self s p _ TrailerRecord.noted fun _ => rfl
  have notStands {c : FindingClass} (h : c = .senderFault ∨ c = .lowFuel) :
      ((s.resetFuelQuietly p).trailer p).stands c = false := by
    unfold TrailerRecord.stands TrailerRecord.activeOf TrailerRecord.notedOf
    rw [active, noted, gone h _ ActiveFinding.cls, gone h _ NotedFinding.cls]
    rfl
  refine ⟨State.field_editTrailer_self s p _ TrailerRecord.fuel fun _ => rfl, fun _ => notStands (.inl rfl),
    fun _ => notStands (.inr rfl), ?_, ?_, State.field_editTrailer s p _ TrailerRecord.f (fun _ => rfl) rfl p,
    State.field_editTrailer s p _ TrailerRecord.mask (fun _ => rfl) rfl p⟩
  · unfold TrailerRecord.activeOf
    rw [active]
    exact kept _ ActiveFinding.cls
  · unfold TrailerRecord.notedOf
    rw [noted]
    exact kept _ NotedFinding.cls

/-! ## The contents, one by one -/

section
variable {s : State} {w : StoreWrite}

/-- Where a restart is pending only a profile's content does more than come into force. -/
theorem takeContent_of_stopped (stopped : s.running = false) {c : BlockContent} (h : ∀ i pr, c ≠ .profile i pr) :
    (s.writtenBy w).takeContent c = s.inForceWith w c := by
  have off : (s.writtenBy w).running = false := stopped
  unfold State.takeContent
  dsimp only
  cases c with
  | profile i pr => exact absurd rfl (h i pr)
  | defaults d h => rfl
  | lines a b | postMap m st | capacities k | findingTable tbl =>
    dsimp only
    rw [off]
    rfl

theorem takeContent_of_running (running : s.running = true) :
    (∀ a b, (s.writtenBy w).takeContent (.lines a b) = ((s.inForceWith w (.lines a b)).wakeLine .a).wakeLine .b) ∧
    (∀ m st, (s.writtenBy w).takeContent (.postMap m st) = (s.inForceWith w (.postMap m st)).remapRequests) ∧
    (∀ k, (s.writtenBy w).takeContent (.capacities k) = (s.inForceWith w (.capacities k)).walkFeeders) ∧
    ∀ tbl, (s.writtenBy w).takeContent (.findingTable tbl) = (s.inForceWith w (.findingTable tbl)).settleTable := by
  have on : (s.writtenBy w).running = true := running
  refine ⟨fun a b => ?_, fun m st => ?_, fun k => ?_, fun tbl => ?_⟩ <;>
  · unfold State.takeContent
    dsimp only
    rw [on]
    rfl

theorem takeContent_profile (i : ProfileId) (pr : Option Profile) : (s.writtenBy w).takeContent (.profile i pr)
    = (s.inForceWith w (.profile i pr)).profileWritten i (senderChanged (s.config.profiles.get i) pr) := rfl

theorem running_inForceWith (c : BlockContent) : (s.inForceWith w c).running = s.running := rfl

end

theorem mem_boundPosts {s : State} {i : ProfileId} {p : Post} : p ∈ s.boundPosts i ↔ (s.trailer p).profile = some i := by
  unfold State.boundPosts
  rw [List.mem_filter, decide_eq_true_eq]
  exact ⟨And.right, fun h => ⟨List.mem_finRange p, h⟩⟩

theorem otherPosts_resetFuel (s : State) (p : Post) : OtherPostsSame p s (s.resetFuel p) := by
  have put : OtherPostsSame p s (s.putFuel p .start) := OtherPostsSame.edit s p _
  unfold State.resetFuel
  generalize s.putFuel p .start = t at *
  have sender : OtherPostsSame p t (t.clearFinding p .senderFault false) :=
    (FindingKit.others p).clearFinding t rfl .senderFault false
  exact put.trans (sender.trans ((FindingKit.others p).clearFinding _ rfl .lowFuel false))

theorem config_resetFuel (s : State) (p : Post) : (s.resetFuel p).config = s.config :=
  have host : HostSame s (s.resetFuel p) := LineKit.host.resetFuel s p
  host.world.config

/-- A profile whose sender or curve changed resets the fuel of every record bound to it, whatever the phase (R131, R194). -/
theorem resetsFuel_profileWritten {s : State} {i : ProfileId} {p : Post} (bound : (s.trailer p).profile = some i) :
    ResetsFuel (s.trailer p) ((s.profileWritten i true).trailer p) := by
  have nodup : (s.boundPosts i).Nodup := (List.nodup_finRange 240).filter _
  have mem := mem_boundPosts.mpr bound
  unfold State.profileWritten
  rw [if_pos rfl]
  dsimp only
  split
  · obtain ⟨w, ⟨trailer, -⟩, -, result, -⟩ := forEach_at otherPosts_resetFuel config_resetFuel nodup mem s
    refine ResetsFuel.offRun (u := (s.forEach (s.boundPosts i) State.resetFuel).trailer p) ?_ ?_
    · rw [result, ← trailer]
      exact resetsFuel_resetFuel w p
    · refine State.forEach_same (fun u => (u.trailer p).offRun) _ _ State.walkForHours fun u q _ => ?_
      unfold State.walkForHours
      split
      · exact offRun_walk u _ p
      · rfl
  · obtain ⟨w, ⟨trailer, -⟩, -, result, -⟩ := forEach_at (f := State.resetFuelQuietly) (fun s p => OtherPostsSame.edit s p _)
      (fun s p => State.of_framed (fun f => f.editTrailer s p _) State.config fun _ => rfl) nodup mem s
    rw [result, ← trailer]
    exact resetsFuel_quietly w p

/-- While a restart is pending a profile's content changes records alone (R194). -/
theorem recordsAlone_profileWritten {s : State} (stopped : s.running = false) (i : ProfileId) (b : Bool) :
    s.profileWritten i b = { s with records := (s.profileWritten i b).records } := by
  unfold State.profileWritten
  split
  · dsimp only
    rw [stopped, if_neg Bool.false_ne_true]
    generalize s.boundPosts i = posts
    clear stopped
    induction posts generalizing s with
    | nil => rfl
    | cons p posts ih =>
      have first : s.resetFuelQuietly p = { s with records := (s.resetFuelQuietly p).records } := State.editTrailer_changes s p _
      have step : s.forEach (p :: posts) State.resetFuelQuietly
          = (s.resetFuelQuietly p).forEach posts State.resetFuelQuietly := rfl
      rw [step]
      generalize s.resetFuelQuietly p = t at *
      have rest := ih (s := t)
      generalize t.forEach posts State.resetFuelQuietly = u at *
      rw [rest, first]
  · rfl

end Sys2Proof.Machine


/-! # What completed content does, settled (R194) -/

namespace Sys2Proof.Machine

section
variable {s : State} (w : StoreWrite)

/-- What stands wherever content changes neither a record nor the arbiter. -/
structure StandsIdle (s u : State) : Prop where
  records : u.records = s.records
  queues : u.queues = s.queues
  committed : u.committed = s.committed
  actions : u.actions = s.actions
  stack : u.stack = s.stack
  directory : u.directory = s.directory

theorem standsIdle_inForceWith (s : State) (w : StoreWrite) (c : BlockContent) : StandsIdle s (s.inForceWith w c) :=
  ⟨rfl, rfl, rfl, rfl, rfl, rfl⟩

theorem lines_taken (running : s.running = true) (a b : LineSettings) (l : Line) :
    WakesAs l (s.inForceWith w (.lines a b)) ((s.writtenBy w).takeContent (.lines a b)) := by
  rw [(takeContent_of_running running).1]
  exact wakesAs_wakeLines _ l

theorem lines_taken_quiet (running : s.running = true) (a b : LineSettings)
    (empty : ∀ l, (s.line l).state = .off → (s.line l).settings.installed = 0) :
    StandsIdle s ((s.writtenBy w).takeContent (.lines a b)) := by
  have stands := standsIdle_inForceWith s w (.lines a b)
  have same (l : Line) : (s.inForceWith w (.lines a b)).line l = s.line l := by cases l <;> rfl
  rw [(takeContent_of_running running).1]
  generalize s.inForceWith w (.lines a b) = t at *
  rw [quiet_wakeLines fun l => by
    rw [same]
    exact empty l]
  exact ⟨stands.records, stands.queues, stands.committed, stands.actions, stands.stack, stands.directory⟩

theorem law_inForceWith (law : s.GrantLaw) (c : BlockContent) : (s.inForceWith w c).GrantLaw :=
  ⟨law.runEnrolled, law.requestEnrolled, law.onePerQueue, law.oneQueue, law.inOrder, law.committed⟩

theorem walked_of_capacity {s t : State} {q : Queue} {n : Option Nat} (feeder : q ≠ Queue.engineBay) (capacity : t.capacityOf q = n)
    (line : ∀ l, t.line l = s.line l) (entry : ∀ p, t.entry p = s.entry p) (queue : t.queue q = s.queue q)
    (load : t.load q = s.load q) :
    t.walked q = walkFrom n (fun x => (s.ineligible q x.post).isNone) (s.load q) [] (s.queue q) := by
  have ineligible (p : Post) : t.ineligible q p = s.ineligible q p := by
    have up : t.lineUp p = s.lineUp p := by
      unfold State.lineUp
      rw [line]
    unfold State.ineligible
    simp only [up, entry, feeder, false_and, if_false]
  unfold State.walked
  simp only [capacity, ineligible, queue, load]

theorem capacities_taken (running : s.running = true) (law : s.GrantLaw) (k : Vector Nat 8) (q : Queue) :
    (∀ f : Fin 8, q.val = f.val →
      let walked := walkFrom (some (k.get f)) (fun x => (s.ineligible q x.post).isNone) (s.load q) [] (s.queue q)
      ((s.writtenBy w).takeContent (.capacities k)).queue q = walked.2 ∧
      ((s.writtenBy w).takeContent (.capacities k)).load q = s.load q + (walked.1.map (·.load)).sum ∧
      ∀ x ∈ walked.1, ∃ y, ((s.writtenBy w).takeContent (.capacities k)).run x.post = some y ∧ y.cls = x.cls ∧
        y.load = x.load ∧ y.queue = q ∧ y.grantTime = s.now) ∧
    (q.val = 8 → ((s.writtenBy w).takeContent (.capacities k)).queue q = s.queue q ∧
      ((s.writtenBy w).takeContent (.capacities k)).load q = s.load q) := by
  have running' : (s.inForceWith w (.capacities k)).running = true := running
  have nodup : (allQueues.filter fun q => decide (q ≠ Queue.engineBay)).Nodup := (List.nodup_finRange 9).filter _
  have all := walksAll_forEach nodup running' (law_inForceWith w law (.capacities k))
  rw [(takeContent_of_running running).2.2.1]
  unfold State.walkFeeders
  have capacity (f : Fin 8) (hf : q.val = f.val) : (s.inForceWith w (.capacities k)).capacityOf q = some (k.get f) := by
    unfold State.capacityOf
    rw [dif_pos (hf ▸ f.isLt)]
    have same : (⟨q.val, hf ▸ f.isLt⟩ : Fin 8) = f := Fin.ext hf
    rw [same]
    rfl
  have queue : (s.inForceWith w (.capacities k)).queue q = s.queue q := rfl
  have load : (s.inForceWith w (.capacities k)).load q = s.load q := rfl
  have line (l : Line) : (s.inForceWith w (.capacities k)).line l = s.line l := by cases l <;> rfl
  have entry (p : Post) : (s.inForceWith w (.capacities k)).entry p = s.entry p := rfl
  have now : (s.inForceWith w (.capacities k)).now = s.now := rfl
  generalize s.inForceWith w (.capacities k) = t at *
  generalize t.forEach (allQueues.filter fun q => decide (q ≠ Queue.engineBay)) State.walk = v at *
  refine ⟨fun f hf => ?_, fun last => ?_⟩
  · have feeder : q ≠ Queue.engineBay := fun e => by
      have := f.isLt
      have val : q.val = 8 := congrArg Fin.val e
      omega
    have mem : q ∈ allQueues.filter fun q => decide (q ≠ Queue.engineBay) :=
      List.mem_filter.mpr ⟨mem_allQueues q, decide_eq_true feeder⟩
    have walked := walked_of_capacity feeder (capacity f hf) line entry queue load
    obtain ⟨left, sum⟩ := all.asWalked q mem feeder
    have grants := all.grants q mem feeder
    rw [walked, now] at grants
    rw [walked] at left
    rw [walked, load] at sum
    exact ⟨left, sum, grants⟩
  · have bay : q ∉ allQueues.filter fun q => decide (q ≠ Queue.engineBay) := fun m =>
      of_decide_eq_true (List.mem_filter.mp m).2 (Fin.ext last)
    exact ⟨(all.others q bay).1.trans queue, (all.others q bay).2.trans load⟩

theorem postMap_taken (running : s.running = true) (law : s.GrantLaw) (m : Vector Queue 240) (st : Vector Bool 240) :
    Remaps (s.inForceWith w (.postMap m st)) ((s.writtenBy w).takeContent (.postMap m st)) := by
  rw [(takeContent_of_running running).2.1]
  exact remaps_remapRequests running (law_inForceWith w law _)

/-- What a new finding table leaves at one post. -/
structure TakesTable (p : Post) (s u : State) : Prop where
  state : (u.trailer p).state = (s.trailer p).state
  vacant : (s.trailer p).state = .vacant → u.trailer p = s.trailer p ∧ u.inForce p = s.inForce p
  sets : (s.trailer p).state ≠ .vacant → s.run p = none →
    (u.trailer p).active = (s.trailer p).active ∧ (u.trailer p).noted = (s.trailer p).noted
  settled : (s.trailer p).state ≠ .vacant → ∀ a : Action, a ≠ .none → (u.inForce p).of a = s.settledCause p a ∨
    (s.settledCause p a = none ∧ (s.run p).isSome ∧ (s.tableEntry .defrostAborted).action = a)

theorem takesTable_settleRecord (s : State) (p : Post) : TakesTable p s (s.settleRecord p) := by
  unfold State.settleRecord
  split
  · rename_i vacant
    exact ⟨rfl, fun _ => ⟨rfl, rfl⟩, fun no => absurd vacant no, fun no => absurd vacant no⟩
  · rename_i some
    refine ⟨(Kit.identity.settleActions s trivial).state p, fun vacant => absurd vacant some, fun _ idle => ?_,
      fun _ a ha => inForce_settleActions s p ha⟩
    rw [(settlesIdle_settleActions idle).trailer p]
    exact ⟨rfl, rfl⟩

theorem takesTable_settleTable (s : State) (p : Post) : TakesTable p s s.settleTable := by
  obtain ⟨w, ⟨trailer, inForce⟩, config, trailer', inForce'⟩ := settleTable_at s p
  obtain ⟨state, vacant, sets, settled⟩ := takesTable_settleRecord w p
  have run : w.run p = s.run p := run_of_trailer trailer
  have cause (a : Action) : w.settledCause p a = s.settledCause p a :=
    settledCause_of_same (by rw [trailer]) config (by rw [inForce])
  have table : w.tableEntry .defrostAborted = s.tableEntry .defrostAborted := by
    unfold State.tableEntry
    rw [config]
  rw [trailer] at state vacant sets settled
  rw [inForce] at vacant
  simp only [run, cause, table] at sets settled
  refine ⟨?_, ?_, ?_, ?_⟩
  · rw [trailer', state]
  · rw [trailer', inForce']
    exact vacant
  · rw [trailer']
    exact sets
  · rw [inForce']
    exact settled

theorem TakesTable.of_carrier {p : Post} {s u : State} (h : TakesTable p s u) (here : (s.trailer p).state ≠ .vacant)
    {a : Action} (ha : a ≠ .none) :
    (s.carrier p a = none → (s.run p = none ∨ (s.tableEntry .defrostAborted).action ≠ a) → (u.inForce p).of a = none) ∧
    ∀ x, s.carrier p a = some x →
      (((s.inForce p).of a).isSome → (u.inForce p).of a = (s.inForce p).of a) ∧
      ((s.inForce p).of a = none → (u.inForce p).of a = some (x.push.getD 0)) := by
  refine ⟨fun none quiet => ?_, fun x carrier => ?_⟩
  · have cause : s.settledCause p a = .none := by
      unfold State.settledCause
      rw [none]
    obtain same | ⟨-, run, action⟩ := h.settled here a ha
    · exact same.trans cause
    · obtain idle | other := quiet
      · rw [idle] at run
        cases run
      · exact absurd action other
  · have cause := settledCause_of_carrier carrier
    have same : (u.inForce p).of a = s.settledCause p a := (h.settled here a ha).resolve_right fun ⟨gone, _⟩ => by
      rw [cause] at gone
      split at gone
      · rename_i on
        rw [gone] at on
        cases on
      · cases gone
    rw [cause] at same
    refine ⟨fun on => ?_, fun off => ?_⟩
    · rw [same, if_pos on]
    · rw [same, if_neg (by rw [off]; exact Bool.false_ne_true)]

theorem findingTable_taken (running : s.running = true) (tbl : Vector TableEntry 16) :
    (s.writtenBy w).takeContent (.findingTable tbl) = (s.inForceWith w (.findingTable tbl)).settleTable :=
  (takeContent_of_running running).2.2.2 tbl

theorem senderChanged_iff {old new : Profile} :
    senderChanged (some old) (some new) = true ↔ old.sender ≠ new.sender ∨ old.curve ≠ new.curve := by
  unfold senderChanged
  simp only [Bool.or_eq_true, decide_eq_true_eq]

theorem profile_taken {i : ProfileId} {pr old : Profile} (held : s.config.profiles.get i = some old)
    (changed : old.sender ≠ pr.sender ∨ old.curve ≠ pr.curve) {p : Post} (bound : (s.trailer p).profile = some i) :
    ResetsFuel (s.trailer p) (((s.writtenBy w).takeContent (.profile i (some pr))).trailer p) := by
  rw [takeContent_profile, held, senderChanged_iff.mpr changed]
  exact resetsFuel_profileWritten (s := s.inForceWith w (.profile i (some pr))) bound

theorem profile_taken_same {i : ProfileId} {pr old : Profile} (held : s.config.profiles.get i = some old)
    (same : ¬ (old.sender ≠ pr.sender ∨ old.curve ≠ pr.curve)) :
    StandsIdle s ((s.writtenBy w).takeContent (.profile i (some pr))) := by
  rw [takeContent_profile, held, Bool.eq_false_iff.mpr fun h => same (senderChanged_iff.mp h)]
  exact standsIdle_inForceWith s w _

/-- What a flush that waits lets a content change. -/
structure StandsStill (s u : State) : Prop where
  stations : u.stations = s.stations
  lineA : u.lineA = s.lineA
  lineB : u.lineB = s.lineB
  queues : u.queues = s.queues
  committed : u.committed = s.committed
  actions : u.actions = s.actions
  stack : u.stack = s.stack

theorem standsStill_taken (stopped : s.running = false) (c : BlockContent) :
    StandsStill s ((s.writtenBy w).takeContent c) := by
  have rest (h : ∀ i pr, c ≠ .profile i pr) : StandsStill s ((s.writtenBy w).takeContent c) := by
    rw [takeContent_of_stopped stopped h]
    exact ⟨rfl, rfl, rfl, rfl, rfl, rfl, rfl⟩
  cases c with
  | profile i pr =>
    have records := recordsAlone_profileWritten (s := s.inForceWith w (.profile i pr)) stopped i
      (senderChanged (s.config.profiles.get i) pr)
    rw [takeContent_profile, records]
    exact ⟨rfl, rfl, rfl, rfl, rfl, rfl, rfl⟩
  | lines a b | postMap m st | capacities k | findingTable tbl | defaults d h => exact rest nofun

theorem standsIdle_of_stopped (stopped : s.running = false) {c : BlockContent} (h : ∀ i pr, c ≠ .profile i pr) :
    StandsIdle s ((s.writtenBy w).takeContent c) := by
  rw [takeContent_of_stopped stopped h]
  exact standsIdle_inForceWith s w c

theorem config_takeContent (c : BlockContent) : ((s.writtenBy w).takeContent c).config = s.config.put c :=
  (hostSame_takeContent (s.writtenBy w) c).world.config

end

theorem stopped_of_waiting {s : State} (h : s.phase = .flushWaiting) : s.running = false := by
  unfold State.running
  rw [h]
  rfl

/-- Settles O49, content by content: the flush that can follow changes none of what is said here. -/
theorem completedContentTakesEffect : Obligations.CompletedContentTakesEffect := by
  intro s w c hw read
  have done := completes_completeWrite hw read
  have config := config_takeContent (s := s) w c
  refine ⟨s.completeWrite, exec_of_effect (i := .storeWriteComplete) rfl, ?_⟩
  generalize s.completeWrite = u at *
  obtain ⟨changes⟩ := done
  generalize u.rebuilds = rebuilds, u.heldCauses = causes, u.restartRecord = record, u.phase = phase at changes
  subst changes
  have idle {v : State} (h : StandsIdle s v) : v.records = s.records ∧ v.queues = s.queues ∧ v.committed = s.committed ∧
      v.actions = s.actions ∧ v.stack = s.stack ∧ v.directory = s.directory :=
    ⟨h.records, h.queues, h.committed, h.actions, h.stack, h.directory⟩
  refine ⟨config, fun running a b is => ⟨fun empty => ?_, fun l => ?_⟩, fun running law k is q => ?_,
    fun running law m st is => ?_, fun running tbl is p => ?_, fun i pr is => ⟨fun p bound changed _ => ?_, fun old held same => ?_⟩,
    fun d h is => ?_, fun waits => ?_⟩
  · subst is
    have stands := idle (lines_taken_quiet w (running_of_phase running) a b empty)
    exact stands
  · subst is
    have as := lines_taken w (running_of_phase running) a b l
    have same : (s.inForceWith w (.lines a b)).line l = s.line l := by cases l <;> rfl
    have settings : (s.inForceWith w (.lines a b)).lineConfig l = ((s.writtenBy w).takeContent (.lines a b)).lineConfig l :=
      lineConfig_of_config config.symm l
    have entry (q : Post) : (s.inForceWith w (.lines a b)).entry q = s.entry q := rfl
    have output (q : Post) : (s.inForceWith w (.lines a b)).output q = s.output q := rfl
    have now : (s.inForceWith w (.lines a b)).now = s.now := rfl
    obtain ⟨wakes, still⟩ := as
    rw [same, settings, now] at wakes
    simp only [same, settings, entry, output] at still
    clear config
    generalize (s.writtenBy w).takeContent (.lines a b) = v at *
    exact ⟨wakes, still⟩
  · subst is
    exact capacities_taken w (running_of_phase running) law k q
  · subst is
    obtain ⟨stands, others, runs⟩ := postMap_taken w (running_of_phase running) law m st
    exact ⟨stands, others, runs⟩
  · subst is
    have table := takesTable_settleTable (s.inForceWith w (.findingTable tbl)) p
    have quiet (idle : ∀ q, s.run q = none) := settlesQuietly_settleTable (s := s.inForceWith w (.findingTable tbl)) idle
    rw [findingTable_taken w (running_of_phase running)] at config ⊢
    have entry (x : FindingClass) : ((s.inForceWith w (.findingTable tbl)).settleTable).tableEntry x
        = (s.inForceWith w (.findingTable tbl)).tableEntry x := by
      unfold State.tableEntry
      rw [config]
      rfl
    have trailer : (s.inForceWith w (.findingTable tbl)).trailer p = s.trailer p := rfl
    have inForce : (s.inForceWith w (.findingTable tbl)).inForce p = s.inForce p := rfl
    have run : (s.inForceWith w (.findingTable tbl)).run p = s.run p := rfl
    have carried {a : Action} (here : (s.trailer p).state ≠ .vacant) (ha : a ≠ .none) := table.of_carrier here ha
    unfold State.carrier at carried
    obtain ⟨state, vacant, sets, -⟩ := table
    simp only [trailer, inForce, run, ← entry] at state vacant sets carried
    generalize (s.inForceWith w (.findingTable tbl)).settleTable = v at *
    refine ⟨state, sets, fun here a ha => carried here ha, vacant, fun idle => ?_⟩
    obtain ⟨-, stack, push, stations, notices, lost, tx⟩ := quiet idle
    exact ⟨stack, push, stations, notices, lost, tx⟩
  · subst is
    obtain ⟨old, held, changed⟩ := changed
    obtain ⟨fuel, sender, low, active, noted, f, mask⟩ := profile_taken w held changed bound
    exact ⟨fuel, sender, low, active, noted, f, mask⟩
  · subst is
    have stands := idle (profile_taken_same w held fun x => same ⟨old, held, x⟩)
    exact stands
  · subst is
    have stands := idle (standsIdle_inForceWith s w (.defaults d h))
    exact stands
  · have stopped := stopped_of_waiting waits
    obtain ⟨stations, lineA, lineB, queues, committed, actions, stack⟩ := standsStill_taken w stopped c
    refine ⟨stations, lineA, lineB, queues, committed, actions, stack, fun other => ?_⟩
    have stands := idle (standsIdle_of_stopped w stopped other)
    exact stands

end Sys2Proof.Machine


/-! # What findings leave of a record (R147 to R151) -/

namespace Sys2Proof.Machine

/-! ## A record beside its run and its sets -/

/-- What an evaluation reads beside the records stands. -/
structure SameReads (s t : State) : Prop where
  config : t.config = s.config
  weather : t.weather = s.weather
  phase : t.phase = s.phase
  now : t.now = s.now

theorem SameReads.refl (s : State) : SameReads s s := ⟨rfl, rfl, rfl, rfl⟩

theorem SameReads.trans {s t u : State} (h : SameReads s t) (k : SameReads t u) : SameReads s u :=
  ⟨k.config.trans h.config, k.weather.trans h.weather, k.phase.trans h.phase, k.now.trans h.now⟩

theorem SameReads.of_framed {s t : State} (h : ∀ f : Framed, f.rel t s) : SameReads s t :=
  ⟨State.of_framed h State.config fun _ => rfl, State.of_framed h State.weather fun _ => rfl,
    State.of_framed h State.phase fun _ => rfl, State.of_framed h State.now fun _ => rfl⟩

/-- The record at a post is as given beside its run and its two sets, the sets differ in some classes alone, and every other
record differs in its run alone. -/
structure Leaves (p : Post) (cs : List FindingClass) (x : TrailerRecord) (s t : State) : Prop where
  rest : (t.trailer p).rest = x.rest
  active : ∀ c, c ∉ cs → (t.trailer p).activeOf c = (s.trailer p).activeOf c
  noted : ∀ c, c ∉ cs → (t.trailer p).notedOf c = (s.trailer p).notedOf c
  others : ∀ q, q ≠ p → (t.trailer q).offRun = (s.trailer q).offRun
  reads : SameReads s t
  directory : t.directory = s.directory

namespace Leaves

variable {p : Post} {cs ds : List FindingClass} {x y : TrailerRecord} {s t u : State}

theorem refl (p : Post) (s : State) : Leaves p [] (s.trailer p) s s :=
  ⟨rfl, fun _ _ => rfl, fun _ _ => rfl, fun _ _ => rfl, SameReads.refl s, rfl⟩

theorem trans (h : Leaves p cs x s t) (k : Leaves p ds y t u) : Leaves p (cs ++ ds) y s u where
  rest := k.rest
  active c hc := by
    obtain ⟨first, second⟩ := not_or.mp (mt List.mem_append.mpr hc)
    exact (k.active c second).trans (h.active c first)
  noted c hc := by
    obtain ⟨first, second⟩ := not_or.mp (mt List.mem_append.mpr hc)
    exact (k.noted c second).trans (h.noted c first)
  others q hq := (k.others q hq).trans (h.others q hq)
  reads := h.reads.trans k.reads
  directory := k.directory.trans h.directory

/-- The record as given can be named otherwise. -/
theorem as (h : Leaves p cs x s t) (same : x.rest = y.rest) : Leaves p cs y s t :=
  ⟨h.rest.trans same, h.active, h.noted, h.others, h.reads, h.directory⟩

/-- A step that leaves the record beside run and sets. -/
theorem calm (h : Leaves p cs x s t) (k : Leaves p ds (t.trailer p) t u) : Leaves p (cs ++ ds) x s u :=
  (h.trans k).as h.rest

/-- A step that makes of the record what a function of the record beside run and sets says. -/
theorem step (h : Leaves p cs x s t) {f : TrailerRecord → TrailerRecord} (k : Leaves p ds (f (t.trailer p)) t u)
    (hf : ∀ r, (f r).rest = (f r.rest).rest) : Leaves p (cs ++ ds) (f x) s u :=
  (h.trans k).as (by rw [hf, h.rest, ← hf])

theorem mono (h : Leaves p cs x s t) (sub : ∀ c ∈ cs, c ∈ ds) : Leaves p ds x s t :=
  ⟨h.rest, fun c hc => h.active c fun m => hc (sub c m), fun c hc => h.noted c fun m => hc (sub c m), h.others, h.reads,
    h.directory⟩

theorem field (h : Leaves p cs x s t) {α : Type} (π : TrailerRecord → α) (hπ : ∀ x, π x.rest = π x) : π (t.trailer p) = π x :=
  TrailerRecord.field_of_rest h.rest π hπ

theorem stands (h : Leaves p cs x s t) {c : FindingClass} (hc : c ∉ cs) : (t.trailer p).stands c = (s.trailer p).stands c :=
  stands_of_same (h.active c hc) (h.noted c hc)

theorem inOneSet (h : Leaves p cs x s t) {c : FindingClass} (hc : c ∉ cs) (one : (s.trailer p).InOneSet c) :
    (t.trailer p).InOneSet c := inOneSet_of_same (h.active c hc) (h.noted c hc) one

theorem detailOf (h : Leaves p cs x s t) {c : FindingClass} (hc : c ∉ cs) :
    (t.trailer p).detailOf c = (s.trailer p).detailOf c := by
  unfold TrailerRecord.detailOf
  rw [h.active c hc, h.noted c hc]

theorem now (h : Leaves p cs x s t) : t.now = s.now := h.reads.now

theorem running (h : Leaves p cs x s t) : t.running = s.running := by
  unfold State.running
  rw [h.reads.phase]

theorem config (h : Leaves p cs x s t) : t.config = s.config := h.reads.config

theorem weather (h : Leaves p cs x s t) : t.weather = s.weather := h.reads.weather

theorem profileOf (h : Leaves p cs x s t) (y : TrailerRecord) : t.profileOf y = s.profileOf y := by
  unfold State.profileOf
  rw [h.config]

end Leaves

/-- A record that keeps everything beside its run. -/
theorem leaves_of_offRun {p : Post} {s t : State} (record : ∀ q, (t.trailer q).offRun = (s.trailer q).offRun)
    (reads : SameReads s t) (directory : t.directory = s.directory) : Leaves p [] (s.trailer p) s t where
  rest := TrailerRecord.field_of_offRun (record p) TrailerRecord.rest fun _ => rfl
  active c _ := TrailerRecord.field_of_offRun (record p) (TrailerRecord.activeOf · c) fun _ => rfl
  noted c _ := TrailerRecord.field_of_offRun (record p) (TrailerRecord.notedOf · c) fun _ => rfl
  others q _ := record q
  reads := reads
  directory := directory

/-- An edit that leaves both sets. -/
theorem leaves_edit (s : State) (p : Post) (f : TrailerRecord → TrailerRecord)
    (active : (f (s.trailer p)).active = (s.trailer p).active) (noted : (f (s.trailer p)).noted = (s.trailer p).noted) :
    Leaves p [] (f (s.trailer p)) s (s.editTrailer p f) where
  rest := State.field_editTrailer_self s p f TrailerRecord.rest fun _ => rfl
  active c _ := (State.field_editTrailer_self s p f (TrailerRecord.activeOf · c) fun _ => rfl).trans (by
    unfold TrailerRecord.activeOf
    rw [active])
  noted c _ := (State.field_editTrailer_self s p f (TrailerRecord.notedOf · c) fun _ => rfl).trans (by
    unfold TrailerRecord.notedOf
    rw [noted])
  others q hq := by rw [State.trailer_editTrailer_other _ _ _ _ hq]
  reads := .of_framed fun k => k.editTrailer s p f
  directory := State.editTrailer_directory s p f

/-- An edit after such a step, of what stands beside run and sets. -/
theorem Leaves.edit {p : Post} {cs : List FindingClass} {x : TrailerRecord} {s t : State} (h : Leaves p cs x s t)
    (f : TrailerRecord → TrailerRecord) (rest : ∀ r, (f r).rest = (f r.rest).rest) (active : ∀ r, (f r).active = r.active)
    (noted : ∀ r, (f r).noted = r.noted) : Leaves p cs (f x) s (t.editTrailer p f) := by
  have edited := h.trans (leaves_edit t p f (active _) (noted _))
  rw [List.append_nil] at edited
  exact edited.as (by rw [rest, h.rest, ← rest])

theorem leaves_of_records {p : Post} {s t : State} (records : t.records = s.records) (reads : SameReads s t)
    (directory : t.directory = s.directory) : Leaves p [] (s.trailer p) s t :=
  leaves_of_offRun (fun q => by
    unfold State.trailer
    rw [records]) reads directory

theorem leaves_item (s : State) (p q : Post) (b : ItemBody) : Leaves p [] (s.trailer p) s (s.item q b) :=
  leaves_of_records (s.item_records q b) (.of_framed fun f => f.item s q b) (s.item_directory q b)

/-- A class that comes to stand, noted or active, leaves the other classes. -/
theorem leaves_noting (s : State) (p : Post) (c : FindingClass) (d : Nat) :
    Leaves p [c] (s.trailer p) s (s.editTrailer p fun t => t.noting c d) where
  rest := State.field_editTrailer_self s p _ TrailerRecord.rest fun _ => rfl
  active k _ := State.field_editTrailer_self s p _ (TrailerRecord.activeOf · k) fun _ => rfl
  noted k hk := (State.field_editTrailer_self s p _ (TrailerRecord.notedOf · k) fun _ => rfl).trans
    (find_joinNoted_other fun e => hk (List.mem_singleton.mpr e))
  others q hq := by rw [State.trailer_editTrailer_other _ _ _ _ hq]
  reads := .of_framed fun k => k.editTrailer s p _
  directory := State.editTrailer_directory s p _

theorem leaves_raising (s : State) (p : Post) (c : FindingClass) (d k : Nat) :
    Leaves p [c] (s.trailer p) s (s.pushed p c d k) where
  rest := State.field_editTrailer_self (s.pushFrame p c d k) p _ TrailerRecord.rest fun _ => rfl
  active x hx := (State.field_editTrailer_self (s.pushFrame p c d k) p _ (TrailerRecord.activeOf · x) fun _ => rfl).trans
    (TrailerRecord.activeOf_raising_other fun e => hx (List.mem_singleton.mpr e))
  noted x _ := State.field_editTrailer_self (s.pushFrame p c d k) p _ (TrailerRecord.notedOf · x) fun _ => rfl
  others q hq := by
    unfold State.pushed
    rw [State.trailer_editTrailer_other _ _ _ _ hq]
    rfl
  reads := .of_framed fun f => (f.editTrailer _ p _).trans (f.pushFrame s p c d k)
  directory := State.editTrailer_directory (s.pushFrame p c d k) p _

section
variable (s : State) (p : Post)

theorem leaves_activate (a : Action) (k : Nat) : Leaves p [] (s.trailer p) s (s.activate p a k) :=
  leaves_of_records (by rw [State.activate_changes]) (.of_framed fun f => f.activate s p a k) (by rw [State.activate_changes])

theorem leaves_putRun (r : Option RunRecord) : Leaves p [] (s.trailer p) s (s.putRun p r) :=
  leaves_of_offRun (fun q => offRun_putRun s p q r) (.of_framed fun f => f.putRun s p r) (State.editTrailer_directory s p _)

theorem leaves_causeJoins (c : SuspCause) (n : Nat) : Leaves p [] (s.trailer p) s (s.causeJoins p c n) :=
  leaves_of_offRun (fun q => offRun_causeJoins s p q c n) (.of_framed fun f => f.causeJoins s p c n) (by
    rw [State.causeJoins_changes])

theorem leaves_causeLeaves (c : SuspCause) : Leaves p [] (s.trailer p) s (s.causeLeaves p c) :=
  leaves_of_offRun (fun q => offRun_causeLeaves s p q c) (.of_framed fun f => f.causeLeaves s p c) (by
    rw [State.causeLeaves_changes])

theorem leaves_relink (n : Option Nat) : Leaves p [] (s.trailer p) s (s.relink p n) := by
  unfold State.relink
  split
  · exact leaves_putRun s p _
  · exact .refl p s

theorem leaves_removeRequest : Leaves p [] (s.trailer p) s (s.removeRequest p) :=
  leaves_of_records (s.removeRequest_records p) (.of_framed fun f => f.removeRequest s p) (by rw [removeRequest_changes])

theorem leaves_produceEnding (c : FindingClass) (d k : Nat) : Leaves p [c] (s.trailer p) s (s.produceEnding p c d k).1 := by
  unfold State.produceEnding
  by_cases drops : s.running = false ∨ (s.trailer p).stands c = true
  · rw [produceWith_of_drops _ _ _ drops]
    exact (Leaves.refl p s).mono nofun
  · obtain ⟨running, free⟩ := not_or.mp drops
    have running := Bool.not_eq_false _ ▸ running
    have free := Bool.eq_false_iff.mpr free
    by_cases mask : (s.trailer p).mask.getLsbD c.num = true ∨ c = .custodyBreak
    · rw [produceWith_of_raises _ _ _ running free mask]
      dsimp only
      rw [raiseFinding_eq]
      exact ((leaves_raising s p c d k).calm (leaves_activate _ p _ _)).calm (leaves_item _ p p _)
    · obtain ⟨clear, other⟩ := not_or.mp mask
      rw [produceWith_of_notes _ _ _ running free (Bool.eq_false_iff.mpr clear) other]
      exact (leaves_noting s p c d).calm (leaves_item _ p p _)

/-- The action's abort defers nothing: of the record only the run and the sets change (R105, R107). -/
theorem leaves_inhibited (k : Nat) : Leaves p [.defrostAborted] (s.trailer p) s (s.abortRun p .inhibit true k).1 := by
  unfold State.abortRun
  split
  · exact (Leaves.refl p s).mono nofun
  · rename_i r hr
    split
    · exact (Leaves.refl p s).mono nofun
    · have finding : RunOutcome.finding (.aborted .inhibit) true = some (.defrostAborted, 5) := rfl
      rw [enterEnding_of_run hr, finding]
      dsimp only
      have entered : Leaves p [] (s.trailer p) s (s.editTrailer p fun t => t.entering r s.now (.aborted .inhibit) true k) :=
        (leaves_edit s p (fun t => t.entering r s.now (.aborted .inhibit) true k) rfl rfl).as rfl
      exact (entered.calm (leaves_produceEnding _ p .defrostAborted 5 _)).calm (leaves_relink _ p _)

theorem leaves_applyAction (a : Action) (k : Nat) : Leaves p [.defrostAborted] (s.trailer p) s (s.applyAction p a k) := by
  have active := leaves_activate s p a k
  unfold State.applyAction
  split
  · exact (Leaves.refl p s).mono nofun
  · dsimp only
    split
    · exact active.mono nofun
    · exact active.mono nofun
    · exact (active.calm (leaves_removeRequest _ p)).calm (leaves_inhibited _ p k)
    · exact (active.calm (leaves_causeJoins _ p .cut k)).mono nofun

/-- A finding produced leaves the record beside its run and the sets of its class and of DEFROST-ABORTED (R150, R154). -/
theorem leaves_produce (c : FindingClass) (d k : Nat) : Leaves p [c, .defrostAborted] (s.trailer p) s (s.produce p c d k) := by
  obtain ⟨-, same⟩ | ⟨-, -, same⟩ | ⟨-, -, same⟩ := produce_cases s p c d k <;> rw [same]
  · exact (Leaves.refl p s).mono nofun
  · exact ((leaves_noting s p c d).calm (leaves_item _ p p _)).mono fun _ hx => List.mem_cons.mpr (.inl (List.mem_singleton.mp hx))
  · rw [raiseFinding_eq]
    exact ((leaves_raising s p c d k).calm (leaves_applyAction _ p _ _)).calm (leaves_item _ p p _)

/-- A finding cleared leaves the record beside its run and the sets of its class (R151). -/
theorem leaves_clearFinding (c : FindingClass) (b : Bool) : Leaves p [c] (s.trailer p) s (s.clearFinding p c b) where
  rest := (clears_clearFinding s p c b).rest p
  active _ hx := (clears_clearFinding s p c b).activeOf_other fun e => hx (List.mem_singleton.mpr e)
  noted _ hx := (clears_clearFinding s p c b).notedOf_other fun e => hx (List.mem_singleton.mpr e)
  others q hq := congrArg TrailerRecord.offRun ((FindingKit.others p).clearFinding s rfl c b q hq).1
  reads := .of_framed fun f => f.clearFinding s p c b
  directory := (clears_clearFinding s p c b).directory

theorem leaves_clearLinkLost (n : Nat) : Leaves p [.linkLost] (s.trailer p) s (s.clearLinkLost p n) := by
  unfold State.clearLinkLost
  split
  · split
    · exact leaves_clearFinding s p .linkLost false
    · exact (Leaves.refl p s).mono nofun
  · exact (Leaves.refl p s).mono nofun

theorem leaves_walk (q : Queue) : Leaves p [] (s.trailer p) s (s.walk q) := by
  refine leaves_of_offRun (offRun_walk s q) (.of_framed fun f => f.walk s q) ?_
  have alone := arbiterAlone_walk s q
  unfold ArbiterAlone at alone
  rw [alone]

end

end Sys2Proof.Machine


/-! # What an evaluation makes of temperatures, frost, fuel and door (chapters 3, 6 and 7) -/

namespace Sys2Proof.Machine

/-! ## Held temperatures and SENSOR (R51 to R53) -/

theorem heldAfter_holdTemperature (held : Option Int) (count : Nat) (reported : Option Int) (low high : Int) :
    heldAfter held count reported low high (holdTemperature held count reported low high).1
      (holdTemperature held count reported low high).2 := by
  unfold heldAfter holdTemperature
  cases reported with
  | none => exact ⟨nofun, fun _ => ⟨rfl, rfl⟩⟩
  | some v =>
    dsimp only
    refine ⟨fun w same low' high' => ?_, fun out => ?_⟩
    · cases same
      rw [if_pos ⟨low', high'⟩]
      exact ⟨rfl, rfl⟩
    · rw [if_neg fun inside => (out v rfl).elim (fun h => absurd inside.1 (not_le.mpr h)) fun h => absurd inside.2 (not_le.mpr h)]
      exact ⟨rfl, rfl⟩

/-- What the frost unit's sensors leave (R52, R53). -/
structure Senses (p : Post) (rep : StatusReport) (s t : State) : Prop where
  leaves : Leaves p [.sensor, .defrostAborted] ((s.trailer p).holdTemperatures rep) s t
  raises : sensorDetail (s.trailer p) ((s.trailer p).holdTemperatures rep) ≠ 0 → s.running = true →
    (t.trailer p).stands .sensor = true ∧ ((s.trailer p).stands .sensor = false →
      (t.trailer p).detailOf .sensor = some (sensorDetail (s.trailer p) ((s.trailer p).holdTemperatures rep)))
  clears : ((s.trailer p).holdTemperatures rep).trInvalid < 10 → ((s.trailer p).holdTemperatures rep).tcInvalid < 10 →
    (s.trailer p).InOneSet .sensor → (t.trailer p).stands .sensor = false
  stays : sensorDetail (s.trailer p) ((s.trailer p).holdTemperatures rep) = 0 →
    (10 ≤ ((s.trailer p).holdTemperatures rep).trInvalid ∨ 10 ≤ ((s.trailer p).holdTemperatures rep).tcInvalid) →
    (t.trailer p).activeOf .sensor = (s.trailer p).activeOf .sensor ∧
      (t.trailer p).notedOf .sensor = (s.trailer p).notedOf .sensor

theorem sensorDetail_of_low {before after : TrailerRecord} (tr : after.trInvalid < 10) (tc : after.tcInvalid < 10) :
    sensorDetail before after = 0 := by
  unfold sensorDetail
  rw [if_neg fun h => absurd h.1 tr.ne, if_neg fun h => absurd h.1 tc.ne]

theorem senses_frostSensors (s : State) (p : Post) (rep : StatusReport) : Senses p rep s (s.frostSensors p rep) := by
  have held : Leaves p [] ((s.trailer p).holdTemperatures rep) s (s.editTrailer p fun t => t.holdTemperatures rep) :=
    leaves_edit s p (fun t => t.holdTemperatures rep) rfl rfl
  unfold State.frostSensors
  dsimp only
  generalize (s.editTrailer p fun t => t.holdTemperatures rep) = u at *
  have stands := held.stands (c := .sensor) nofun
  split
  · rename_i reached
    have produced := (held.calm (leaves_produce u p .sensor (sensorDetail (s.trailer p) ((s.trailer p).holdTemperatures rep)) 0))
    refine ⟨produced, fun _ on => ⟨(stands_produce u p .sensor _ 0).2 (held.running.trans on), fun free => ?_⟩,
      fun tr tc => absurd (sensorDetail_of_low tr tc) reached, fun none => absurd none reached⟩
    exact detailOf_produce (held.running.trans on) (stands.trans free) _ 0
  · rename_i none
    have none := not_not.mp none
    split
    · rename_i low
      have cleared := held.calm (leaves_clearFinding u p .sensor false)
      refine ⟨cleared.mono (by simp), fun reached => absurd none reached, fun _ _ one => ?_, fun _ high => ?_⟩
      · exact (clears_clearFinding u p .sensor false).not_stands (held.inOneSet nofun one)
      · exact absurd high (not_or.mpr ⟨not_le.mpr low.1, not_le.mpr low.2⟩)
    · rename_i high
      exact ⟨held.mono nofun, fun reached => absurd none reached, fun tr tc => absurd ⟨tr, tc⟩ high,
        fun _ _ => ⟨held.active _ nofun, held.noted _ nofun⟩⟩

/-! ## The frost step (R49, R50) -/

theorem frosted_changes (s : State) (t : TrailerRecord) (rep : StatusReport) (before : AtArrival) :
    s.frosted t rep before = { t with f := (s.frosted t rep before).f, r := (s.frosted t rep before).r } := by
  unfold State.frosted
  split
  · rfl
  · unfold TrailerRecord.frostCase
    split
    · rfl
    · split_ifs <;> rfl

/-- The frost step reads the account, the held temperatures and the last evaluation time. -/
theorem frosted_of_same {s t : State} (now : t.now = s.now) (weather : t.weather = s.weather) (config : t.config = s.config)
    {x y : TrailerRecord} (lastEval : y.lastEval = x.lastEval) (tr : y.tr = x.tr) (tc : y.tc = x.tc) (f : y.f = x.f)
    (r : y.r = x.r) (rep : StatusReport) (before : AtArrival) :
    (t.frosted y rep before).f = (s.frosted x rep before).f ∧ (t.frosted y rep before).r = (s.frosted x rep before).r := by
  unfold State.frosted
  rw [lastEval, now, weather, config]
  split
  · exact ⟨f, r⟩
  · unfold TrailerRecord.frostCase
    rw [tc]
    split
    · exact ⟨f, r⟩
    · unfold TrailerRecord.accrue TrailerRecord.melt
      rw [tr]
      split_ifs <;> simp [f, r]

theorem leaves_frostStep (s : State) (p : Post) (rep : StatusReport) (before : AtArrival) :
    Leaves p [] { s.trailer p with
      f := (s.frosted (s.trailer p) rep before).f, r := (s.frosted (s.trailer p) rep before).r, lastEval := some s.now } s
      (s.frostStep p rep before) := by
  rw [frostStep_eq]
  have same := frosted_changes s (s.trailer p) rep before
  have record : ({ s.frosted (s.trailer p) rep before with lastEval := some s.now } : TrailerRecord) = { s.trailer p with
      f := (s.frosted (s.trailer p) rep before).f, r := (s.frosted (s.trailer p) rep before).r, lastEval := some s.now } := by
    rw [same]
  refine (leaves_edit s p (fun t => { s.frosted t rep before with lastEval := some s.now }) ?_ ?_).as (by rw [record])
  · rw [record]
  · rw [record]

/-! ## The door (R134 to R141) -/

/-- A declared custody is broken at an opening (R144). -/
def Custody.atOpening : Custody → Custody
  | .closed tag => .broken tag
  | c => c

theorem atOpening_of_undeclared {c : Custody} (h : ∀ tag, c ≠ .closed tag) : c.atOpening = c := by
  unfold Custody.atOpening
  split
  · exact absurd rfl (h _)
  · rfl

/-- The record as an opening makes it (R137). -/
def TrailerRecord.openedAt (t : TrailerRecord) (now : Time) (period : Int) : TrailerRecord :=
  { t with door := { t.door.marked now period with held := some .opened }, custody := t.custody.atOpening }

theorem leaves_breakCustody (s : State) (p : Post) :
    Leaves p [.custodyBreak, .defrostAborted] { s.trailer p with custody := (s.trailer p).custody.atOpening } s
      (s.breakCustody p) := by
  unfold State.breakCustody
  split
  · rename_i tag closed
    have broken := leaves_edit s p (fun t => { t with custody := .broken tag }) rfl rfl
    exact ((broken.calm (leaves_item _ p p _)).calm (leaves_produce _ p .custodyBreak _ 0)).as (by rw [closed]; rfl)
  all_goals
    rename_i other
    exact ((Leaves.refl p s).mono nofun).as (by rw [atOpening_of_undeclared (by rw [other]; nofun)])

theorem leaves_opening (s : State) (p : Post) :
    Leaves p [.custodyBreak, .defrostAborted] ((s.trailer p).openedAt s.now (periodOf s.now s.config.hp)) s (s.opening p) := by
  rw [opening_eq]
  have marked := leaves_edit s p (fun t => { t with door := t.door.marked s.now (periodOf s.now s.config.hp) }) rfl rfl
  generalize (s.editTrailer p fun t => { t with door := t.door.marked s.now (periodOf s.now s.config.hp) }) = u at *
  have broken := (marked.trans (leaves_breakCustody u p)).as (y := { s.trailer p with
      door := (s.trailer p).door.marked s.now (periodOf s.now s.config.hp), custody := (s.trailer p).custody.atOpening })
    (by
      have same : (u.trailer p).rest = _ := marked.rest
      have custody : (u.trailer p).custody = (s.trailer p).custody := marked.field TrailerRecord.custody fun _ => rfl
      rw [custody]
      exact congrArg (fun t : TrailerRecord => { t with custody := (s.trailer p).custody.atOpening }) same)
  exact broken.edit (fun t => { t with door := { t.door with held := some .opened } }) (fun _ => rfl) (fun _ => rfl) fun _ => rfl


theorem leaves_knownDoor (s : State) (p : Post) :
    Leaves p [.doorSensor] { s.trailer p with door := { (s.trailer p).door with unknownCount := 0 } } s (s.knownDoor p) := by
  unfold State.knownDoor State.editDoor
  exact (leaves_edit s p (fun t => { t with door := { t.door with unknownCount := 0 } }) rfl rfl).calm
    (leaves_clearFinding _ p .doorSensor false)

theorem leaves_closing (s : State) (p : Post) :
    Leaves p [.doorAjar] { s.trailer p with door := { (s.trailer p).door with
      held := some .closed, openingTime := none, ajarReported := false } } s (s.closing p) := by
  unfold State.closing State.editDoor
  exact (leaves_edit s p (fun t => { t with door := { t.door with
    held := some .closed, openingTime := none, ajarReported := false } }) rfl rfl).calm (leaves_clearFinding _ p .doorAjar false)

/-- The door fields after a report (R135 to R138). -/
def DoorGroup.after (d : DoorGroup) (rep : DoorReport) (now : Time) (period : Int) : DoorGroup :=
  match rep with
  | .unknown => { d with unknownCount := bump255 d.unknownCount }
  | .opened =>
    if d.held = some .opened then { d with unknownCount := 0 }
    else { ({ d with unknownCount := 0 } : DoorGroup).marked now period with held := some .opened }
  | .closed => { d with
      held := some .closed, unknownCount := 0
      openingTime := if d.held = some .opened then none else d.openingTime
      ajarReported := if d.held = some .opened then false else d.ajarReported }

/-- The change of the held state that a report makes (R136 to R138). -/
def DoorGroup.change (d : DoorGroup) (rep : DoorReport) : Option DoorChange :=
  match rep with
  | .unknown => none
  | .opened => if d.held = some .opened then none else some .joined
  | .closed => if d.held = some .opened then some .left else none

/-- The record as a door report leaves it beside run and sets. -/
def TrailerRecord.doorAfter (t : TrailerRecord) (rep : DoorReport) (now : Time) (period : Int) : TrailerRecord :=
  { t with
    door := t.door.after rep now period
    custody := if rep = .opened ∧ t.door.held ≠ some .opened then t.custody.atOpening else t.custody }

theorem doorAfter_of_already {t : TrailerRecord} (already : t.door.held = some .opened) (now : Time) (period : Int) :
    t.doorAfter .opened now period = { t with door := { t.door with unknownCount := 0 } } := by
  unfold TrailerRecord.doorAfter
  rw [if_neg fun h => h.2 already]
  exact congrArg (fun d => ({ t with door := d } : TrailerRecord)) (if_pos already)

theorem doorAfter_of_fresh {t : TrailerRecord} (fresh : t.door.held ≠ some .opened) (now : Time) (period : Int) :
    t.doorAfter .opened now period
      = ({ t with door := { t.door with unknownCount := 0 } } : TrailerRecord).openedAt now period := by
  unfold TrailerRecord.doorAfter
  rw [if_pos ⟨rfl, fresh⟩]
  exact congrArg (fun d => ({ t with door := d, custody := t.custody.atOpening } : TrailerRecord)) (if_neg fresh)

theorem doorAfter_closed (t : TrailerRecord) (now : Time) (period : Int) : t.doorAfter .closed now period =
    { t with door := { t.door with
        held := some .closed, unknownCount := 0
        openingTime := if t.door.held = some .opened then none else t.door.openingTime
        ajarReported := if t.door.held = some .opened then false else t.door.ajarReported } } := by
  unfold TrailerRecord.doorAfter
  rw [if_neg fun h => nomatch h.1]
  rfl

/-- What a door report leaves (R135 to R138). -/
structure Reports (p : Post) (rep : DoorReport) (s t : State) : Prop where
  leaves : Leaves p [.doorSensor, .custodyBreak, .doorAjar, .defrostAborted]
    ((s.trailer p).doorAfter rep s.now (periodOf s.now s.config.hp)) s t
  ninth : rep = .unknown → (s.trailer p).door.unknownCount = 9 → s.running = true →
    (t.trailer p).stands .doorSensor = true ∧ ((s.trailer p).stands .doorSensor = false →
      (t.trailer p).detailOf .doorSensor = some (heldDetail (s.trailer p).door.held))
  unknown : rep = .unknown → (s.trailer p).door.unknownCount ≠ 9 →
    (t.trailer p).activeOf .doorSensor = (s.trailer p).activeOf .doorSensor ∧
      (t.trailer p).notedOf .doorSensor = (s.trailer p).notedOf .doorSensor
  known : rep ≠ .unknown → (s.trailer p).InOneSet .doorSensor → (t.trailer p).stands .doorSensor = false
  breaks : rep = .opened → (s.trailer p).door.held ≠ some .opened → s.running = true →
    ∀ tag, (s.trailer p).custody = .closed tag → (t.trailer p).stands .custodyBreak = true
  shuts : rep = .closed → (s.trailer p).door.held = some .opened → (s.trailer p).InOneSet .doorAjar →
    (t.trailer p).stands .doorAjar = false

theorem reports_unknown (s : State) (p : Post) : Reports p .unknown s (s.doorReport p .unknown).1 := by
  have counted := leaves_edit s p (fun t => { t with door := { t.door with unknownCount := bump255 t.door.unknownCount } }) rfl rfl
  have eq : (s.doorReport p .unknown).1 = if (s.trailer p).door.unknownCount = 9
      then (s.editTrailer p fun t => { t with door := { t.door with unknownCount := bump255 t.door.unknownCount } }).produce p
        .doorSensor (heldDetail (s.trailer p).door.held) 0
      else s.editTrailer p fun t => { t with door := { t.door with unknownCount := bump255 t.door.unknownCount } } := rfl
  rw [eq]
  generalize (s.editTrailer p fun t => { t with door := { t.door with unknownCount := bump255 t.door.unknownCount } }) = u at *
  split
  · rename_i nine
    refine ⟨(counted.calm (leaves_produce u p .doorSensor _ 0)).mono (by simp), fun _ _ on => ⟨?_, fun free => ?_⟩,
      fun _ no => absurd nine no, fun no => absurd rfl no, nofun, nofun⟩
    · exact (stands_produce u p .doorSensor _ 0).2 (counted.running.trans on)
    · exact detailOf_produce (counted.running.trans on) ((counted.stands nofun).trans free) _ 0
  · rename_i other
    exact ⟨counted.mono nofun, fun _ nine => absurd nine other, fun _ _ => ⟨counted.active _ nofun, counted.noted _ nofun⟩,
      fun no => absurd rfl no, nofun, nofun⟩

theorem doorReport_opened (s : State) (p : Post) : s.doorReport p .opened =
    if ((s.knownDoor p).trailer p).door.held = some .opened then (s.knownDoor p, none)
    else ((s.knownDoor p).opening p, some .joined) := rfl

theorem knownDoor_clears (s : State) (p : Post) (one : (s.trailer p).InOneSet .doorSensor) :
    ((s.knownDoor p).trailer p).stands .doorSensor = false := by
  have counted := leaves_edit s p (fun t => { t with door := { t.door with unknownCount := 0 } }) rfl rfl
  exact (clears_clearFinding _ p .doorSensor false).not_stands (counted.inOneSet nofun one)

theorem reports_opened (s : State) (p : Post) : Reports p .opened s (s.doorReport p .opened).1 := by
  have known := leaves_knownDoor s p
  have door : ((s.knownDoor p).trailer p).door = { (s.trailer p).door with unknownCount := 0 } :=
    known.field TrailerRecord.door fun _ => rfl
  have custody : ((s.knownDoor p).trailer p).custody = (s.trailer p).custody := known.field TrailerRecord.custody fun _ => rfl
  have clears := knownDoor_clears s p
  rw [doorReport_opened]
  generalize s.knownDoor p = u at *
  split
  · rename_i already
    rw [door] at already
    refine ⟨(known.as ?_).mono (by simp), nofun, nofun, fun _ => clears, fun _ no => absurd already no, nofun⟩
    rw [doorAfter_of_already already]
  · rename_i fresh
    rw [door] at fresh
    have opened := opens_opening u p
    have leaves := leaves_opening u p
    rw [known.now, known.config] at leaves
    refine ⟨((known.step (f := fun t => t.openedAt s.now (periodOf s.now s.config.hp)) leaves fun _ => rfl).as ?_).mono (by simp),
      nofun, nofun, fun _ one => ?_, fun _ _ on tag closed => ?_, nofun⟩
    · rw [doorAfter_of_fresh fresh]
    · rw [leaves.stands (by decide)]
      exact clears one
    · exact (opened.declared tag (custody.trans closed)).2 (known.running.trans on)

theorem doorReport_closed (s : State) (p : Post) : (s.doorReport p .closed).1 =
    if ((s.knownDoor p).trailer p).door.held = some .closed then s.knownDoor p
    else if ((s.knownDoor p).trailer p).door.held = some .opened then (s.knownDoor p).closing p
    else (s.knownDoor p).editDoor p fun d => { d with held := some .closed } := by
  unfold State.doorReport
  dsimp only
  generalize s.knownDoor p = u
  split <;> rename_i held
  · rw [if_pos held]
  · rw [if_neg (by rw [held]; nofun), if_pos held]
  · rw [if_neg (by rw [held]; nofun), if_neg (by rw [held]; nofun)]

theorem reports_closed (s : State) (p : Post) : Reports p .closed s (s.doorReport p .closed).1 := by
  have known := leaves_knownDoor s p
  have door : ((s.knownDoor p).trailer p).door = { (s.trailer p).door with unknownCount := 0 } :=
    known.field TrailerRecord.door fun _ => rfl
  have clears := knownDoor_clears s p
  rw [doorReport_closed]
  generalize s.knownDoor p = u at *
  split
  · rename_i already
    rw [door] at already
    have shut : (s.trailer p).door.held ≠ some .opened := fun e => nomatch already.symm.trans e
    refine ⟨(known.as ?_).mono (by simp), nofun, nofun, fun _ => clears, nofun, fun _ e => absurd e shut⟩
    rw [doorAfter_closed, if_neg shut, if_neg shut]
    rw [← already]
  · split
    · rename_i opened
      rw [door] at opened
      have leaves := leaves_closing u p
      refine ⟨((known.step (f := fun t => { t with door := { t.door with
        held := some .closed, openingTime := none, ajarReported := false } }) leaves fun _ => rfl).as ?_).mono (by simp),
        nofun, nofun, fun _ one => ?_, nofun, fun _ _ one => ?_⟩
      · rw [doorAfter_closed, if_pos opened, if_pos opened]
      · rw [leaves.stands (by decide)]
        exact clears one
      · have edited := leaves_edit u p (fun t => { t with door := { t.door with
          held := some .closed, openingTime := none, ajarReported := false } }) rfl rfl
        exact (clears_clearFinding _ p .doorAjar false).not_stands
          (edited.inOneSet nofun (known.inOneSet (by decide) one))
    · rename_i _ unopened
      rw [door] at unopened
      refine ⟨((known.edit (fun t => { t with door := { t.door with held := some .closed } }) (fun _ => rfl) (fun _ => rfl)
        fun _ => rfl).as ?_).mono (by simp), nofun, nofun, fun _ one => ?_, nofun, fun _ e => absurd e unopened⟩
      · rw [doorAfter_closed, if_neg unopened, if_neg unopened]
      · exact (State.field_editTrailer u p (fun t => { t with door := { t.door with held := some .closed } })
          (TrailerRecord.stands · .doorSensor) (fun _ => rfl) rfl p).trans (clears one)

theorem reports_doorReport (s : State) (p : Post) (rep : DoorReport) : Reports p rep s (s.doorReport p rep).1 := by
  cases rep with
  | unknown => exact reports_unknown s p
  | opened => exact reports_opened s p
  | closed => exact reports_closed s p

theorem change_doorReport (s : State) (p : Post) (rep : DoorReport) :
    (s.doorReport p rep).2 = (s.trailer p).door.change rep := by
  have held : ((s.knownDoor p).trailer p).door.held = (s.trailer p).door.held := by
    rw [(leaves_knownDoor s p).field TrailerRecord.door fun _ => rfl]
  unfold State.doorReport DoorGroup.change
  cases rep with
  | unknown => rfl
  | opened =>
    dsimp only
    rw [held]
    split <;> rfl
  | closed =>
    dsimp only
    split <;> rename_i h <;> rw [held] at h <;> rw [h] <;> rfl

/-- What the ajar test leaves (R141). -/
structure TestsAjar (p : Post) (s t : State) : Prop where
  leaves : Leaves p [.doorAjar, .defrostAborted] { s.trailer p with
    door := { (s.trailer p).door with ajarReported := (t.trailer p).door.ajarReported } } s t
  due : ∀ pr o, s.profileOf (s.trailer p) = some pr → (s.trailer p).door.held = some .opened →
    (s.trailer p).door.openingTime = some o → (pr.ajar : Int) ≤ s.now - o → (t.trailer p).door.ajarReported = true ∧
      (s.running = true → (s.trailer p).door.ajarReported = false → (t.trailer p).stands .doorAjar = true)
  early : ∀ pr o, s.profileOf (s.trailer p) = some pr → (s.trailer p).door.held = some .opened →
    (s.trailer p).door.openingTime = some o → s.now - o < (pr.ajar : Int) →
      (t.trailer p).door.ajarReported = (s.trailer p).door.ajarReported
  shut : (s.trailer p).door.held ≠ some .opened → t = s

theorem testsAjar_of_due {s : State} {p : Post} {pr : Profile} {o : Time} (profile : s.profileOf (s.trailer p) = some pr)
    (held : (s.trailer p).door.held = some .opened) (openingTime : (s.trailer p).door.openingTime = some o) :
    s.ajarTest p = if (pr.ajar : Int) ≤ s.now - o ∧ !(s.trailer p).door.ajarReported then
      (s.produce p .doorAjar (min 65535 (s.now - o).toNat) 0).editDoor p fun d => { d with ajarReported := true }
    else s := by
  unfold State.ajarTest
  dsimp only
  rw [profile, held, openingTime]

theorem testsAjar_ajarTest (s : State) (p : Post) : TestsAjar p s (s.ajarTest p) := by
  have still (h : s.ajarTest p = s) (due : ∀ pr o, s.profileOf (s.trailer p) = some pr →
      (s.trailer p).door.held = some .opened → (s.trailer p).door.openingTime = some o → (pr.ajar : Int) ≤ s.now - o →
      (s.trailer p).door.ajarReported = true) : TestsAjar p s (s.ajarTest p) := by
    rw [h]
    exact ⟨((Leaves.refl p s).as rfl).mono nofun, fun pr o a b c d => ⟨due pr o a b c d, fun _ no => by
      rw [due pr o a b c d] at no
      cases no⟩, fun _ _ _ _ _ _ => rfl, fun _ => rfl⟩
  cases profile : s.profileOf (s.trailer p) with
  | none =>
    refine still ?_ fun pr o h => by rw [profile] at h; cases h
    unfold State.ajarTest
    dsimp only
    rw [profile]
  | some pr =>
    by_cases held : (s.trailer p).door.held = some .opened
    · cases openingTime : (s.trailer p).door.openingTime with
      | none =>
        refine still ?_ fun pr o _ _ h => by rw [openingTime] at h; cases h
        unfold State.ajarTest
        dsimp only
        rw [profile, held, openingTime]
      | some o =>
        by_cases due : (pr.ajar : Int) ≤ s.now - o ∧ (!(s.trailer p).door.ajarReported) = true
        · rw [testsAjar_of_due profile held openingTime, if_pos due]
          have produced := leaves_produce s p .doorAjar (min 65535 (s.now - o).toNat) 0
          have stands := (stands_produce s p .doorAjar (min 65535 (s.now - o).toNat) 0).2
          generalize s.produce p .doorAjar (min 65535 (s.now - o).toNat) 0 = u at *
          have reported : ((u.editDoor p fun d => { d with ajarReported := true }).trailer p).door.ajarReported = true :=
            State.field_editTrailer_self u p _ (fun t => t.door.ajarReported) fun _ => rfl
          refine ⟨(produced.edit (fun t => { t with door := { t.door with ajarReported := true } }) (fun _ => rfl)
            (fun _ => rfl) fun _ => rfl).as (by rw [reported]), fun _ _ _ _ _ _ => ⟨reported, fun on _ => ?_⟩,
            fun pr' o' a _ c late => ?_, fun no => absurd held no⟩
          · exact (State.field_editTrailer u p (fun t => { t with door := { t.door with ajarReported := true } })
              (TrailerRecord.stands · .doorAjar) (fun _ => rfl) rfl p).trans (stands on)
          · cases profile.symm.trans a
            cases openingTime.symm.trans c
            exact absurd late (not_lt.mpr due.1)
        · refine still ?_ fun pr' o' a _ c late => ?_
          · rw [testsAjar_of_due profile held openingTime, if_neg due]
          · cases profile.symm.trans a
            cases openingTime.symm.trans c
            by_contra no
            exact due ⟨late, by rw [Bool.eq_false_iff.mpr no]; rfl⟩
    · refine still ?_ fun _ _ _ h => absurd h held
      unfold State.ajarTest
      dsimp only
      split
      · exact absurd ‹_› held
      · rfl

end Sys2Proof.Machine


/-! # What an evaluation makes of the fuel account (R114 to R128) -/

namespace Sys2Proof.Machine

/-- The account after a reading, and the FUEL-LOSS detail where the window it closes calls for one (R116 to R126). -/
def FuelAccount.reads (a : FuelAccount) (now : Time) (pr : Profile) (raw : Nat) : FuelAccount × Option Nat :=
  if rawValid raw then
    if (a.take now (convert pr.curve raw) pr.refuel).2.isSome then ((a.take now (convert pr.curve raw) pr.refuel).1, none)
    else ((a.take now (convert pr.curve raw) pr.refuel).1.openWindow now).closeWindow now pr
  else ({ a with invalidCount := bump255 a.invalidCount }, none)

/-- The account after an audit: the marks, the reading and H recomputed (R114, R123, R127). -/
def FuelAccount.audited (a : FuelAccount) (now : Time) (pr : Profile) (raw : Nat) (heating engine : Bool) : FuelAccount :=
  ((a.mark heating engine).reads now pr raw).1.recompute

theorem leaves_putFuel (s : State) (p : Post) (a : FuelAccount) :
    Leaves p [] { s.trailer p with fuel := a } s (s.putFuel p a) := leaves_edit s p (fun t => { t with fuel := a }) rfl rfl

/-- What a reading leaves (R116 to R126). -/
structure Reads (p : Post) (pr : Profile) (raw : Nat) (s t : State) : Prop where
  leaves : Leaves p [.senderFault, .fuelLoss, .defrostAborted] { s.trailer p with
    fuel := ((s.trailer p).fuel.reads s.now pr raw).1 } s t
  faults : rawValid raw = false → (s.trailer p).fuel.invalidCount = 4 → s.running = true →
    (t.trailer p).stands .senderFault = true
  clears : rawValid raw = true → (s.trailer p).InOneSet .senderFault → (t.trailer p).stands .senderFault = false
  loses : ∀ d, ((s.trailer p).fuel.reads s.now pr raw).2 = some d → s.running = true → (t.trailer p).stands .fuelLoss = true

theorem reads_fuelInvalid {s : State} {p : Post} {raw : Nat} (invalid : rawValid raw = false) (pr : Profile) :
    Reads p pr raw s (s.fuelInvalid p raw) := by
  have reads : (s.trailer p).fuel.reads s.now pr raw
      = ({ (s.trailer p).fuel with invalidCount := bump255 (s.trailer p).fuel.invalidCount }, none) :=
    if_neg (by rw [invalid]; exact Bool.false_ne_true)
  have counted := leaves_putFuel s p { (s.trailer p).fuel with invalidCount := bump255 (s.trailer p).fuel.invalidCount }
  have eq : s.fuelInvalid p raw = if (s.trailer p).fuel.invalidCount = 4
      then (s.putFuel p { (s.trailer p).fuel with invalidCount := bump255 (s.trailer p).fuel.invalidCount }).produce p
        .senderFault raw 0
      else s.putFuel p { (s.trailer p).fuel with invalidCount := bump255 (s.trailer p).fuel.invalidCount } := rfl
  rw [eq]
  generalize s.putFuel p { (s.trailer p).fuel with invalidCount := bump255 (s.trailer p).fuel.invalidCount } = u at *
  have never (d : Nat) (h : ((s.trailer p).fuel.reads s.now pr raw).2 = some d) : False := by
    rw [reads] at h
    cases h
  split
  · refine ⟨((counted.calm (leaves_produce u p .senderFault raw 0)).as (by rw [reads])).mono (by simp), fun _ _ on => ?_,
      fun valid => absurd (invalid.symm.trans valid) nofun, fun d h => (never d h).elim⟩
    exact (stands_produce u p .senderFault raw 0).2 (counted.running.trans on)
  · rename_i other
    exact ⟨(counted.as (by rw [reads])).mono nofun, fun _ four => absurd four other,
      fun valid => absurd (invalid.symm.trans valid) nofun, fun d h => (never d h).elim⟩

theorem reads_fuelValid {s : State} {p : Post} {raw : Nat} (valid : rawValid raw = true) (pr : Profile) :
    Reads p pr raw s (s.fuelValid p pr raw) := by
  have cleared := leaves_clearFinding s p .senderFault false
  have account : ((s.clearFinding p .senderFault false).trailer p).fuel = (s.trailer p).fuel :=
    cleared.field TrailerRecord.fuel fun _ => rfl
  have gone := (clears_clearFinding s p .senderFault false).not_stands
  have reads : (s.trailer p).fuel.reads s.now pr raw = if ((s.trailer p).fuel.take s.now (convert pr.curve raw) pr.refuel).2.isSome
      then (((s.trailer p).fuel.take s.now (convert pr.curve raw) pr.refuel).1, none)
      else (((s.trailer p).fuel.take s.now (convert pr.curve raw) pr.refuel).1.openWindow s.now).closeWindow s.now pr := if_pos valid
  unfold State.fuelValid
  dsimp only
  rw [account, cleared.now]
  generalize s.clearFinding p .senderFault false = u at *
  generalize (s.trailer p).fuel.take s.now (convert pr.curve raw) pr.refuel = taken at *
  obtain ⟨a, amount⟩ := taken
  cases amount with
  | some n =>
    have put := (cleared.calm (leaves_item u p p (.refuel n (convert pr.curve raw)))).step (f := fun t => { t with fuel := a })
      (leaves_putFuel _ p a) fun _ => rfl
    refine ⟨(put.as (by rw [reads]; rfl)).mono (by simp), fun no => absurd (valid.symm.trans no) nofun, fun _ one => ?_,
      fun d h => ?_⟩
    · exact ((leaves_putFuel _ p a).stands (by simp)).trans (((leaves_item u p p _).stands (by simp)).trans (gone one))
    · rw [reads] at h
      cases h
  | none =>
    dsimp only at reads ⊢
    rw [if_neg (by simp)] at reads
    generalize (a.openWindow s.now).closeWindow s.now pr = closed at *
    have put := cleared.step (f := fun t => { t with fuel := closed.1 }) (leaves_putFuel u p closed.1) fun _ => rfl
    have still := (leaves_putFuel u p closed.1).stands (c := .senderFault) nofun
    obtain ⟨b, loss⟩ := closed
    dsimp only at put still ⊢
    generalize u.putFuel p b = v at *
    cases loss with
    | none =>
      refine ⟨(put.as (by rw [reads])).mono (by simp), fun no => absurd (valid.symm.trans no) nofun, fun _ one => ?_,
        fun d h => ?_⟩
      · exact still.trans (gone one)
      · rw [reads] at h
        cases h
    | some d =>
      have lost := leaves_produce v p .fuelLoss d 0
      refine ⟨((put.calm lost).as (by rw [reads])).mono (by simp), fun no => absurd (valid.symm.trans no) nofun, fun _ one => ?_,
        fun _ _ on => ?_⟩
      · exact (lost.stands (by decide)).trans (still.trans (gone one))
      · exact (stands_produce v p .fuelLoss d 0).2 (put.running.trans on)

/-- What settling LOW-FUEL leaves (R128). -/
structure SettlesLow (p : Post) (pr : Profile) (power : PowerSource) (s t : State) : Prop where
  leaves : Leaves p [.lowFuel, .defrostAborted] (s.trailer p) s t
  held : (s.trailer p).stands .lowFuel = true → (s.trailer p).InOneSet .lowFuel →
    ((t.trailer p).stands .lowFuel = true ↔ power ≠ .shore ∧ (s.trailer p).fuel.hours < pr.lowHours + 20)
  free : (s.trailer p).stands .lowFuel = false → s.running = true →
    ((t.trailer p).stands .lowFuel = true ↔ power = .engine ∧ (s.trailer p).fuel.hours < pr.lowHours)

theorem settlesLow_settleLowFuel (s : State) (p : Post) (pr : Profile) (power : PowerSource) :
    SettlesLow p pr power s (s.settleLowFuel p pr power) := by
  unfold State.settleLowFuel
  dsimp only
  split
  · rename_i stands
    split
    · rename_i clears
      refine ⟨(leaves_clearFinding s p .lowFuel false).mono (by simp), fun _ one => ?_, fun free => ?_⟩
      · rw [(clears_clearFinding s p .lowFuel false).not_stands one]
        exact ⟨nofun, fun ⟨away, few⟩ => absurd clears (not_or.mpr ⟨away, not_le.mpr few⟩)⟩
      · rw [stands] at free
        cases free
    · rename_i stays
      obtain ⟨away, few⟩ := not_or.mp stays
      refine ⟨(Leaves.refl p s).mono nofun, fun _ _ => ⟨fun _ => ⟨away, not_le.mp few⟩, fun _ => stands⟩, fun free => ?_⟩
      rw [stands] at free
      cases free
  · rename_i free
    split
    · rename_i due
      exact ⟨leaves_produce s p .lowFuel _ 0, fun stands => absurd stands free,
        fun _ on => ⟨fun _ => due, fun _ => (stands_produce s p .lowFuel _ 0).2 on⟩⟩
    · rename_i idle
      exact ⟨(Leaves.refl p s).mono nofun, fun stands => absurd stands free,
        fun _ _ => ⟨fun stands => absurd stands free, fun due => absurd due idle⟩⟩

/-- What the fuel unit's part of an evaluation leaves, where a sender is fitted (R114). -/
structure Audits (p : Post) (pr : Profile) (rep : StatusReport) (heating : Bool) (s t : State) : Prop where
  leaves : Leaves p [.senderFault, .fuelLoss, .lowFuel, .defrostAborted] { s.trailer p with
    fuel := (s.trailer p).fuel.audited s.now pr rep.fuelRaw heating (decide (rep.power = .engine)) } s t
  faults : rawValid rep.fuelRaw = false → (s.trailer p).fuel.invalidCount = 4 → s.running = true →
    (t.trailer p).stands .senderFault = true
  clears : rawValid rep.fuelRaw = true → (s.trailer p).InOneSet .senderFault → (t.trailer p).stands .senderFault = false
  loses : ∀ d, (((s.trailer p).fuel.mark heating (decide (rep.power = .engine))).reads s.now pr rep.fuelRaw).2 = some d →
    s.running = true → (t.trailer p).stands .fuelLoss = true
  held : (s.trailer p).stands .lowFuel = true → (s.trailer p).InOneSet .lowFuel →
    ((t.trailer p).stands .lowFuel = true ↔ rep.power ≠ .shore ∧ (t.trailer p).fuel.hours < pr.lowHours + 20)
  free : (s.trailer p).stands .lowFuel = false → s.running = true →
    ((t.trailer p).stands .lowFuel = true ↔ rep.power = .engine ∧ (t.trailer p).fuel.hours < pr.lowHours)

theorem fuelEvaluation_of_sender {s : State} {p : Post} {pr : Profile} (profile : s.profileOf (s.trailer p) = some pr)
    (sender : pr.sender = true) (rep : StatusReport) (before : AtArrival) : s.fuelEvaluation p rep before =
      ((if rawValid rep.fuelRaw then (s.putFuel p ((s.trailer p).fuel.mark before.runHeating (decide (rep.power = .engine)))).fuelValid
          p pr rep.fuelRaw
        else (s.putFuel p ((s.trailer p).fuel.mark before.runHeating (decide (rep.power = .engine)))).fuelInvalid p
          rep.fuelRaw).putFuel p
        ((if rawValid rep.fuelRaw then (s.putFuel p ((s.trailer p).fuel.mark before.runHeating
              (decide (rep.power = .engine)))).fuelValid p pr rep.fuelRaw
          else (s.putFuel p ((s.trailer p).fuel.mark before.runHeating (decide (rep.power = .engine)))).fuelInvalid p
            rep.fuelRaw).trailer p).fuel.recompute).settleLowFuel p pr rep.power := by
  unfold State.fuelEvaluation
  rw [profile]
  dsimp only
  rw [sender]
  rfl

theorem fuelEvaluation_of_none {s : State} {p : Post} {pr : Profile} (profile : s.profileOf (s.trailer p) = some pr)
    (sender : pr.sender = false) (rep : StatusReport) (before : AtArrival) : s.fuelEvaluation p rep before = s := by
  unfold State.fuelEvaluation
  rw [profile]
  dsimp only
  rw [sender]
  rfl

theorem audits_fuelEvaluation {s : State} {p : Post} {pr : Profile} (profile : s.profileOf (s.trailer p) = some pr)
    (sender : pr.sender = true) (rep : StatusReport) (before : AtArrival) :
    Audits p pr rep before.runHeating s (s.fuelEvaluation p rep before) := by
  rw [fuelEvaluation_of_sender profile sender]
  have marked := leaves_putFuel s p ((s.trailer p).fuel.mark before.runHeating (decide (rep.power = .engine)))
  have account : ((s.putFuel p ((s.trailer p).fuel.mark before.runHeating (decide (rep.power = .engine)))).trailer p).fuel
      = (s.trailer p).fuel.mark before.runHeating (decide (rep.power = .engine)) := marked.field TrailerRecord.fuel fun _ => rfl
  have count : ((s.trailer p).fuel.mark before.runHeating (decide (rep.power = .engine))).invalidCount = (s.trailer p).fuel.invalidCount := rfl
  generalize s.putFuel p ((s.trailer p).fuel.mark before.runHeating (decide (rep.power = .engine))) = u at *
  have reads : Reads p pr rep.fuelRaw u
      (if rawValid rep.fuelRaw then u.fuelValid p pr rep.fuelRaw else u.fuelInvalid p rep.fuelRaw) := by
    split
    · exact reads_fuelValid ‹_› pr
    · exact reads_fuelInvalid (Bool.eq_false_iff.mpr ‹_›) pr
  generalize (if rawValid rep.fuelRaw then u.fuelValid p pr rep.fuelRaw else u.fuelInvalid p rep.fuelRaw) = v at *
  obtain ⟨leaves, faults, clears, loses⟩ := reads
  rw [account, marked.now] at leaves loses
  rw [account, count, marked.running] at faults
  rw [marked.running] at loses
  have fuel : (v.trailer p).fuel
      = (((s.trailer p).fuel.mark before.runHeating (decide (rep.power = .engine))).reads s.now pr rep.fuelRaw).1 :=
    leaves.field TrailerRecord.fuel fun _ => rfl
  rw [fuel]
  have audited : (s.trailer p).fuel.audited s.now pr rep.fuelRaw before.runHeating (decide (rep.power = .engine))
      = (((s.trailer p).fuel.mark before.runHeating (decide (rep.power = .engine))).reads s.now pr rep.fuelRaw).1.recompute := rfl
  generalize hy : ((s.trailer p).fuel.mark before.runHeating (decide (rep.power = .engine))).reads s.now pr rep.fuelRaw = y at *
  have read := marked.step (f := fun t => { t with fuel := y.1 }) leaves fun _ => rfl
  have put := leaves_putFuel v p y.1.recompute
  have whole := read.step (f := fun t => { t with fuel := y.1.recompute }) put fun _ => rfl
  generalize v.putFuel p y.1.recompute = w at *
  have low := settlesLow_settleLowFuel w p pr rep.power
  have hours : (w.trailer p).fuel = ((w.settleLowFuel p pr rep.power).trailer p).fuel :=
    (low.leaves.field TrailerRecord.fuel fun _ => rfl).symm
  obtain ⟨settles, held, free⟩ := low
  rw [hours] at held free
  generalize w.settleLowFuel p pr rep.power = t at *
  refine ⟨((whole.calm settles).as (by rw [audited])).mono (by simp), fun no four on => ?_, fun valid one => ?_, fun d h on => ?_,
    fun stands one => held ?_ ?_, fun stands on => free ?_ ?_⟩
  · exact (settles.stands (by decide)).trans ((put.stands nofun).trans (faults no four on))
  · exact (settles.stands (by decide)).trans ((put.stands nofun).trans (clears valid (marked.inOneSet nofun one)))
  · exact (settles.stands (by decide)).trans ((put.stands nofun).trans (loses d (hy ▸ h) on))
  · exact (whole.stands (by decide)).trans stands
  · exact whole.inOneSet (by decide) one
  · exact (whole.stands (by decide)).trans stands
  · exact whole.running.trans on

/-- The fuel unit's part of an evaluation touches the fuel account and its classes alone. -/
theorem leaves_fuelEvaluation {s : State} {p : Post} {pr : Profile} (profile : s.profileOf (s.trailer p) = some pr)
    (rep : StatusReport) (before : AtArrival) :
    Leaves p [.senderFault, .fuelLoss, .lowFuel, .defrostAborted] { s.trailer p with
      fuel := ((s.fuelEvaluation p rep before).trailer p).fuel } s (s.fuelEvaluation p rep before) := by
  cases sender : pr.sender with
  | false =>
    rw [fuelEvaluation_of_none profile sender]
    exact ((Leaves.refl p s).mono nofun).as rfl
  | true =>
    have audits := (audits_fuelEvaluation profile sender rep before).leaves
    exact audits.as (by rw [audits.field TrailerRecord.fuel fun _ => rfl])

end Sys2Proof.Machine


/-! # What findings do to a run and to the arbiter at an evaluation (R150 to R155) -/

namespace Sys2Proof.Machine

/-! ## The owners of an evaluation before Run Control -/

/-- The classes that the owners before Run Control produce (R51, R53, R116, R126, R128, R135, R141, R144). -/
def FindingClass.watched : FindingClass → Bool
  | .sensor | .senderFault | .fuelLoss | .lowFuel | .doorSensor | .custodyBreak | .doorAjar => true
  | _ => false

theorem FindingClass.ne_of_watched {c : FindingClass} (h : c.watched = true) : c ≠ .unitStuckDefrost := by
  rintro rfl
  cases h

/-- Two records have one run and the same sets. -/
structure TrailerRecord.SameMarks (t u : TrailerRecord) : Prop where
  run : u.run = t.run
  active : u.active = t.active
  noted : u.noted = t.noted

/-- A relation that an evaluation's owners before Run Control keep at one post: edits that leave the run and the sets,
findings of the classes that they produce or clear, and items. -/
structure StageKit (p : Post) where
  rel : State → State → Prop
  refl : ∀ s, rel s s
  after : ∀ {a b c}, rel a b → rel b c → rel a c
  edit : ∀ (s : State) f, (s.trailer p).SameMarks (f (s.trailer p)) → rel (s.editTrailer p f) s
  produce : ∀ (s : State) (c : FindingClass) d k, c.watched = true → rel (s.produce p c d k) s
  clear : ∀ (s : State) (c : FindingClass) b, c.watched = true ∨ c = .linkLost → rel (s.clearFinding p c b) s
  item : ∀ (s : State) b, rel (s.item p b) s

namespace StageKit

variable {p : Post} (h : StageKit p) (s : State)

theorem rel.trans {h : StageKit p} {a b c : State} (x : h.rel a b) (y : h.rel b c) : h.rel a c := h.after x y

theorem clearLinkLost (n : Nat) : h.rel (s.clearLinkLost p n) s := by
  unfold State.clearLinkLost
  split
  · split
    · exact h.clear s _ _ (.inr rfl)
    · exact h.refl s
  · exact h.refl s

theorem frostEvaluation (rep : StatusReport) (a : AtArrival) : h.rel (s.frostEvaluation p rep a) s := by
  have stepped (u : State) : h.rel (u.frostStep p rep a) u := by
    rw [frostStep_eq]
    refine h.edit u _ ?_
    rw [frosted_changes]
    exact ⟨rfl, rfl, rfl⟩
  refine (stepped _).trans ?_
  have held := h.edit s (fun t => t.holdTemperatures rep) ⟨rfl, rfl, rfl⟩
  unfold State.frostSensors
  dsimp only
  split
  · exact (h.produce _ _ _ _ rfl).trans held
  · split
    · exact (h.clear _ _ _ (.inl rfl)).trans held
    · exact held

theorem fuelInvalid (n : Nat) : h.rel (s.fuelInvalid p n) s := by
  have counted := h.edit s (fun t => { t with
    fuel := { (s.trailer p).fuel with invalidCount := bump255 (s.trailer p).fuel.invalidCount } }) ⟨rfl, rfl, rfl⟩
  unfold State.fuelInvalid State.putFuel
  dsimp only
  split
  · exact (h.produce _ _ _ _ rfl).trans counted
  · exact counted

theorem fuelValid (pr : Profile) (n : Nat) : h.rel (s.fuelValid p pr n) s := by
  have cleared := h.clear s .senderFault false (.inl rfl)
  unfold State.fuelValid
  dsimp only
  split
  · exact (h.edit _ _ ⟨rfl, rfl, rfl⟩).trans ((h.item _ _).trans cleared)
  · split
    · exact (h.produce _ _ _ _ rfl).trans ((h.edit _ _ ⟨rfl, rfl, rfl⟩).trans cleared)
    · exact (h.edit _ _ ⟨rfl, rfl, rfl⟩).trans cleared

theorem settleLowFuel (pr : Profile) (w : PowerSource) : h.rel (s.settleLowFuel p pr w) s := by
  unfold State.settleLowFuel
  dsimp only
  split
  · split
    · exact h.clear s _ _ (.inl rfl)
    · exact h.refl _
  · split
    · exact h.produce s _ _ _ rfl
    · exact h.refl _

theorem fuelEvaluation (rep : StatusReport) (a : AtArrival) : h.rel (s.fuelEvaluation p rep a) s := by
  unfold State.fuelEvaluation
  split
  · exact h.refl _
  · split
    · exact h.refl _
    · refine (h.settleLowFuel _ _ _).trans ((h.edit _ _ ⟨rfl, rfl, rfl⟩).trans ?_)
      split
      · exact (h.fuelValid _ _ _).trans (h.edit s _ ⟨rfl, rfl, rfl⟩)
      · exact (h.fuelInvalid _ _).trans (h.edit s _ ⟨rfl, rfl, rfl⟩)

theorem editDoor (f : DoorGroup → DoorGroup) : h.rel (s.editDoor p f) s := h.edit s _ ⟨rfl, rfl, rfl⟩

theorem breakCustody : h.rel (s.breakCustody p) s := by
  unfold State.breakCustody
  split
  · exact (h.produce _ _ _ _ rfl).trans ((h.item _ _).trans (h.edit _ _ ⟨rfl, rfl, rfl⟩))
  all_goals exact h.refl _

theorem opening : h.rel (s.opening p) s := by
  unfold State.opening
  dsimp only
  have marked := h.editDoor s fun d => { d with
    openingTime := some s.now, ajarReported := false
    history := (historyAt d.history d.pn (periodOf s.now s.config.hp)).1
    pn := some (historyAt d.history d.pn (periodOf s.now s.config.hp)).2 }
  exact (h.editDoor _ _).trans ((h.breakCustody _).trans marked)

theorem knownDoor : h.rel (s.knownDoor p) s := (h.clear _ _ _ (.inl rfl)).trans (h.editDoor s _)

theorem closing : h.rel (s.closing p) s := (h.clear _ _ _ (.inl rfl)).trans (h.editDoor s _)

theorem ajarTest : h.rel (s.ajarTest p) s := by
  unfold State.ajarTest
  dsimp only
  split
  · split
    · exact (h.editDoor _ _).trans (h.produce s _ _ _ rfl)
    · exact h.refl _
  · exact h.refl _

theorem doorReport (rep : DoorReport) : h.rel (s.doorReport p rep).1 s := by
  have known := h.knownDoor s
  unfold State.doorReport
  split
  · have counted := h.editDoor s fun d => { d with unknownCount := bump255 d.unknownCount }
    dsimp only
    split
    · exact (h.produce _ _ _ _ rfl).trans counted
    · exact counted
  · dsimp only
    split
    · exact known
    · dsimp only
      exact (h.opening _).trans known
  · dsimp only
    split
    · exact known
    · dsimp only
      exact (h.closing _).trans known
    · dsimp only
      exact (h.editDoor _ _).trans known

theorem doorEvaluation (rep : StatusReport) : h.rel (s.doorEvaluation p rep).1 s :=
  (h.ajarTest _).trans (h.doorReport s _)

end StageKit

/-! ## No run comes from a finding -/

/-- A post with no run gets none from its findings, as a kit. -/
def FindingKit.unrun : FindingKit fun _ => True where
  rel t s := ∀ q, s.run q = none → t.run q = none
  refl _ _ := id
  after x y q none := x q (y q none)
  edit s p f _ same q none := by
    have share : ((s.editTrailer p f).trailer q).share = (s.trailer q).share :=
      State.field_editTrailer s p f TrailerRecord.share (fun _ => rfl) same.share q
    have idle : (s.trailer q).share = .none := congrArg (Option.map RunRecord.share) none
    exact Option.map_eq_none_iff.mp (share.trans idle)
  output _ _ _ _ _ := id
  inForce _ _ _ _ _ := id
  item s p b _ q none := (State.item_run s p q b).trans none
  push _ _ _ _ _ _ _ := id
  unfile s p _ q none := (removeRequest_run s p q).trans none

/-- A post with no run has none after the owners before Run Control, as a kit. -/
def StageKit.unrun (p : Post) : StageKit p where
  rel t s := s.run p = none → t.run p = none
  refl _ := id
  after x y none := x (y none)
  edit s f same none := (State.field_editTrailer s p f TrailerRecord.run (fun _ => rfl) same.run p).trans none
  produce s c d k _ none := FindingKit.unrun.produce s (p := p) trivial c d k p none
  clear s c b _ none := FindingKit.unrun.clearFinding s (p := p) trivial c b p none
  item s b none := (State.item_run s p p b).trans none

/-! ## Findings that reach neither the run nor the arbiter -/

/-- The finding table gives the classes of a status nothing that reaches the post's run or its request (R154, R155). -/
def State.Gentle (s : State) (p : Post) : Prop :=
  (∀ c, c ≠ .unitStuckDefrost → (s.tableEntry c).action ≠ .inhibitDefrost) ∧
  (s.run p = none ∨ ∀ c, c ≠ .unitStuckDefrost → (s.tableEntry c).action ≠ .cutHeater)

/-- The run, the queues and INHIBIT-DEFROST of a post stand. -/
structure Undisturbed (p : Post) (s t : State) : Prop where
  run : t.run p = s.run p
  queues : t.queues = s.queues
  inhibit : (t.inForce p).inhibit = (s.inForce p).inhibit
  config : t.config = s.config

namespace Undisturbed

variable {p : Post} {s t u : State}

theorem refl (p : Post) (s : State) : Undisturbed p s s := ⟨rfl, rfl, rfl, rfl⟩

theorem trans (h : Undisturbed p s t) (k : Undisturbed p t u) : Undisturbed p s u :=
  ⟨k.run.trans h.run, k.queues.trans h.queues, k.inhibit.trans h.inhibit, k.config.trans h.config⟩

theorem gentle (h : Undisturbed p s t) (g : s.Gentle p) : t.Gentle p := by
  have table (c : FindingClass) : t.tableEntry c = s.tableEntry c := by
    unfold State.tableEntry
    rw [h.config]
  unfold State.Gentle
  simp only [table, h.run]
  exact g

theorem requestOf (h : Undisturbed p s t) (q : Post) : t.requestOf q = s.requestOf q := by
  unfold State.requestOf State.queue
  rw [h.queues]

theorem edit (s : State) (p : Post) (f : TrailerRecord → TrailerRecord) (same : (f (s.trailer p)).run = (s.trailer p).run) :
    Undisturbed p s (s.editTrailer p f) := by
  refine ⟨State.field_editTrailer s p f TrailerRecord.run (fun _ => rfl) same p, ?_, ?_, ?_⟩
  · rw [State.editTrailer_changes]
  · rw [State.editTrailer_changes]
    rfl
  · rw [State.editTrailer_changes]

theorem item (s : State) (p : Post) (b : ItemBody) : Undisturbed p s (s.item p b) := by
  refine ⟨State.item_run s p p b, ?_, ?_, ?_⟩ <;>
  · rw [State.item_changes]
    simp only [State.noticed, State.inForce]

end Undisturbed

theorem causeJoins_of_idle {s : State} {p : Post} (idle : s.run p = none) (c : SuspCause) (n : Nat) :
    s.causeJoins p c n = s := by
  unfold State.causeJoins
  rw [idle]

theorem causeLeaves_of_idle {s : State} {p : Post} (idle : s.run p = none) (c : SuspCause) : s.causeLeaves p c = s := by
  unfold State.causeLeaves
  rw [idle]

theorem undisturbed_activate (s : State) (p : Post) {a : Action} (quiet : a ≠ .inhibitDefrost) (k : Nat) :
    Undisturbed p s (s.activate p a k) := by
  refine ⟨run_of_trailer (State.activate_trailer s p p a k), by rw [State.activate_changes], ?_,
    by rw [State.activate_changes]⟩
  rw [inForce_activate]
  split
  · rfl
  · cases a with
    | inhibitDefrost => exact absurd rfl quiet
    | none | beacon | cutHeater => rfl

theorem undisturbed_applyAction {s : State} {p : Post} {a : Action} (quiet : a ≠ .inhibitDefrost)
    (uncut : s.run p = none ∨ a ≠ .cutHeater) (k : Nat) : Undisturbed p s (s.applyAction p a k) := by
  have active := undisturbed_activate s p quiet k
  unfold State.applyAction
  split
  · exact .refl p s
  · dsimp only
    split
    · exact active
    · exact active
    · exact absurd rfl quiet
    · rw [causeJoins_of_idle (active.run.trans (uncut.resolve_right fun h => h rfl))]
      exact active

theorem undisturbed_withdrawAction {s : State} {p : Post} {a : Action} (quiet : a ≠ .inhibitDefrost)
    (uncut : s.run p = none ∨ a ≠ .cutHeater) : Undisturbed p s (s.withdrawAction p a) := by
  have ended (v : ActionsInForce) (h : v.inhibit = (s.inForce p).inhibit) : Undisturbed p s (s.putInForce p v) :=
    ⟨rfl, rfl, (congrArg ActionsInForce.inhibit (State.inForce_putInForce_self s p v)).trans h, rfl⟩
  unfold State.withdrawAction
  split
  · dsimp only
    cases a with
    | inhibitDefrost => exact absurd rfl quiet
    | none | beacon => exact ended _ rfl
    | cutHeater =>
      have gone := ended ((s.inForce p).put .cutHeater none) rfl
      dsimp only
      rw [causeLeaves_of_idle (gone.run.trans (uncut.resolve_right fun h => h rfl))]
      exact gone
  · exact .refl p s

theorem undisturbed_produce {s : State} {p : Post} (g : s.Gentle p) {c : FindingClass} (hc : c ≠ .unitStuckDefrost) (d k : Nat) :
    Undisturbed p s (s.produce p c d k) := by
  obtain ⟨-, same⟩ | ⟨-, -, same⟩ | ⟨-, -, same⟩ := produce_cases s p c d k <;> rw [same]
  · exact .refl p s
  · exact (Undisturbed.edit s p _ rfl).trans (.item _ p _)
  · rw [raiseFinding_eq]
    have framed : Undisturbed p s (s.pushFrame p c d k) := ⟨rfl, rfl, rfl, rfl⟩
    have pushed : Undisturbed p s (s.pushed p c d k) := framed.trans (.edit _ p _ rfl)
    have uncut : (s.pushed p c d k).run p = none ∨ (s.tableEntry c).action ≠ .cutHeater := by
      rw [pushed.run]
      exact g.2.imp_right fun h => h c hc
    exact (pushed.trans (undisturbed_applyAction (g.1 c hc) uncut s.nextPush)).trans (.item _ p _)

theorem undisturbed_clearFinding {s : State} {p : Post} (g : s.Gentle p) {c : FindingClass} (hc : c ≠ .unitStuckDefrost)
    (b : Bool) : Undisturbed p s (s.clearFinding p c b) := by
  unfold State.clearFinding
  split
  · have left := (Undisturbed.edit s p (fun t => { t with active := t.active.filter fun a => decide (a.cls ≠ c) }) rfl).trans
      (.item _ p (.findingCleared c b))
    generalize ((s.editTrailer p fun t => { t with active := t.active.filter fun a => decide (a.cls ≠ c) }).item p
      (.findingCleared c b)) = u at *
    refine left.trans ?_
    unfold State.settleWithdrawal
    split
    · refine undisturbed_withdrawAction (g.1 c hc) ?_
      rw [left.run]
      exact g.2.imp_right fun h => h c hc
    · exact .refl p u
  · exact (Undisturbed.edit s p _ rfl).trans (.item _ p _)
  · exact .refl p s

/-- Where findings are gentle the owners before Run Control leave run, queues and INHIBIT-DEFROST, as a kit. -/
def StageKit.undisturbed (p : Post) : StageKit p where
  rel t s := s.Gentle p → Undisturbed p s t
  refl s _ := .refl p s
  after x y g := (y g).trans (x ((y g).gentle g))
  edit s f same _ := .edit s p f same.run
  produce _ _ d k hc g := undisturbed_produce g (FindingClass.ne_of_watched hc) d k
  clear _ _ b hc g := undisturbed_clearFinding g (hc.elim FindingClass.ne_of_watched fun link => link ▸ nofun) b
  item s b _ := .item s p b

end Sys2Proof.Machine


/-! # The status of an ENROLLED trailer: its arrival and its evaluation (R26, R31, R39, R48) -/

namespace Sys2Proof.Machine

/-! ## The post's and the line's own part (R9) -/

theorem leaves_putEntry (s : State) (p q : Post) (e : Option PostEntry) : Leaves p [] (s.trailer p) s (s.putEntry q e) :=
  leaves_of_records rfl ⟨rfl, rfl, rfl, rfl⟩ rfl

theorem leaves_putLine (s : State) (p : Post) (l : Line) (c : LineController) : Leaves p [] (s.trailer p) s (s.putLine l c) := by
  rw [State.putLine_changes]
  exact leaves_of_records rfl ⟨rfl, rfl, rfl, rfl⟩ rfl

theorem leaves_heardAt (s : State) (p : Post) : Leaves p [.linkLost] (s.trailer p) s (s.heardAt p) := by
  have put := leaves_putEntry s p p ((s.entry p).map fun e => e.good s.now)
  unfold State.heardAt
  dsimp only
  generalize s.putEntry p ((s.entry p).map fun e => e.good s.now) = u at *
  split
  · exact (put.calm (leaves_causeLeaves u p .post)).calm (leaves_clearLinkLost _ p 1)
  · exact put.calm (leaves_clearLinkLost u p 1)

theorem leaves_hearPost (s : State) (l : Line) (p : Post) : Leaves p [.linkLost] (s.trailer p) s (s.hearPost l p) := by
  rw [hearPost_eq]
  exact (leaves_heardAt s p).calm (leaves_putLine _ p l _)

theorem trailer_putLine (s : State) (l : Line) (c : LineController) (q : Post) : (s.putLine l c).trailer q = s.trailer q := by
  rw [State.putLine_changes]
  rfl

theorem clearLinkLost_of_not_stands {s : State} {p : Post} (h : (s.trailer p).stands .linkLost = false) (n : Nat) :
    s.clearLinkLost p n = s := by
  have none : (s.trailer p).detailOf .linkLost = .none := by
    obtain ⟨active, noted⟩ := TrailerRecord.not_stands_iff.mp h
    rw [TrailerRecord.detailOf_of_noted active, noted]
    rfl
  unfold State.clearLinkLost
  rw [none]

theorem heardAt_of_present {s : State} {p : Post} (here : (s.entry p).map (·.state) ≠ some .lost) :
    s.heardAt p = (s.putEntry p ((s.entry p).map fun e => e.good s.now)).clearLinkLost p 1 := by
  unfold State.heardAt
  dsimp only
  rw [decide_eq_false here, if_neg Bool.false_ne_true]

/-- A post that was not LOST and whose trailer has no LINK-LOST hears a GOOD status with its record as it stood. -/
theorem trailer_hearPost_of_present {s : State} {p : Post} (here : (s.entry p).map (·.state) ≠ some .lost)
    (linked : (s.trailer p).stands .linkLost = false) (l : Line) : (s.hearPost l p).trailer p = s.trailer p := by
  have same : (s.putEntry p ((s.entry p).map fun e => e.good s.now)).trailer p = s.trailer p := rfl
  rw [hearPost_eq, trailer_putLine, heardAt_of_present here, clearLinkLost_of_not_stands (by rw [same]; exact linked), same]

theorem unrun_hearPost {s : State} {p : Post} (idle : s.run p = none) (l : Line) : (s.hearPost l p).run p = none := by
  have put : (s.putEntry p ((s.entry p).map fun e => e.good s.now)).run p = none := idle
  rw [hearPost_eq, run_of_trailer (trailer_putLine _ l _ p)]
  unfold State.heardAt
  dsimp only
  generalize s.putEntry p ((s.entry p).map fun e => e.good s.now) = u at *
  refine (StageKit.unrun p).clearLinkLost _ 1 ?_
  split
  · exact FindingKit.unrun.causeLeaves u (p := p) trivial .post p put
  · exact put

theorem undisturbed_hearPost {s : State} {p : Post} (gentle : s.Gentle p)
    (here : s.run p = none ∨ (s.entry p).map (·.state) ≠ some .lost) (l : Line) : Undisturbed p s (s.hearPost l p) := by
  have put : Undisturbed p s (s.putEntry p ((s.entry p).map fun e => e.good s.now)) := ⟨rfl, rfl, rfl, rfl⟩
  have line (u : State) (c : LineController) : Undisturbed p u (u.putLine l c) := by
    rw [State.putLine_changes]
    exact ⟨rfl, rfl, rfl, rfl⟩
  have cleared := put.trans ((StageKit.undisturbed p).clearLinkLost _ 1 (put.gentle gentle))
  rw [hearPost_eq]
  refine Undisturbed.trans ?_ (line _ _)
  obtain idle | here := here
  · have unfolded : s.heardAt p = (s.putEntry p ((s.entry p).map fun e => e.good s.now)).clearLinkLost p 1 := by
      unfold State.heardAt
      dsimp only
      rw [causeLeaves_of_idle (put.run.trans idle), ite_self]
    rw [unfolded]
    exact cleared
  · rw [heardAt_of_present here]
    exact cleared

/-! ## The same unit at an ENROLLED record (R26, R39) -/

/-- The record as a status of its own unit stamps it (R26, R39). -/
def TrailerRecord.seen (t : TrailerRecord) (rep : StatusReport) (now : Time) : TrailerRecord :=
  { t with
    unitAbsent := 0, model := if rep.model = 0 then t.model else rep.model, lastStatus := some now }

/-- The state in which an ENROLLED trailer is evaluated. -/
def State.seenAt (s : State) (p : Post) (rep : StatusReport) : State :=
  ((s.editTrailer p fun t => { t with unitAbsent := 0, model := if rep.model = 0 then t.model else rep.model }).clearLinkLost
    p 2).editTrailer p fun t => { t with lastStatus := some s.now }

/-- A status for which the post's record is ENROLLED and evaluated (R26). -/
structure State.Seen (s : State) (p : Post) (rep : StatusReport) : Prop where
  unit : rep.unit = .unit
  verifies : (s.trailer p).verifies = true
  enrolled : (s.trailer p).state = .enrolled
  serial : (s.trailer p).serial = rep.serial

theorem leaves_seenAt (s : State) (p : Post) (rep : StatusReport) :
    Leaves p [.linkLost] ((s.trailer p).seen rep s.now) s (s.seenAt p rep) := by
  have same := leaves_edit s p (fun t => { t with unitAbsent := 0, model := if rep.model = 0 then t.model else rep.model }) rfl rfl
  have cleared := same.calm (leaves_clearLinkLost _ p 2)
  exact cleared.edit (fun t => { t with lastStatus := some s.now }) (fun _ => rfl) (fun _ => rfl) fun _ => rfl

theorem StageKit.seenAt {p : Post} (h : StageKit p) (s : State) (rep : StatusReport) : h.rel (s.seenAt p rep) s :=
  (h.edit _ _ ⟨rfl, rfl, rfl⟩).trans ((h.clearLinkLost _ 2).trans (h.edit s _ ⟨rfl, rfl, rfl⟩))

theorem stamped_of_seen {s : State} {p : Post} {rep : StatusReport} (h : s.Seen p rep) :
    s.stamped p rep = { s := s.seenAt p rep, before := (s.trailer p).atArrival, rebuilt := none, ended := false } := by
  have verified : s.verifyAt p = { s := s, before := (s.trailer p).atArrival, rebuilt := none, ended := false } := by
    unfold State.verifyAt
    dsimp only
    rw [if_pos h.verifies]
  have same := leaves_edit s p (fun t => { t with unitAbsent := 0, model := if rep.model = 0 then t.model else rep.model }) rfl rfl
  have cleared := same.calm (leaves_clearLinkLost _ p 2)
  have enrolled := (cleared.field TrailerRecord.state fun _ => rfl).trans h.enrolled
  have now := cleared.now
  unfold State.stamped Arrival.lifecycle
  rw [verified]
  dsimp only
  rw [h.unit]
  dsimp only
  rw [if_neg (by rw [h.enrolled]; nofun), if_pos h.serial]
  unfold Arrival.same
  dsimp only
  rw [h.enrolled]
  unfold Arrival.on State.stampStatus
  dsimp only
  rw [if_neg (by rw [enrolled]; nofun), now]
  rfl

/-- The status is evaluated, and no record has been rebuilt. -/
theorem statusAtTable_of_seen {s : State} {p : Post} {rep : StatusReport} (h : s.Seen p rep) (b : Bool) :
    s.statusAtTable p rep b
      = (Arrival.mk (s.seenAt p rep) (s.trailer p).atArrival none false).evaluate p rep b := by
  have enrolled := ((leaves_seenAt s p rep).field TrailerRecord.state fun _ => rfl).trans h.enrolled
  rw [State.statusAtTable_eq, stamped_of_seen h]
  exact if_pos ⟨enrolled, h.unit⟩

theorem Leaves.seen {s t : State} {p : Post} {cs : List FindingClass} {rep : StatusReport} (h : Leaves p cs (s.trailer p) s t)
    (verifies : (t.trailer p).verifies = true) (seen : s.Seen p rep) : t.Seen p rep :=
  ⟨seen.unit, verifies, (h.field TrailerRecord.state fun _ => rfl).trans seen.enrolled,
    (h.field TrailerRecord.serial fun _ => rfl).trans seen.serial⟩

/-! ## Filing (R76 to R80) -/

theorem leaves_fileRequest (s : State) (p : Post) (c : RequestClass) (n : Nat) :
    Leaves p [] (s.trailer p) s (s.fileRequest p c n) := by
  have joined : Leaves p [] (s.trailer p) s (s.joinQueue (s.queueOf p)
      { post := p, cls := c, filed := s.now, load := n, passes := 0 }) := leaves_of_records rfl ⟨rfl, rfl, rfl, rfl⟩ rfl
  exact joined.calm (leaves_walk _ p _)

theorem leaves_upgradeRequest (s : State) (p : Post) (c : RequestClass) : Leaves p [] (s.trailer p) s (s.upgradeRequest p c) := by
  unfold State.upgradeRequest
  split
  · exact .refl p s
  · have joined (u : State) (q : Queue) (r : Request) : Leaves p [] (u.trailer p) u (u.joinQueue q r) :=
      leaves_of_records rfl ⟨rfl, rfl, rfl, rfl⟩ rfl
    exact (leaves_removeRequest s p).calm (joined _ _ _)

theorem leaves_filing (s : State) (p : Post) (rep : StatusReport) (b : Bool) : Leaves p [] (s.trailer p) s (s.filing p rep b) := by
  have kept : Leaves p [] (s.trailer p) s (s.removeUnitRequest p rep.mode) := by
    unfold State.removeUnitRequest
    split
    · split
      · exact leaves_removeRequest s p
      · exact .refl p s
    · exact .refl p s
  unfold State.filing
  dsimp only
  generalize s.removeUnitRequest p rep.mode = u at *
  split
  · exact kept
  · rename_i pr _
    have upgraded : Leaves p [] (u.trailer p) u (u.upgradeForced p pr) := by
      unfold State.upgradeForced
      split
      · split
        · exact leaves_upgradeRequest u p .forced
        · exact .refl p u
      · exact .refl p u
    refine (kept.calm upgraded).calm ?_
    unfold State.filingTest
    dsimp only
    split
    · exact .refl p _
    · split
      · exact leaves_fileRequest _ p _ _
      · exact .refl p _

theorem leaves_walkForHours (s : State) (p : Post) : Leaves p [] (s.trailer p) s (s.walkForHours p) := by
  unfold State.walkForHours
  split
  · exact leaves_walk s p _
  · exact .refl p s

/-! ## The evaluation, owner by owner -/

/-- The state that the owners before Run Control leave, with the change of the held door state (R26, R48, R114, R134). -/
def State.watched (s : State) (p : Post) (rep : StatusReport) (before : AtArrival) : State × Option DoorChange :=
  ((s.frostEvaluation p rep before).fuelEvaluation p rep before).doorEvaluation p rep

/-- The filing and the walk that H calls for, once Run Control has done its part (R76, R127). -/
def State.closes (s : State) (p : Post) (rep : StatusReport) (ended : Bool) : State :=
  if (s.filing p rep ended).senderFitted p then (s.filing p rep ended).walkForHours p else s.filing p rep ended

theorem evaluate_eq (a : Arrival) (p : Post) (rep : StatusReport) (b : Bool) : a.evaluate p rep b =
    ((a.s.watched p rep a.before).1.runEvaluation p rep (a.s.watched p rep a.before).2 b).1.closes p rep
      (a.ended || ((a.s.watched p rep a.before).1.runEvaluation p rep (a.s.watched p rep a.before).2 b).2) := rfl

theorem leaves_closes (s : State) (p : Post) (rep : StatusReport) (b : Bool) : Leaves p [] (s.trailer p) s (s.closes p rep b) := by
  unfold State.closes
  split
  · exact (leaves_filing s p rep b).calm (leaves_walkForHours _ p)
  · exact leaves_filing s p rep b

/-- With no run, Run Control does nothing at an evaluation. -/
theorem runEvaluation_of_idle {s : State} {p : Post} (idle : s.run p = none) (rep : StatusReport) (change : Option DoorChange)
    (b : Bool) : s.runEvaluation p rep change b = (s, false) := by
  have fresh : s.refreshLimits p = s := by
    unfold State.refreshLimits
    rw [idle]
  have stepped : s.doorStep p change = s := by
    unfold State.doorStep
    split
    · rfl
    · exact causeJoins_of_idle idle .door 0
    · exact causeLeaves_of_idle idle .door
  unfold State.runEvaluation State.statusTests
  rw [fresh, stepped, idle]

theorem StageKit.watched {p : Post} (h : StageKit p) (s : State) (rep : StatusReport) (before : AtArrival) :
    h.rel (s.watched p rep before).1 s :=
  (h.doorEvaluation _ rep).trans ((h.fuelEvaluation _ rep before).trans (h.frostEvaluation s rep before))

end Sys2Proof.Machine


/-! # The status of an ENROLLED trailer, from the frame to the next address (R3, R26, R173) -/

namespace Sys2Proof.Machine

/-! ## After the table -/

theorem leaves_outputAtGood (s : State) (p : Post) (carried actual : Levels) :
    Leaves p [.outputMismatch, .defrostAborted] (s.trailer p) s (s.outputAtGood p carried actual) := by
  unfold State.outputAtGood
  split
  · exact (Leaves.refl p s).mono nofun
  · rename_i o _
    dsimp only
    have put (x : OutputState) : Leaves p [] (s.trailer p) s (s.putOutput p (some x)) :=
      leaves_of_records rfl ⟨rfl, rfl, rfl, rfl⟩ rfl
    split
    · exact ((put _).calm (leaves_clearFinding _ p .outputMismatch false)).mono (by simp)
    · split
      · exact (put _).calm (leaves_produce _ p .outputMismatch _ 0)
      · exact (put _).mono nofun

theorem leaves_settlePlugged (s : State) (p q : Post) (rep : StatusReport) :
    Leaves p [] (s.trailer p) s (s.settlePlugged q rep) := by
  unfold State.settlePlugged
  split
  · exact .refl p s
  · exact leaves_putEntry s p q _

/-- What follows the result of an exchange: the causes handed to Hold-Up Control, and the next address or the round's end. -/
structure Finishes (r : Round) (v u : State) : Prop where
  offRun : ∀ q, ((v.trailer q).state ≠ .restored ∨ r.remaining ≠ []) → (u.trailer q).offRun = (v.trailer q).offRun
  still : r.remaining ≠ [] → u.records = v.records ∧ u.queues = v.queues ∧ u.actions = v.actions ∧ u.directory = v.directory

theorem TakesFault.finishes {v w : State} (h : TakesFault v w) (r : Round) : Finishes r v w := by
  have changes := h.changes
  refine ⟨fun q _ => ?_, fun _ => ?_⟩
  · have same : w.trailer q = v.trailer q := by
      rw [changes]
      rfl
    rw [same]
  · rw [changes]
    exact ⟨rfl, rfl, rfl, rfl⟩

theorem finishes_nextAddress {s : State} {l : Line} {r : Round}
    (round : (s.line l).round = some r ∨ (s.line l).round = none) : Finishes r s (s.nextAddress l) := by
  obtain round | none := round
  · refine ⟨fun q => (goesOn_nextAddress round).offRun q, fun more => ?_⟩
    obtain ⟨q, rest, more⟩ := List.exists_cons_of_ne_nil more
    rw [nextAddress_of_more round more]
    have polls := polls_beginExchange s l q false { r with remaining := rest }
    generalize s.beginExchange l q false { r with remaining := rest } = u at *
    rw [polls.changes]
    exact ⟨rfl, rfl, rfl, rfl⟩
  · rw [nextAddress_of_none none]
    exact ⟨fun _ _ => rfl, fun _ => ⟨rfl, rfl, rfl, rfl⟩⟩

theorem Finishes.trans {r r' : Round} (same : r'.remaining = r.remaining) {v w u : State} (h : Finishes r v w)
    (k : Finishes r' w u) (still : ∀ q, (w.trailer q).state = (v.trailer q).state) : Finishes r v u := by
  refine ⟨fun q stays => (k.offRun q ?_).trans (h.offRun q stays), fun more => ?_⟩
  · rw [still, same]
    exact stays
  · obtain ⟨records, queues, actions, directory⟩ := h.still more
    obtain ⟨records', queues', actions', directory'⟩ := k.still (same ▸ more)
    exact ⟨records'.trans records, queues'.trans queues, actions'.trans actions, directory'.trans directory⟩

/-- The exchange's end after its result (R3). -/
theorem finishes_exchangeGood {s : State} {l : Line} {bytes : List Byte} {r : Round} {rep : StatusReport}
    (h : s.Hears l bytes r rep) : Finishes r (s.goodResult l r.exchange rep) (s.exchangeGood l r rep) := by
  obtain ⟨-, takes, round⟩ := settled_goodResult h
  rw [exchangeGood_eq]
  generalize s.goodResult l r.exchange rep = v at *
  have changes := takes.changes
  refine Finishes.trans (r := r) (r' := { r with hadGood := true }) rfl (takes.finishes r) (finishes_nextAddress round) fun q => ?_
  rw [changes]
  rfl

/-! ## The whole of it -/

/-- The state in which the trailer of a GOOD exchange is evaluated. -/
def State.evaluatedFrom (s : State) (l : Line) (p : Post) (rep : StatusReport) : State := (s.hearPost l p).seenAt p rep

/-- A record that verifies still does, as a kit. -/
def TableKit.verifies : TableKit where
  rel t s := ∀ q, (s.trailer q).verifies = true → (t.trailer q).verifies = true
  refl _ _ := id
  after x y q hq := x q (y q hq)
  put s p r _ q hq := by
    by_cases here : q = p
    · rw [here, State.trailer_putTrailer_self]
      rfl
    · rw [State.trailer_putTrailer_other _ _ _ _ here]
      exact hq
  output _ _ _ _ := id
  inForce _ _ _ _ := id
  item s p b q hq := by rw [State.item_trailer]; exact hq
  push _ _ _ _ _ _ := id
  queue _ _ _ _ := id
  load _ _ _ _ := id
  directory _ _ _ := id
  rebuilds _ _ _ _ _ := id

def LineKit.verifies : LineKit :=
  TableKit.verifies.lines (fun s l c q hq => by rw [trailer_putLine]; exact hq) fun _ _ _ _ => id

theorem seen_of_evaluates {s : State} {l : Line} {bytes : List Byte} {r : Round} {rep : StatusReport} {pr : Profile}
    (h : s.Evaluates l bytes r rep pr) : s.Seen r.exchange.post rep := ⟨h.unit, h.verifies, h.enrolled, h.serial⟩

theorem atTable_of_evaluates {s : State} {l : Line} {bytes : List Byte} {r : Round} {rep : StatusReport} {pr : Profile}
    (h : s.Evaluates l bytes r rep pr) : s.atTable l r.exchange rep =
      (Arrival.mk (s.evaluatedFrom l r.exchange.post rep) ((s.hearPost l r.exchange.post).trailer r.exchange.post).atArrival
        none false).evaluate r.exchange.post rep (s.trailer r.exchange.post).atArrival.runHeating := by
  have heard := leaves_hearPost s l r.exchange.post
  have seen := (seen_of_evaluates h)
  have verifies : ((s.hearPost l r.exchange.post).trailer r.exchange.post).verifies = true :=
    LineKit.verifies.hearPost s l r.exchange.post r.exchange.post h.verifies
  refine statusAtTable_of_seen ⟨seen.unit, verifies, ?_, ?_⟩ _
  · exact (heard.field TrailerRecord.state fun _ => rfl).trans seen.enrolled
  · exact (heard.field TrailerRecord.serial fun _ => rfl).trans seen.serial

theorem leaves_evaluatedFrom (s : State) (l : Line) (p : Post) (rep : StatusReport) :
    Leaves p [.linkLost] ((s.trailer p).seen rep s.now) s (s.evaluatedFrom l p rep) := by
  have heard := leaves_hearPost s l p
  have seen := leaves_seenAt (s.hearPost l p) p rep
  rw [heard.now] at seen
  exact (heard.step (f := fun t => t.seen rep s.now) seen fun _ => rfl).mono (by simp)

/-! ## The owners before Run Control, in their order (R48, R114, R134) -/

/-- The states between the owners, and what each owner leaves. -/
structure Watches (p : Post) (rep : StatusReport) (before : AtArrival) (pr : Profile) (s s₁ s₂ s₃ s₄ t : State) : Prop where
  senses : Senses p rep s s₁
  frosts : Leaves p [] { s₁.trailer p with
    f := (s₁.frosted (s₁.trailer p) rep before).f, r := (s₁.frosted (s₁.trailer p) rep before).r, lastEval := some s₁.now } s₁ s₂
  fuel : Leaves p [.senderFault, .fuelLoss, .lowFuel, .defrostAborted] { s₂.trailer p with fuel := (s₃.trailer p).fuel } s₂ s₃
  audits : pr.sender = true → Audits p pr rep before.runHeating s₂ s₃
  unfitted : pr.sender = false → s₃ = s₂
  reports : Reports p rep.door s₃ s₄
  ajar : TestsAjar p s₄ t

theorem watches_watched {s : State} {p : Post} {pr : Profile} (profile : s.profileOf (s.trailer p) = some pr)
    (rep : StatusReport) (before : AtArrival) : ∃ s₁ s₂ s₃ s₄, Watches p rep before pr s s₁ s₂ s₃ s₄ (s.watched p rep before).1 ∧
      (s.watched p rep before).2 = (s₃.trailer p).door.change rep.door := by
  have senses := senses_frostSensors s p rep
  have frosts := leaves_frostStep (s.frostSensors p rep) p rep before
  have held : ((s.frostSensors p rep).frostStep p rep before).profileOf
      (((s.frostSensors p rep).frostStep p rep before).trailer p) = some pr := by
    have bound : (((s.frostSensors p rep).frostStep p rep before).trailer p).profile = (s.trailer p).profile :=
      (frosts.field TrailerRecord.profile fun _ => rfl).trans (senses.leaves.field TrailerRecord.profile fun _ => rfl)
    rw [frosts.profileOf, senses.leaves.profileOf]
    unfold State.profileOf at profile ⊢
    rw [bound]
    exact profile
  refine ⟨_, _, _, _, ⟨senses, frosts, leaves_fuelEvaluation held rep before,
    fun sender => audits_fuelEvaluation held sender rep before, fun no => fuelEvaluation_of_none held no rep before,
    reports_doorReport _ p rep.door, testsAjar_ajarTest _ p⟩, ?_⟩
  exact change_doorReport _ p rep.door

end Sys2Proof.Machine


/-! # The evaluation of an ENROLLED trailer with no run -/

namespace Sys2Proof.Machine

/-- What the GOOD exchange of an ENROLLED trailer with no run leaves: the record as it was seen, the owners' work, and what
filing and OUTPUT-MISMATCH add. -/
structure EvaluatesIdle (p : Post) (rep : StatusReport) (pr : Profile) (s s₀ s₁ s₂ s₃ s₄ s₅ v : State) : Prop where
  seen : Leaves p [.linkLost] ((s.trailer p).seen rep s.now) s s₀
  watches : Watches p rep (s.trailer p).atArrival pr s₀ s₁ s₂ s₃ s₄ s₅
  ends : Leaves p [.outputMismatch, .defrostAborted] (s₅.trailer p) s₅ v

theorem atArrival_of_idle {t u : TrailerRecord} (idle : t.run = none) (idle' : u.run = none) (door : u.door = t.door) :
    u.atArrival = t.atArrival := by
  unfold TrailerRecord.atArrival
  rw [idle, idle', door]

theorem evaluatesIdle_goodResult {s : State} {l : Line} {bytes : List Byte} {r : Round} {rep : StatusReport} {pr : Profile}
    (h : s.Evaluates l bytes r rep pr) (idle : s.run r.exchange.post = none) : ∃ s₀ s₁ s₂ s₃ s₄ s₅,
      EvaluatesIdle r.exchange.post rep pr s s₀ s₁ s₂ s₃ s₄ s₅ (s.goodResult l r.exchange rep) := by
  generalize hp : r.exchange.post = p at *
  have heard := leaves_hearPost s l p
  have unrun := unrun_hearPost idle l
  have before : ((s.hearPost l p).trailer p).atArrival = (s.trailer p).atArrival :=
    atArrival_of_idle idle unrun (heard.field TrailerRecord.door fun _ => rfl)
  have seen := leaves_evaluatedFrom s l p rep
  have idle₀ : (s.evaluatedFrom l p rep).run p = none := (StageKit.unrun p).seenAt _ rep unrun
  have profile : (s.evaluatedFrom l p rep).profileOf ((s.evaluatedFrom l p rep).trailer p) = some pr := by
    have bound : ((s.evaluatedFrom l p rep).trailer p).profile = (s.trailer p).profile :=
      seen.field TrailerRecord.profile fun _ => rfl
    have held := h.profile
    rw [hp] at held
    rw [seen.profileOf]
    unfold State.profileOf at held ⊢
    rw [bound]
    exact held
  have table := atTable_of_evaluates h
  rw [hp, before] at table
  rw [goodResult_eq, hp, table, evaluate_eq]
  generalize s.evaluatedFrom l p rep = s₀ at *
  obtain ⟨s₁, s₂, s₃, s₄, watches, -⟩ := watches_watched profile rep (s.trailer p).atArrival
  have idle₅ := (StageKit.unrun p).watched s₀ rep (s.trailer p).atArrival idle₀
  refine ⟨s₀, s₁, s₂, s₃, s₄, _, seen, watches, ?_⟩
  dsimp only
  rw [runEvaluation_of_idle idle₅]
  exact ((leaves_closes _ p rep _).calm (leaves_settlePlugged _ p p rep)).calm (leaves_outputAtGood _ p _ _)

/-- The record of a trailer with no run after its evaluation, beside its sets. -/
def TrailerRecord.evaluatedAs (t : TrailerRecord) (rep : StatusReport) (now : Time) (account : Nat × Nat) (fuel : FuelAccount)
    (period : Int) (ajar : Bool) : TrailerRecord :=
  let d := ({ (t.seen rep now).holdTemperatures rep with
    f := account.1, r := account.2, lastEval := some now, fuel := fuel } : TrailerRecord).doorAfter rep.door now period
  { d with door := { d.door with ajarReported := ajar } }

namespace EvaluatesIdle

variable {p : Post} {rep : StatusReport} {pr : Profile} {s s₀ s₁ s₂ s₃ s₄ s₅ v : State}
  (h : EvaluatesIdle p rep pr s s₀ s₁ s₂ s₃ s₄ s₅ v)
include h

/-- What the owners have made of the record as the door report reaches it. -/
theorem audited : Leaves p [.linkLost, .sensor, .senderFault, .fuelLoss, .lowFuel, .defrostAborted]
    { ((s.trailer p).seen rep s.now).holdTemperatures rep with
      f := (s₁.frosted (s₁.trailer p) rep (s.trailer p).atArrival).f
      r := (s₁.frosted (s₁.trailer p) rep (s.trailer p).atArrival).r
      lastEval := some s.now, fuel := (s₃.trailer p).fuel } s s₃ := by
  have sensed := h.seen.step (f := fun t => t.holdTemperatures rep) h.watches.senses.leaves fun _ => rfl
  have frosts := h.watches.frosts
  rw [sensed.now] at frosts
  have frosted := sensed.step (f := fun t => { t with
    f := (s₁.frosted (s₁.trailer p) rep (s.trailer p).atArrival).f
    r := (s₁.frosted (s₁.trailer p) rep (s.trailer p).atArrival).r, lastEval := some s.now }) frosts fun _ => rfl
  exact (frosted.step (f := fun t => { t with fuel := (s₃.trailer p).fuel }) h.watches.fuel fun _ => rfl).mono (by simp)

theorem reported : Leaves p [.linkLost, .sensor, .senderFault, .fuelLoss, .lowFuel, .defrostAborted, .doorSensor, .custodyBreak,
      .doorAjar]
    (({ ((s.trailer p).seen rep s.now).holdTemperatures rep with
      f := (s₁.frosted (s₁.trailer p) rep (s.trailer p).atArrival).f
      r := (s₁.frosted (s₁.trailer p) rep (s.trailer p).atArrival).r
      lastEval := some s.now, fuel := (s₃.trailer p).fuel } : TrailerRecord).doorAfter rep.door s.now
        (periodOf s.now s.config.hp)) s s₄ := by
  have reports := h.watches.reports.leaves
  rw [h.audited.now, h.audited.config] at reports
  exact (h.audited.step (f := fun t => t.doorAfter rep.door s.now (periodOf s.now s.config.hp)) reports fun _ => rfl).mono
    (by simp)

theorem leaves : Leaves p [.linkLost, .sensor, .senderFault, .fuelLoss, .lowFuel, .defrostAborted, .doorSensor, .custodyBreak,
      .doorAjar, .outputMismatch]
    ((s.trailer p).evaluatedAs rep s.now
      ((s₁.frosted (s₁.trailer p) rep (s.trailer p).atArrival).f, (s₁.frosted (s₁.trailer p) rep (s.trailer p).atArrival).r)
      (s₃.trailer p).fuel (periodOf s.now s.config.hp) (s₅.trailer p).door.ajarReported) s v := by
  have ajar := h.reported.step (f := fun t => { t with
    door := { t.door with ajarReported := (s₅.trailer p).door.ajarReported } }) h.watches.ajar.leaves fun _ => rfl
  exact (ajar.calm h.ends).mono (by simp)

/-- The door as the report leaves it. -/
theorem door_reported : (s₄.trailer p).door = (s.trailer p).door.after rep.door s.now (periodOf s.now s.config.hp) :=
  h.reported.field TrailerRecord.door fun _ => rfl

theorem after_sensors : Leaves p [.senderFault, .fuelLoss, .lowFuel, .defrostAborted, .doorSensor, .custodyBreak, .doorAjar,
    .outputMismatch] (v.trailer p) s₁ v := by
  have all := ((h.watches.frosts.trans h.watches.fuel).trans h.watches.reports.leaves).trans
    (h.watches.ajar.leaves.trans h.ends)
  exact (all.as all.rest.symm).mono (by simp)

theorem after_report : Leaves p [.doorAjar, .defrostAborted, .outputMismatch] (v.trailer p) s₄ v := by
  have all := h.watches.ajar.leaves.trans h.ends
  exact (all.as all.rest.symm).mono (by simp)

/-- F and R are those of the frost step on the held temperatures (R50). -/
theorem account : let y := (s.editTrailer p fun x => x.holdTemperatures rep).frostStep p rep (s.trailer p).atArrival
    (s₁.frosted (s₁.trailer p) rep (s.trailer p).atArrival).f = (y.trailer p).f ∧
    (s₁.frosted (s₁.trailer p) rep (s.trailer p).atArrival).r = (y.trailer p).r := by
  have held := leaves_edit s p (fun x => x.holdTemperatures rep) rfl rfl
  have sensed := h.seen.step (f := fun t => t.holdTemperatures rep) h.watches.senses.leaves fun _ => rfl
  dsimp only
  generalize (s.editTrailer p fun x => x.holdTemperatures rep) = w at *
  have frosts := leaves_frostStep w p rep (s.trailer p).atArrival
  have both {α : Type} (π : TrailerRecord → α) (hπ : ∀ x, π x.rest = π x)
      (same : π (((s.trailer p).seen rep s.now).holdTemperatures rep) = π ((s.trailer p).holdTemperatures rep)) :
      π (s₁.trailer p) = π (w.trailer p) := (sensed.field π hπ).trans (same.trans (held.field π hπ).symm)
  obtain ⟨f, r⟩ := frosted_of_same (s := w) (t := s₁) (sensed.now.trans held.now.symm) (sensed.weather.trans held.weather.symm)
    (sensed.config.trans held.config.symm) (both TrailerRecord.lastEval (fun _ => rfl) rfl)
    (both TrailerRecord.tr (fun _ => rfl) rfl) (both TrailerRecord.tc (fun _ => rfl) rfl)
    (both TrailerRecord.f (fun _ => rfl) rfl) (both TrailerRecord.r (fun _ => rfl) rfl) rep (s.trailer p).atArrival
  rw [f, r]
  exact ⟨(frosts.field TrailerRecord.f fun _ => rfl).symm, (frosts.field TrailerRecord.r fun _ => rfl).symm⟩

end EvaluatesIdle

end Sys2Proof.Machine


/-! # The evaluation of an ENROLLED trailer with no run, settled (R48 to R53, R134 to R141) -/

namespace Sys2Proof.Machine

/-- Two records agree beside the run. -/
theorem sets_of_offRun {t u : TrailerRecord} (h : u.offRun = t.offRun) (c : FindingClass) :
    u.stands c = t.stands c ∧ u.detailOf c = t.detailOf c ∧ u.activeOf c = t.activeOf c ∧ u.notedOf c = t.notedOf c :=
  ⟨TrailerRecord.field_of_offRun h (TrailerRecord.stands · c) fun _ => rfl,
    TrailerRecord.field_of_offRun h (TrailerRecord.detailOf · c) fun _ => rfl,
    TrailerRecord.field_of_offRun h (TrailerRecord.activeOf · c) fun _ => rfl,
    TrailerRecord.field_of_offRun h (TrailerRecord.notedOf · c) fun _ => rfl⟩

/-- A class that a step leaves, as it is then and before. -/
theorem Leaves.sets {p : Post} {cs : List FindingClass} {x : TrailerRecord} {s t : State} (h : Leaves p cs x s t)
    {c : FindingClass} (hc : c ∉ cs) : (t.trailer p).stands c = (s.trailer p).stands c ∧
      (t.trailer p).detailOf c = (s.trailer p).detailOf c ∧ (t.trailer p).activeOf c = (s.trailer p).activeOf c ∧
      (t.trailer p).notedOf c = (s.trailer p).notedOf c :=
  ⟨h.stands hc, h.detailOf hc, h.active c hc, h.noted c hc⟩

namespace EvaluatesIdle

variable {p : Post} {rep : StatusReport} {pr : Profile} {s s₀ s₁ s₂ s₃ s₄ s₅ v : State}
  (h : EvaluatesIdle p rep pr s s₀ s₁ s₂ s₃ s₄ s₅ v)
include h

/-- SENSOR at the evaluation (R53), by the counts that the record then holds. -/
theorem sensor {u : TrailerRecord} (hu : u.offRun = (v.trailer p).offRun) :
    let t := s.trailer p
    let reached := (if u.trInvalid = 10 ∧ t.trInvalid ≠ 10 then 1 else 0) + (if u.tcInvalid = 10 ∧ t.tcInvalid ≠ 10 then 2 else 0)
    (reached ≠ 0 → s.phase = .running →
      u.stands .sensor = true ∧ (t.stands .sensor = false → u.detailOf .sensor = some reached)) ∧
    (u.trInvalid < 10 → u.tcInvalid < 10 → t.InOneSet .sensor → u.stands .sensor = false) ∧
    (reached = 0 → (10 ≤ u.trInvalid ∨ 10 ≤ u.tcInvalid) →
      u.activeOf .sensor = t.activeOf .sensor ∧ u.notedOf .sensor = t.notedOf .sensor) := by
  obtain ⟨stands, detail, active, noted⟩ := sets_of_offRun hu .sensor
  obtain ⟨stands', detail', active', noted'⟩ := h.after_sensors.sets (c := .sensor) (by decide)
  obtain ⟨stands₀, -, active₀, noted₀⟩ := h.seen.sets (c := .sensor) (by decide)
  have counts : u.trInvalid = ((s₀.trailer p).holdTemperatures rep).trInvalid ∧
      u.tcInvalid = ((s₀.trailer p).holdTemperatures rep).tcInvalid := by
    have same {α : Type} (π : TrailerRecord → α) (hπ : ∀ x, π x.offRun = π x) (hπ' : ∀ x, π x.rest = π x)
        (keeps : π (v.trailer p) = π (s₁.trailer p)) : π u = π ((s₀.trailer p).holdTemperatures rep) :=
      (TrailerRecord.field_of_offRun hu π hπ).trans (keeps.trans (h.watches.senses.leaves.field π hπ'))
    have frosts := h.leaves
    have sensed := h.seen.step (f := fun t => t.holdTemperatures rep) h.watches.senses.leaves fun _ => rfl
    exact ⟨same TrailerRecord.trInvalid (fun _ => rfl) (fun _ => rfl) ((frosts.field TrailerRecord.trInvalid fun _ => rfl).trans
        (sensed.field TrailerRecord.trInvalid fun _ => rfl).symm),
      same TrailerRecord.tcInvalid (fun _ => rfl) (fun _ => rfl) ((frosts.field TrailerRecord.tcInvalid fun _ => rfl).trans
        (sensed.field TrailerRecord.tcInvalid fun _ => rfl).symm)⟩
  have before : (s₀.trailer p).trInvalid = (s.trailer p).trInvalid ∧ (s₀.trailer p).tcInvalid = (s.trailer p).tcInvalid :=
    ⟨h.seen.field TrailerRecord.trInvalid fun _ => rfl, h.seen.field TrailerRecord.tcInvalid fun _ => rfl⟩
  obtain ⟨-, raises, clears, stays⟩ := h.watches.senses
  unfold sensorDetail at raises stays
  rw [← counts.1, ← counts.2, before.1, before.2] at raises stays
  rw [← counts.1, ← counts.2] at clears
  rw [h.seen.running, stands₀] at raises
  rw [active₀, noted₀] at stays
  dsimp only
  rw [stands, stands', detail, detail', active, active', noted, noted']
  exact ⟨fun reached on => raises reached (running_of_phase on),
    fun tr tc one => clears tr tc (h.seen.inOneSet (by decide) one), stays⟩

/-- DOOR-SENSOR at the evaluation (R135). -/
theorem doorSensor {u : TrailerRecord} (hu : u.offRun = (v.trailer p).offRun) :
    let t := s.trailer p
    (rep.door = .unknown → t.door.unknownCount = 9 → s.phase = .running → u.stands .doorSensor = true ∧
      (t.stands .doorSensor = false →
        u.detailOf .doorSensor = some (match t.door.held with | none => 0 | some .closed => 1 | some .opened => 2))) ∧
    (rep.door = .unknown → t.door.unknownCount ≠ 9 →
      u.activeOf .doorSensor = t.activeOf .doorSensor ∧ u.notedOf .doorSensor = t.notedOf .doorSensor) ∧
    (rep.door ≠ .unknown → t.InOneSet .doorSensor → u.stands .doorSensor = false) := by
  obtain ⟨stands, detail, active, noted⟩ := sets_of_offRun hu .doorSensor
  obtain ⟨stands', detail', active', noted'⟩ := h.after_report.sets (c := .doorSensor) (by decide)
  obtain ⟨stands₀, -, active₀, noted₀⟩ := h.audited.sets (c := .doorSensor) (by decide)
  have door : (s₃.trailer p).door = (s.trailer p).door := h.audited.field TrailerRecord.door fun _ => rfl
  obtain ⟨-, ninth, unknown, known, -, -⟩ := h.watches.reports
  rw [door, h.audited.running, stands₀] at ninth
  rw [door, active₀, noted₀] at unknown
  dsimp only
  rw [stands, stands', detail, detail', active, active', noted, noted']
  refine ⟨fun un nine on => ⟨(ninth un nine (running_of_phase on)).1, fun free => ?_⟩, unknown,
    fun is one => known is (h.audited.inOneSet (by decide) one)⟩
  refine ((ninth un nine (running_of_phase on)).2 free).trans (congrArg some ?_)
  unfold heldDetail
  rfl

/-- The door, custody, CUSTODY-BREAK and DOOR-AJAR at the evaluation (R135 to R141, R144). -/
theorem door (profile : s.profileOf (s.trailer p) = some pr) {u : TrailerRecord} (hu : u.offRun = (v.trailer p).offRun) :
    let t := s.trailer p
    (rep.door = .unknown →
      u.door = { t.door with unknownCount := min 255 (t.door.unknownCount + 1), ajarReported := u.door.ajarReported }) ∧
    (rep.door = .opened → t.door.held = some .opened →
      u.door = { t.door with unknownCount := 0, ajarReported := u.door.ajarReported }) ∧
    (rep.door = .opened → t.door.held ≠ some .opened →
      u.door = { ((s.opening p).trailer p).door with unknownCount := 0, ajarReported := u.door.ajarReported } ∧
      u.custody = ((s.opening p).trailer p).custody ∧
      (s.phase = .running → ∀ tag, t.custody = .closed tag → u.stands .custodyBreak = true)) ∧
    (rep.door = .closed →
      u.door = { t.door with
        held := some .closed, unknownCount := 0
        openingTime := if t.door.held = some .opened then none else t.door.openingTime
        ajarReported := if t.door.held = some .opened then false else t.door.ajarReported } ∧
      (t.door.held = some .opened → t.InOneSet .doorAjar → u.stands .doorAjar = false)) ∧
    ((rep.door ≠ .opened ∨ t.door.held = some .opened) → u.custody = t.custody) ∧
    (∀ o, rep.door ≠ .closed → t.door.held = some .opened → t.door.openingTime = some o →
      ((pr.ajar : Int) ≤ s.now - o → u.door.ajarReported = true ∧
        (s.phase = .running → t.door.ajarReported = false → u.stands .doorAjar = true)) ∧
      (s.now - o < (pr.ajar : Int) → u.door.ajarReported = t.door.ajarReported)) := by
  have field {α : Type} (π : TrailerRecord → α) (hπ : ∀ x, π x.offRun = π x) (hπ' : ∀ x, π x.rest = π x) :
      π u = π (v.trailer p) := TrailerRecord.field_of_offRun hu π hπ
  have door : u.door = { (s.trailer p).door.after rep.door s.now (periodOf s.now s.config.hp) with
      ajarReported := (s₅.trailer p).door.ajarReported } :=
    (field TrailerRecord.door (fun _ => rfl) fun _ => rfl).trans (h.leaves.field TrailerRecord.door fun _ => rfl)
  have custody : u.custody = if rep.door = .opened ∧ (s.trailer p).door.held ≠ some .opened
      then (s.trailer p).custody.atOpening else (s.trailer p).custody :=
    (field TrailerRecord.custody (fun _ => rfl) fun _ => rfl).trans (h.leaves.field TrailerRecord.custody fun _ => rfl)
  have flag : u.door.ajarReported = (s₅.trailer p).door.ajarReported := by rw [door]
  have reported := h.door_reported
  obtain ⟨_, due, early, shut⟩ := h.watches.ajar
  obtain ⟨-, -, -, -, breaks, shuts⟩ := h.watches.reports
  have door₃ : (s₃.trailer p).door = (s.trailer p).door := h.audited.field TrailerRecord.door fun _ => rfl
  have custody₃ : (s₃.trailer p).custody = (s.trailer p).custody := h.audited.field TrailerRecord.custody fun _ => rfl
  rw [door₃, h.audited.running, custody₃] at breaks
  rw [door₃] at shuts
  dsimp only
  refine ⟨fun is => ?_, fun is already => ?_, fun is fresh => ⟨?_, ?_, fun on tag closed => ?_⟩, fun is => ⟨?_, fun opened one => ?_⟩,
    fun quiet => ?_, fun o open' opened since => ?_⟩
  · rw [flag, door, is]
    rfl
  · rw [flag, door, is]
    unfold DoorGroup.after
    dsimp only
    rw [if_pos already]
  · rw [flag, door, is, (opens_opening s p).door]
    unfold DoorGroup.after
    dsimp only
    rw [if_neg fresh]
    rfl
  · rw [custody, if_pos ⟨is, fresh⟩, (leaves_opening s p).field TrailerRecord.custody fun _ => rfl]
    rfl
  · rw [(sets_of_offRun hu .custodyBreak).1, h.after_report.stands (by decide)]
    exact breaks is fresh (running_of_phase on) tag closed
  · have closed : (s₄.trailer p).door.held ≠ some .opened := by
      rw [reported, is]
      exact nofun
    rw [door, shut closed, reported, is]
    rfl
  · have closed : (s₄.trailer p).door.held ≠ some .opened := by
      rw [reported, is]
      exact nofun
    have ends := h.ends
    rw [shut closed] at ends
    rw [(sets_of_offRun hu .doorAjar).1, ends.stands (by decide)]
    exact shuts is opened (h.audited.inOneSet (by decide) one)
  · rw [custody, if_neg fun both => quiet.elim (fun other => other both.1) both.2]
  · have after : ((s.trailer p).door.after rep.door s.now (periodOf s.now s.config.hp)).held = some .opened ∧
        ((s.trailer p).door.after rep.door s.now (periodOf s.now s.config.hp)).openingTime = some o ∧
        ((s.trailer p).door.after rep.door s.now (periodOf s.now s.config.hp)).ajarReported
          = (s.trailer p).door.ajarReported := by
      unfold DoorGroup.after
      cases is : rep.door with
      | unknown => exact ⟨opened, since, rfl⟩
      | opened =>
        dsimp only
        rw [if_pos opened]
        exact ⟨opened, since, rfl⟩
      | closed => exact absurd is open'
    have bound : s₄.profileOf (s₄.trailer p) = some pr := by
      have same : (s₄.trailer p).profile = (s.trailer p).profile := h.reported.field TrailerRecord.profile fun _ => rfl
      rw [h.reported.profileOf]
      unfold State.profileOf at profile ⊢
      rw [same]
      exact profile
    have due := due pr o bound (by rw [reported]; exact after.1) (by rw [reported]; exact after.2.1)
    have early := early pr o bound (by rw [reported]; exact after.1) (by rw [reported]; exact after.2.1)
    rw [h.reported.now, h.reported.running, reported, after.2.2] at due
    rw [h.reported.now, reported, after.2.2] at early
    rw [flag, (sets_of_offRun hu .doorAjar).1, h.ends.stands (by decide)]
    exact ⟨fun late => ⟨(due late).1, fun on no => (due late).2 (running_of_phase on) no⟩, early⟩

end EvaluatesIdle

end Sys2Proof.Machine


/-! # The evaluation of an ENROLLED trailer, from the frame on -/

namespace Sys2Proof.Machine

theorem TakesFault.world {v w : State} (h : TakesFault v w) : WorldSame v w := by
  obtain ⟨changes, tx, -, -⟩ := h
  generalize w.restartRecord = a, w.phase = b, w.rebuilds = c, w.heldCauses = d, w.lineA = e, w.lineB = f, w.stations = g,
    w.notices = i, w.noticesLost = j, w.tx = k at changes tx
  subst changes
  exact ⟨rfl, rfl, rfl, rfl, rfl, rfl, rfl, rfl, rfl, rfl, rfl, rfl, rfl, rfl, rfl, rfl, rfl, rfl, rfl, rfl, rfl, tx, rfl, rfl⟩

/-- A GOOD exchange touches nothing that no event of a post line touches. -/
theorem world_exchangeGood {s : State} {l : Line} {bytes : List Byte} {r : Round} {rep : StatusReport}
    (h : s.Hears l bytes r rep) : WorldSame s (s.exchangeGood l r rep) := by
  obtain ⟨heard, takes, -⟩ := settled_goodResult h
  rw [exchangeGood_eq]
  exact (heard.world.trans takes.world).trans (LineKit.host.nextAddress _ l).world

theorem verifies_exchangeGood {s : State} {l : Line} {bytes : List Byte} {r : Round} {rep : StatusReport}
    (h : s.Hears l bytes r rep) {q : Post} (verifies : (s.trailer q).verifies = true) :
    ((s.exchangeGood l r rep).trailer q).verifies = true := by
  obtain ⟨-, takes, -⟩ := settled_goodResult h
  have first := LineKit.verifies.goodResult s l r.exchange rep q verifies
  rw [exchangeGood_eq]
  generalize s.goodResult l r.exchange rep = v at *
  refine LineKit.verifies.nextAddress _ l q ?_
  have same : v.settleCauses.trailer q = v.trailer q := by
    rw [takes.changes]
    rfl
  rw [same]
  exact first

/-- Settles O37: the stages of the evaluation from the record as it was seen, and what follows leaves the record beside its
run. -/
theorem statusEvaluatesTheTrailer : Obligations.StatusEvaluatesTheTrailer := by
  intro l bytes s r rep pr
  dsimp only
  intro h idle
  obtain ⟨s₀, s₁, s₂, s₃, s₄, s₅, stages⟩ := evaluatesIdle_goodResult h idle
  have finishes := finishes_exchangeGood h.toHears
  refine ⟨_, h.toHears.exec, world_exchangeGood h.toHears, ?_⟩
  have verifies := verifies_exchangeGood h.toHears h.verifies
  have enrolled := h.enrolled
  have profile := h.profile
  generalize s.exchangeGood l r rep = u at *
  generalize s.goodResult l r.exchange rep = v at *
  generalize r.exchange.post = p at *
  have leaves := stages.leaves
  have state : (v.trailer p).state = .enrolled := (leaves.field TrailerRecord.state fun _ => rfl).trans enrolled
  have off := finishes.offRun p (.inl (by rw [state]; nofun))
  have field {α : Type} (π : TrailerRecord → α) (hπ : ∀ x, π x.offRun = π x) (hπ' : ∀ x, π x.rest = π x) :
      π (u.trailer p) = _ := (TrailerRecord.field_of_offRun off π hπ).trans (leaves.field π hπ')
  obtain ⟨f, r'⟩ := stages.account
  obtain ⟨ninth, unknown, known⟩ := stages.doorSensor off
  obtain ⟨un, already, opens, closes, custody, ajar⟩ := stages.door profile off
  refine ⟨(field TrailerRecord.state (fun _ => rfl) fun _ => rfl).trans enrolled, field TrailerRecord.serial (fun _ => rfl) fun _ => rfl,
    field TrailerRecord.profile (fun _ => rfl) fun _ => rfl, field TrailerRecord.arrival (fun _ => rfl) fun _ => rfl,
    field TrailerRecord.inhibit (fun _ => rfl) fun _ => rfl, field TrailerRecord.mask (fun _ => rfl) fun _ => rfl,
    field TrailerRecord.deferral (fun _ => rfl) fun _ => rfl, field TrailerRecord.lastDefrostEnd (fun _ => rfl) fun _ => rfl,
    field TrailerRecord.model (fun _ => rfl) fun _ => rfl, field TrailerRecord.unitAbsent (fun _ => rfl) fun _ => rfl,
    field TrailerRecord.lastStatus (fun _ => rfl) fun _ => rfl, field TrailerRecord.lastEval (fun _ => rfl) fun _ => rfl,
    verifies, ?_, ?_, stages.sensor off, ninth, unknown, known, ?_, ?_, un, already, opens, closes, custody, ajar,
    fun more => ⟨?_, fun q apart => ?_⟩⟩
  · rw [field TrailerRecord.tr (fun _ => rfl) fun _ => rfl, field TrailerRecord.trInvalid (fun _ => rfl) fun _ => rfl]
    exact heldAfter_holdTemperature _ _ _ _ _
  · rw [field TrailerRecord.tc (fun _ => rfl) fun _ => rfl, field TrailerRecord.tcInvalid (fun _ => rfl) fun _ => rfl]
    exact heldAfter_holdTemperature _ _ _ _ _
  · exact (field TrailerRecord.f (fun _ => rfl) fun _ => rfl).trans f
  · exact (field TrailerRecord.r (fun _ => rfl) fun _ => rfl).trans r'
  · exact ((finishes.still more).2.2.2).trans leaves.directory
  · have same : (u.trailer q).offRun = (s.trailer q).offRun := (finishes.offRun q (.inr more)).trans (leaves.others q apart)
    exact congrArg (fun t : TrailerRecord => { t with run := (u.trailer q).run }) same

end Sys2Proof.Machine


/-! # The fuel account's cases (R117 to R126), and what Run Control leaves of it -/

namespace Sys2Proof.Machine

/-! ## The account after a reading -/

section
variable {a : FuelAccount} {now : Time} {pr : Profile} {raw : Nat}

theorem secondsBetween_self (now : Time) : secondsBetween now now = 0 := by
  unfold secondsBetween
  rw [Int.sub_self]
  rfl

/-- A window that starts now is not closed. -/
theorem closeWindow_of_fresh {n : Nat} (fresh : a.window = some (.opened now n)) (pr : Profile) : a.closeWindow now pr = (a, none) := by
  unfold FuelAccount.closeWindow
  rw [fresh]
  dsimp only
  exact if_pos (by
    have none : secondsBetween (BurnWindow.opened now n).start now = 0 := secondsBetween_self now
    rw [none]
    decide)

/-- The account that a reading starts anew: the filter's first reading, or a refuel taken (R120, R122). -/
def FuelAccount.anew (a : FuelAccount) (now : Time) (level : Nat) (pending : Bool) : FuelAccount :=
  { a with
    started := true, lf16 := 16 * level, lastLevel := some level, invalidCount := 0, refuelPending := pending
    window := some (.opened now (reportedLevel (16 * level))) }

/-- The account of a reading that moves the filter or finds a refuel (R121, R122), before its window. -/
def FuelAccount.moved (a : FuelAccount) (level : Nat) (rises : Prop) [Decidable rises] : FuelAccount :=
  { a with
    lastLevel := some level, invalidCount := 0, refuelPending := decide rises
    lf16 := if rises then a.lf16 else filterStep a.lf16 level }

theorem reads_of_first (valid : rawValid raw = true) (first : a.started = false) :
    a.reads now pr raw = (a.anew now (convert pr.curve raw) a.refuelPending, none) := by
  have taken : a.take now (convert pr.curve raw) pr.refuel
      = (a.anew now (convert pr.curve raw) a.refuelPending, none) := by
    unfold FuelAccount.take
    dsimp only
    rw [first]
    rfl
  unfold FuelAccount.reads
  rw [if_pos valid, taken]
  dsimp only
  rw [if_neg (by simp)]
  exact closeWindow_of_fresh rfl pr

theorem reads_of_refuel (valid : rawValid raw = true) (started : a.started = true)
    (rises : (pr.refuel : Int) ≤ (convert pr.curve raw : Int) - (reportedLevel a.lf16 : Int)) (pending : a.refuelPending = true) :
    a.reads now pr raw = (a.anew now (convert pr.curve raw) false, none) := by
  have taken : a.take now (convert pr.curve raw) pr.refuel
      = (a.anew now (convert pr.curve raw) false, some (convert pr.curve raw - reportedLevel a.lf16)) := by
    unfold FuelAccount.take
    dsimp only
    rw [if_neg (by rw [started]; decide), if_pos rises, if_pos pending]
    unfold FuelAccount.anew
    rw [started]
  unfold FuelAccount.reads
  rw [if_pos valid, taken]
  exact if_pos rfl

theorem reads_of_moved (valid : rawValid raw = true) (started : a.started = true)
    (quiet : (pr.refuel : Int) ≤ (convert pr.curve raw : Int) - (reportedLevel a.lf16 : Int) → a.refuelPending = false) :
    a.reads now pr raw = ((a.moved (convert pr.curve raw)
      ((pr.refuel : Int) ≤ (convert pr.curve raw : Int) - (reportedLevel a.lf16 : Int))).openWindow now).closeWindow now pr := by
  have taken : a.take now (convert pr.curve raw) pr.refuel = (a.moved (convert pr.curve raw)
      ((pr.refuel : Int) ≤ (convert pr.curve raw : Int) - (reportedLevel a.lf16 : Int)), none) := by
    unfold FuelAccount.take FuelAccount.moved
    dsimp only
    rw [if_neg (by rw [started]; decide)]
    split
    · rename_i rises
      rw [if_neg (by rw [quiet rises]; decide), decide_eq_true rises]
    · rename_i falls
      rw [decide_eq_false falls]
  unfold FuelAccount.reads
  rw [if_pos valid, taken]
  dsimp only
  rw [if_neg (by simp)]

theorem reads_of_invalid (invalid : rawValid raw = false) :
    a.reads now pr raw = ({ a with invalidCount := bump255 a.invalidCount }, none) :=
  if_neg (by rw [invalid]; exact Bool.false_ne_true)

end

/-! ## The burn window (R123 to R126) -/

/-- What the window makes of an account with the filter STARTED. -/
structure ClosesWindow (now : Time) (pr : Profile) (c : FuelAccount) (y : FuelAccount × Option Nat) : Prop where
  rest : y.1 = { c with window := y.1.window, bs := y.1.bs }
  opens : c.window = none → y.1.window = some (.opened now c.level) ∧ y.1.bs = c.bs
  early : ∀ w, c.window = some w → (now - w.start).toNat < 600 → y.1.window = some w ∧ y.1.bs = c.bs
  late : ∀ w, c.window = some w → 3600 < (now - w.start).toNat → y.1.window = some (.opened now c.level) ∧ y.1.bs = c.bs
  due : ∀ w, c.window = some w → 600 ≤ (now - w.start).toNat → (now - w.start).toNat ≤ 3600 →
    y.1.window = some (.opened now c.level) ∧
    y.1.bs = some (smoothBurn c.bs (burnRate ((w.lfStart : Int) - (c.level : Int)) (now - w.start).toNat)) ∧
    ((allowedBurn pr w (now - w.start).toNat : Int) < (w.lfStart : Int) - (c.level : Int) → ∃ d, y.2 = some d)

theorem closesWindow (now : Time) (pr : Profile) (c : FuelAccount) :
    ClosesWindow now pr c ((c.openWindow now).closeWindow now pr) := by
  cases window : c.window with
  | none =>
    have opened : c.openWindow now = { c with window := some (.opened now c.level) } := by
      unfold FuelAccount.openWindow
      rw [window]
    rw [opened, closeWindow_of_fresh rfl]
    have never (w : BurnWindow) (h : c.window = some w) : False := by
      rw [window] at h
      cases h
    exact ⟨rfl, fun _ => ⟨rfl, rfl⟩, fun w h => (never w h).elim, fun w h => (never w h).elim, fun w h => (never w h).elim⟩
  | some w =>
    have opened : c.openWindow now = c := by
      unfold FuelAccount.openWindow
      rw [window]
    have closes : c.closeWindow now pr =
        if (now - w.start).toNat < 600 then (c, none)
        else if 3600 < (now - w.start).toNat then ({ c with window := some (.opened now c.level) }, none)
        else ({ c with
            window := some (.opened now c.level)
            bs := some (smoothBurn c.bs (burnRate ((w.lfStart : Int) - (c.level : Int)) (now - w.start).toNat)) },
          if (allowedBurn pr w (now - w.start).toNat : Int) < (w.lfStart : Int) - (c.level : Int)
            then some (((w.lfStart : Int) - (c.level : Int)).toNat - allowedBurn pr w (now - w.start).toNat) else none) := by
      unfold FuelAccount.closeWindow
      rw [window]
      rfl
    have only {x : BurnWindow} (h : c.window = some x) : x = w := Option.some.inj (h.symm.trans window)
    rw [opened, closes]
    refine ⟨?_, fun none => ?_, fun x hx short => ?_, fun x hx long => ?_, fun x hx low high => ?_⟩
    · split_ifs <;> rfl
    · rw [window] at none
      cases none
    · rw [only hx] at short
      rw [if_pos short, only hx]
      exact ⟨window, rfl⟩
    · rw [only hx] at long
      rw [if_neg (by omega), if_pos long]
      exact ⟨rfl, rfl⟩
    · rw [only hx] at low high ⊢
      rw [if_neg (by omega), if_neg (by omega)]
      exact ⟨rfl, rfl, fun more => ⟨_, if_pos more⟩⟩

/-! ## A valid reading -/

/-- The window with the marks of this status joined (R123). -/
def BurnWindow.marked (w : BurnWindow) (heating engine : Bool) : BurnWindow :=
  { w with heating := w.heating || heating, engine := w.engine || engine }

/-- What a valid reading makes of an account, before H is recomputed (R118 to R126). -/
structure ReadsValid (a : FuelAccount) (now : Time) (pr : Profile) (level : Nat) (heating engine : Bool)
    (y : FuelAccount × Option Nat) : Prop where
  rest : y.1.started = true ∧ y.1.lastLevel = some level ∧ y.1.invalidCount = 0
  first : a.started = false → y.1.lf16 = 16 * level ∧ y.1.refuelPending = a.refuelPending ∧
    y.1.window = some (.opened now (reportedLevel y.1.lf16)) ∧ y.1.bs = a.bs
  refuel : a.started = true → (pr.refuel : Int) ≤ (level : Int) - (reportedLevel a.lf16 : Int) → a.refuelPending = true →
    y.1.lf16 = 16 * level ∧ y.1.refuelPending = false ∧ y.1.window = some (.opened now (reportedLevel y.1.lf16)) ∧ y.1.bs = a.bs
  pends : a.started = true → (pr.refuel : Int) ≤ (level : Int) - (reportedLevel a.lf16 : Int) → a.refuelPending = false →
    y.1.lf16 = a.lf16 ∧ y.1.refuelPending = true
  moves : a.started = true → ¬ (pr.refuel : Int) ≤ (level : Int) - (reportedLevel a.lf16 : Int) →
    y.1.lf16 = filterStep a.lf16 level ∧ y.1.refuelPending = false
  closes : a.started = true → ((pr.refuel : Int) ≤ (level : Int) - (reportedLevel a.lf16 : Int) → a.refuelPending = false) →
    ∃ c : FuelAccount, c.level = reportedLevel y.1.lf16 ∧ c.bs = a.bs ∧ c.window = a.window.map (·.marked heating engine) ∧
      ClosesWindow now pr c y

theorem readsValid {raw : Nat} (valid : rawValid raw = true) (a : FuelAccount) (now : Time) (pr : Profile) (heating engine : Bool) :
    ReadsValid a now pr (convert pr.curve raw) heating engine ((a.mark heating engine).reads now pr raw) := by
  cases started : a.started with
  | false =>
    rw [reads_of_first valid (a := a.mark heating engine) started]
    have never (h : a.started = true) : False := Bool.false_ne_true (started.symm.trans h)
    exact ⟨⟨rfl, rfl, rfl⟩, fun _ => ⟨rfl, rfl, rfl, rfl⟩, fun h => (never h).elim, fun h => (never h).elim,
      fun h => (never h).elim, fun h => (never h).elim⟩
  | true =>
    have never (h : a.started = false) : False := Bool.false_ne_true (h.symm.trans started)
    by_cases taken : (pr.refuel : Int) ≤ (convert pr.curve raw : Int) - (reportedLevel a.lf16 : Int) ∧ a.refuelPending = true
    · obtain ⟨rises, pending⟩ := taken
      rw [reads_of_refuel valid (a := a.mark heating engine) started rises pending]
      refine ⟨⟨rfl, rfl, rfl⟩, fun h => (never h).elim, fun _ _ _ => ⟨rfl, rfl, rfl, rfl⟩, fun _ _ none => ?_, fun _ falls => absurd rises falls,
        fun _ quiet => ?_⟩
      · rw [pending] at none
        cases none
      · rw [quiet rises] at pending
        cases pending
    · have quiet (rises : (pr.refuel : Int) ≤ (convert pr.curve raw : Int) - (reportedLevel a.lf16 : Int)) :
          a.refuelPending = false := Bool.eq_false_iff.mpr fun pending => taken ⟨rises, pending⟩
      rw [reads_of_moved valid (a := a.mark heating engine) started quiet]
      have closes := closesWindow now pr ((a.mark heating engine).moved (convert pr.curve raw)
        ((pr.refuel : Int) ≤ (convert pr.curve raw : Int) - (reportedLevel a.lf16 : Int)))
      have level : ((a.mark heating engine).moved (convert pr.curve raw)
          ((pr.refuel : Int) ≤ (convert pr.curve raw : Int) - (reportedLevel a.lf16 : Int))).level = reportedLevel
          ((a.mark heating engine).moved (convert pr.curve raw)
            ((pr.refuel : Int) ≤ (convert pr.curve raw : Int) - (reportedLevel a.lf16 : Int))).lf16 := if_pos started
      have lf (rises : Prop) [Decidable rises] : ((a.mark heating engine).moved (convert pr.curve raw) rises).lf16
        = if rises then a.lf16 else filterStep a.lf16 (convert pr.curve raw) := rfl
      have pending (rises : Prop) [Decidable rises] :
        ((a.mark heating engine).moved (convert pr.curve raw) rises).refuelPending = decide rises := rfl
      have bs (rises : Prop) [Decidable rises] : ((a.mark heating engine).moved (convert pr.curve raw) rises).bs = a.bs := rfl
      have started' (rises : Prop) [Decidable rises] :
        ((a.mark heating engine).moved (convert pr.curve raw) rises).started = true := started
      have count (rises : Prop) [Decidable rises] :
        ((a.mark heating engine).moved (convert pr.curve raw) rises).lastLevel = some (convert pr.curve raw) ∧
        ((a.mark heating engine).moved (convert pr.curve raw) rises).invalidCount = 0 := ⟨rfl, rfl⟩
      have window (rises : Prop) [Decidable rises] : ((a.mark heating engine).moved (convert pr.curve raw) rises).window
        = a.window.map (·.marked heating engine) := rfl
      have same {α : Type} (π : FuelAccount → α) (hπ : ∀ (c : FuelAccount) w b, π { c with window := w, bs := b } = π c) :=
        (congrArg π closes.rest).trans (hπ _ _ _)
      have lf' := (same FuelAccount.lf16 fun _ _ _ => rfl).trans (lf _)
      have pending' := (same FuelAccount.refuelPending fun _ _ _ => rfl).trans (pending _)
      refine ⟨⟨(same FuelAccount.started fun _ _ _ => rfl).trans (started' _),
        (same FuelAccount.lastLevel fun _ _ _ => rfl).trans (count _).1,
        (same FuelAccount.invalidCount fun _ _ _ => rfl).trans (count _).2⟩, fun h => (never h).elim, fun _ rises pends => ?_, fun _ rises _ => ?_,
        fun _ falls => ?_, fun _ _ => ⟨_, ?_, bs _, window _, closes⟩⟩
      · rw [quiet rises] at pends
        cases pends
      · rw [if_pos rises] at lf'
        rw [decide_eq_true rises] at pending'
        exact ⟨lf', pending'⟩
      · rw [if_neg falls] at lf'
        rw [decide_eq_false falls] at pending'
        exact ⟨lf', pending'⟩
      · exact level.trans (congrArg reportedLevel (same FuelAccount.lf16 fun _ _ _ => rfl)).symm

end Sys2Proof.Machine


/-! # What Run Control leaves of a record at an evaluation (R94 to R109) -/

namespace Sys2Proof.Machine

/-- The record with what Run Control writes beside the run taken from another (R105, R109). -/
def TrailerRecord.runAs (t u : TrailerRecord) : TrailerRecord :=
  { t with f := u.f, r := u.r, lastDefrostEnd := u.lastDefrostEnd, deferral := u.deferral }

/-- Run Control leaves the record beside its run, F, R, the last defrost end and the deferral, and the sets of its own
findings. -/
def RunsAt (p : Post) (s t : State) : Prop :=
  Leaves p [.heaterWeak, .defrostStartFailed, .defrostAborted] ((s.trailer p).runAs (t.trailer p)) s t

namespace RunsAt

variable {p : Post} {s t u : State}

theorem of_leaves {cs : List FindingClass} (h : Leaves p cs (s.trailer p) s t)
    (sub : ∀ c ∈ cs, c ∈ [FindingClass.heaterWeak, .defrostStartFailed, .defrostAborted]) : RunsAt p s t := by
  refine (h.as ?_).mono sub
  have same {α : Type} (π : TrailerRecord → α) (hπ : ∀ x, π x.rest = π x) := h.field π hπ
  unfold TrailerRecord.runAs
  rw [same TrailerRecord.f fun _ => rfl, same TrailerRecord.r fun _ => rfl, same TrailerRecord.lastDefrostEnd fun _ => rfl,
    same TrailerRecord.deferral fun _ => rfl]

theorem refl (p : Post) (s : State) : RunsAt p s s := .of_leaves (.refl p s) nofun

theorem trans (h : RunsAt p s t) (k : RunsAt p t u) : RunsAt p s u :=
  (Leaves.step (f := fun y => y.runAs (u.trailer p)) h k fun _ => rfl).mono (by simp)

/-- What follows Run Control and leaves the record beside run and sets. -/
theorem ends {cs ds : List FindingClass} (h : RunsAt p s t) (k : Leaves p cs (t.trailer p) t u)
    (sub : ∀ c ∈ [FindingClass.heaterWeak, .defrostStartFailed, .defrostAborted] ++ cs, c ∈ ds) :
    Leaves p ds ((s.trailer p).runAs (u.trailer p)) s u := by
  have same {α : Type} (π : TrailerRecord → α) (hπ : ∀ x, π x.rest = π x) := k.field π hπ
  refine ((Leaves.calm h k).as ?_).mono sub
  unfold TrailerRecord.runAs
  rw [same TrailerRecord.f fun _ => rfl, same TrailerRecord.r fun _ => rfl, same TrailerRecord.lastDefrostEnd fun _ => rfl,
    same TrailerRecord.deferral fun _ => rfl]

/-- An edit of the run, F, R, the last defrost end and the deferral. -/
theorem edit (s : State) (p : Post) (f : TrailerRecord → TrailerRecord)
    (same : (f (s.trailer p)).rest = ((s.trailer p).runAs (f (s.trailer p))).rest)
    (active : (f (s.trailer p)).active = (s.trailer p).active) (noted : (f (s.trailer p)).noted = (s.trailer p).noted) :
    RunsAt p s (s.editTrailer p f) := by
  have edited := leaves_edit s p f active noted
  refine (edited.as (same.trans ?_)).mono nofun
  have field {α : Type} (π : TrailerRecord → α) (hπ : ∀ x, π x.rest = π x) := edited.field π hπ
  unfold TrailerRecord.runAs
  rw [field TrailerRecord.f fun _ => rfl, field TrailerRecord.r fun _ => rfl, field TrailerRecord.lastDefrostEnd fun _ => rfl,
    field TrailerRecord.deferral fun _ => rfl]

end RunsAt

section
variable (s : State) (p : Post)

theorem runsAt_putRun (r : Option RunRecord) : RunsAt p s (s.putRun p r) := .of_leaves (leaves_putRun s p r) nofun

/-- The finding that an outcome other than the action's abort produces (R105). -/
theorem finding_classes {o : RunOutcome} {b : Bool} {c : FindingClass} {d : Nat} (h : o.finding b = some (c, d)) :
    c = .defrostStartFailed ∨ c = .defrostAborted := by
  unfold RunOutcome.finding at h
  split at h
  case h_6 => 
    split at h
    · cases h
      exact .inr rfl
    · cases h
  all_goals cases h
  · exact .inl rfl
  all_goals exact .inr rfl

theorem runsAt_enterEnding (o : RunOutcome) (b : Bool) (k : Nat) : RunsAt p s (s.enterEnding p o b k) := by
  cases run : s.run p with
  | none =>
    unfold State.enterEnding
    rw [run]
    exact .refl p s
  | some r =>
    have entered : RunsAt p s (s.editTrailer p fun t => t.entering r s.now o b k) := .edit s p _ rfl rfl rfl
    rw [enterEnding_of_run run]
    generalize (s.editTrailer p fun t => t.entering r s.now o b k) = u at *
    split
    · exact entered
    · rename_i c d finding
      have produced := (leaves_produceEnding u p c d ((r.enter s.now o b k).link.getD 0)).calm (leaves_relink _ p
        (u.produceEnding p c d ((r.enter s.now o b k).link.getD 0)).2)
      exact entered.trans (.of_leaves produced (by
        obtain rfl | rfl := finding_classes finding <;> simp))

theorem runsAt_abortSuspension (r : RunRecord) : RunsAt p s (s.abortSuspension p r) := by
  unfold State.abortSuspension
  split
  · exact .refl p s
  · exact runsAt_enterEnding s p _ _ _

theorem runsAt_refreshLimits : RunsAt p s (s.refreshLimits p) := by
  unfold State.refreshLimits
  split
  · rename_i r pr _ _
    have put := runsAt_putRun s p (some { r with limits := pr.limits })
    dsimp only
    split
    · exact put.trans (runsAt_enterEnding _ p _ _ _)
    · split
      · exact put.trans (runsAt_abortSuspension _ p _)
      · exact put
  · exact .refl p s

theorem runsAt_doorStep (change : Option DoorChange) : RunsAt p s (s.doorStep p change) := by
  unfold State.doorStep
  split
  · exact .refl p s
  · exact .of_leaves (leaves_causeJoins s p .door 0) nofun
  · exact .of_leaves (leaves_causeLeaves s p .door) nofun

theorem runsAt_heatingTest (r : RunRecord) (rep : StatusReport) : RunsAt p s (s.heatingTest p r rep) := by
  have put := runsAt_putRun s p (some { r with heatCount := bump255 r.heatCount })
  unfold State.heatingTest
  dsimp only
  split
  · exact put.trans (runsAt_enterEnding _ p _ _ _)
  · refine put.trans ?_
    unfold State.heaterTest
    split
    · exact .of_leaves ((leaves_putRun _ p _).calm (leaves_produce _ p .heaterWeak _ 0)) (by simp)
    · exact .refl p _

theorem runsAt_suspendedTest (r : RunRecord) (start : Time) (prior : PriorState) (cs : List CauseEntry) (rep : StatusReport) :
    RunsAt p s (s.suspendedTest p r start prior cs rep) := by
  unfold State.suspendedTest
  dsimp only
  have put (x : RunRecord) := runsAt_putRun s p (some x)
  split
  · split
    · exact (put _).trans (runsAt_enterEnding _ p _ _ _)
    · exact put _
  · exact put _

theorem runsAt_endRun (o : RunOutcome) (b : Bool) : RunsAt p s (s.endRun p o b) := by
  unfold State.endRun
  split
  · exact .refl p s
  · rename_i r _
    dsimp only
    have settled : RunsAt p s (s.editTrailer p fun t => t.settleRun o r.f0 s.now) :=
      .edit s p _ (by cases o <;> rfl) (by cases o <;> rfl) (by cases o <;> rfl)
    generalize (s.editTrailer p fun t => t.settleRun o r.f0 s.now) = u at *
    have released : Leaves p [] (u.trailer p) u (u.putLoad r.queue (u.load r.queue - r.load)) :=
      leaves_of_records rfl ⟨rfl, rfl, rfl, rfl⟩ rfl
    exact settled.trans (.of_leaves (((released.calm (leaves_item _ p p _)).calm (leaves_putRun _ p none)).calm
      (leaves_walk _ p _)) nofun)

theorem runsAt_statusTests (rep : StatusReport) (b : Bool) : RunsAt p s (s.statusTests p rep b).1 := by
  unfold State.statusTests
  split
  · exact .refl p s
  · rename_i r _
    split
    · split
      · exact runsAt_putRun s p _
      · exact .refl p s
    · dsimp only
      split
      · exact runsAt_heatingTest s p r rep
      · exact .refl p s
    · exact runsAt_suspendedTest s p r _ _ _ rep
    · split
      · exact runsAt_putRun s p _
      · exact runsAt_endRun s p _ false

theorem runsAt_runEvaluation (rep : StatusReport) (change : Option DoorChange) (b : Bool) :
    RunsAt p s (s.runEvaluation p rep change b).1 :=
  ((runsAt_refreshLimits s p).trans (runsAt_doorStep _ p change)).trans (runsAt_statusTests _ p rep b)

end

/-! ## The whole of it, with or without a run -/

/-- What the GOOD exchange of an ENROLLED trailer leaves: the record as it was seen, the owners' work, and what Run Control,
filing and OUTPUT-MISMATCH add. -/
structure EvaluatesAny (p : Post) (rep : StatusReport) (before : AtArrival) (pr : Profile)
    (s s₀ s₁ s₂ s₃ s₄ s₅ v : State) : Prop where
  seen : Leaves p [.linkLost] ((s.trailer p).seen rep s.now) s s₀
  watches : Watches p rep before pr s₀ s₁ s₂ s₃ s₄ s₅
  ends : Leaves p [.heaterWeak, .defrostStartFailed, .defrostAborted, .outputMismatch]
    ((s₅.trailer p).runAs (v.trailer p)) s₅ v

theorem evaluatesAny_goodResult {s : State} {l : Line} {bytes : List Byte} {r : Round} {rep : StatusReport} {pr : Profile}
    (h : s.Evaluates l bytes r rep pr) : ∃ s₀ s₁ s₂ s₃ s₄ s₅,
      EvaluatesAny r.exchange.post rep ((s.hearPost l r.exchange.post).trailer r.exchange.post).atArrival pr
        s s₀ s₁ s₂ s₃ s₄ s₅ (s.goodResult l r.exchange rep) := by
  generalize hp : r.exchange.post = p at *
  have seen := leaves_evaluatedFrom s l p rep
  have profile : (s.evaluatedFrom l p rep).profileOf ((s.evaluatedFrom l p rep).trailer p) = some pr := by
    have bound : ((s.evaluatedFrom l p rep).trailer p).profile = (s.trailer p).profile :=
      seen.field TrailerRecord.profile fun _ => rfl
    have held := h.profile
    rw [hp] at held
    rw [seen.profileOf]
    unfold State.profileOf at held ⊢
    rw [bound]
    exact held
  have table := atTable_of_evaluates h
  rw [hp] at table
  rw [goodResult_eq, hp, table, evaluate_eq]
  generalize s.evaluatedFrom l p rep = s₀ at *
  generalize ((s.hearPost l p).trailer p).atArrival = before
  obtain ⟨s₁, s₂, s₃, s₄, watches, -⟩ := watches_watched profile rep before
  refine ⟨s₀, s₁, s₂, s₃, s₄, _, seen, watches, ?_⟩
  dsimp only
  generalize (s₀.watched p rep before).2 = change
  generalize (s₀.watched p rep before).1 = s₅ 
  have runs := runsAt_runEvaluation s₅ p rep change (s.trailer p).atArrival.runHeating
  generalize (s₅.runEvaluation p rep change (s.trailer p).atArrival.runHeating) = ran at *
  have tail (x y : Levels) : Leaves p [.outputMismatch, .defrostAborted] (ran.1.trailer p) ran.1
      (((ran.1.closes p rep (false || ran.2)).settlePlugged p rep).outputAtGood p x y) :=
    ((leaves_closes ran.1 p rep (false || ran.2)).calm (leaves_settlePlugged _ p p rep)).calm (leaves_outputAtGood _ p x y)
  generalize ((ran.1.closes p rep (false || ran.2)).settlePlugged p rep) = w at *
  have last := tail r.exchange.levels rep.actual
  refine RunsAt.ends runs last (by simp)

end Sys2Proof.Machine


/-! # The fuel audit of an ENROLLED trailer (O38) -/

namespace Sys2Proof.Machine

/-- How the fuel unit is reached at an evaluation: the account as it stood, and what comes after leaves it and its findings. -/
theorem EvaluatesAny.audits {p : Post} {rep : StatusReport} {before : AtArrival} {pr : Profile}
    {s s₀ s₁ s₂ s₃ s₄ s₅ v : State} (h : EvaluatesAny p rep before pr s s₀ s₁ s₂ s₃ s₄ s₅ v) :
    Leaves p [.linkLost, .sensor, .defrostAborted] { s₂.trailer p with fuel := (s.trailer p).fuel } s s₂ ∧
    Leaves p [.doorSensor, .custodyBreak, .doorAjar, .heaterWeak, .defrostStartFailed, .defrostAborted, .outputMismatch]
      { v.trailer p with fuel := (s₃.trailer p).fuel } s₃ v := by
  have first := (h.seen.step (f := fun t => t.holdTemperatures rep) h.watches.senses.leaves fun _ => rfl).step
    (f := fun t => { t with
      f := (s₁.frosted (s₁.trailer p) rep before).f, r := (s₁.frosted (s₁.trailer p) rep before).r, lastEval := some s₁.now })
    h.watches.frosts fun _ => rfl
  have fuel : (s₂.trailer p).fuel = (s.trailer p).fuel := first.field TrailerRecord.fuel fun _ => rfl
  have second := (h.watches.reports.leaves.trans h.watches.ajar.leaves).trans h.ends
  have fuel' : (v.trailer p).fuel = (s₃.trailer p).fuel :=
    (h.ends.field TrailerRecord.fuel fun _ => rfl).trans
      ((h.watches.ajar.leaves.field TrailerRecord.fuel fun _ => rfl).trans
        (h.watches.reports.leaves.field TrailerRecord.fuel fun _ => rfl))
  constructor
  · exact ((first.as first.rest.symm).as (by rw [← fuel])).mono (by simp)
  · exact ((second.as second.rest.symm).as (by rw [← fuel'])).mono (by simp)


theorem EvaluatesAny.state {p : Post} {rep : StatusReport} {before : AtArrival} {pr : Profile}
    {s s₀ s₁ s₂ s₃ s₄ s₅ v : State} (h : EvaluatesAny p rep before pr s s₀ s₁ s₂ s₃ s₄ s₅ v) :
    (v.trailer p).state = (s.trailer p).state :=
  calc (v.trailer p).state
    _ = (s₅.trailer p).state := h.ends.field TrailerRecord.state fun _ => rfl
    _ = (s₄.trailer p).state := h.watches.ajar.leaves.field TrailerRecord.state fun _ => rfl
    _ = (s₃.trailer p).state := h.watches.reports.leaves.field TrailerRecord.state fun _ => rfl
    _ = (s₂.trailer p).state := h.watches.fuel.field TrailerRecord.state fun _ => rfl
    _ = (s₁.trailer p).state := h.watches.frosts.field TrailerRecord.state fun _ => rfl
    _ = (s₀.trailer p).state := h.watches.senses.leaves.field TrailerRecord.state fun _ => rfl
    _ = (s.trailer p).state := h.seen.field TrailerRecord.state fun _ => rfl

/-- The heating mark of a status whose own arrival resumes no run (R123). -/
theorem runHeating_hearPost {s : State} {p : Post}
    (still : (s.trailer p).run = none ∨ ((s.entry p).map (·.state) ≠ some .lost ∧ (s.trailer p).stands .linkLost = false))
    (l : Line) : ((s.hearPost l p).trailer p).atArrival.runHeating = (s.trailer p).atArrival.runHeating := by
  obtain idle | ⟨here, linked⟩ := still
  · rw [atArrival_of_idle idle (unrun_hearPost idle l) ((leaves_hearPost s l p).field TrailerRecord.door fun _ => rfl)]
  · rw [trailer_hearPost_of_present here linked]

theorem rawValid_iff {n : Nat} : rawValid n = true ↔ 16 ≤ n ∧ n ≤ 1007 := decide_eq_true_iff

theorem not_rawValid_iff {n : Nat} : rawValid n = false ↔ ¬ (16 ≤ n ∧ n ≤ 1007) := decide_eq_false_iff_not

/-- The window's part of a valid reading, in the marks and the levels of the record (R123 to R126). -/
theorem ReadsValid.window {a : FuelAccount} {now : Time} {pr : Profile} {level : Nat} {heating engine : Bool}
    {y : FuelAccount × Option Nat} (h : ReadsValid a now pr level heating engine y) (started : a.started = true)
    (quiet : (pr.refuel : Int) ≤ (level : Int) - (reportedLevel a.lf16 : Int) → a.refuelPending = false) :
    (a.window = none → y.1.window = some (.opened now (reportedLevel y.1.lf16)) ∧ y.1.bs = a.bs) ∧
    ∀ w, a.window = some w →
      ((now - w.start).toNat < 600 → y.1.window = some (w.marked heating engine) ∧ y.1.bs = a.bs) ∧
      (3600 < (now - w.start).toNat → y.1.window = some (.opened now (reportedLevel y.1.lf16)) ∧ y.1.bs = a.bs) ∧
      (600 ≤ (now - w.start).toNat → (now - w.start).toNat ≤ 3600 →
        y.1.window = some (.opened now (reportedLevel y.1.lf16)) ∧
        y.1.bs = some (smoothBurn a.bs (burnRate ((w.lfStart : Int) - (reportedLevel y.1.lf16 : Int)) (now - w.start).toNat)) ∧
        ((allowedBurn pr (w.marked heating engine) (now - w.start).toNat : Int)
          < (w.lfStart : Int) - (reportedLevel y.1.lf16 : Int) → ∃ d, y.2 = some d)) := by
  obtain ⟨c, lf, bs, window, closes⟩ := h.closes started quiet
  obtain ⟨-, opens, early, late, due⟩ := closes
  rw [lf] at opens late due
  rw [bs] at opens early late due
  rw [window] at opens early late due
  constructor
  · intro none
    exact opens (by rw [none]; rfl)
  · intro w held
    have marked : a.window.map (·.marked heating engine) = some (w.marked heating engine) := by rw [held]; rfl
    exact ⟨early _ marked, late (w.marked heating engine) marked, due (w.marked heating engine) marked⟩

/-- Settles O38: the audit on the account as it stood; what surrounds the fuel unit leaves the account and its findings. -/
theorem statusAuditsTheFuel : Obligations.StatusAuditsTheFuel := by
  intro l bytes s r rep pr
  dsimp only
  intro h still
  obtain ⟨s₀, s₁, s₂, s₃, s₄, s₅, stages⟩ := evaluatesAny_goodResult h
  have heating := runHeating_hearPost still l
  have finishes := finishes_exchangeGood h.toHears
  refine ⟨_, h.toHears.exec, ?_⟩
  have enrolled := h.enrolled
  generalize s.exchangeGood l r rep = u at *
  generalize s.goodResult l r.exchange rep = v at *
  generalize r.exchange.post = p at *
  obtain ⟨first, second⟩ := stages.audits
  have off := finishes.offRun p (.inl (by rw [stages.state, enrolled]; nofun))
  have fuel : (u.trailer p).fuel = (s₃.trailer p).fuel :=
    (TrailerRecord.field_of_offRun off TrailerRecord.fuel fun _ => rfl).trans (second.field TrailerRecord.fuel fun _ => rfl)
  have stands {c : FindingClass}
      (hc : c ∉ [.doorSensor, .custodyBreak, .doorAjar, .heaterWeak, .defrostStartFailed, .defrostAborted, .outputMismatch]) :
      (u.trailer p).stands c = (s₃.trailer p).stands c :=
    (TrailerRecord.field_of_offRun off (TrailerRecord.stands · c) fun _ => rfl).trans (second.stands hc)
  rw [fuel, stands (c := .senderFault) (by decide), stands (c := .fuelLoss) (by decide), stands (c := .lowFuel) (by decide)]
  have before : (s₂.trailer p).fuel = (s.trailer p).fuel := first.field TrailerRecord.fuel fun _ => rfl
  refine ⟨fun no => ?_, fun sender invalid => ?_, fun sender valid => ?_, fun sender => ?_⟩
  · rw [stages.watches.unfitted no, before]
  all_goals
    have audits := stages.watches.audits sender
    have account : (s₃.trailer p).fuel = (s.trailer p).fuel.audited s.now pr rep.fuelRaw (s.trailer p).atArrival.runHeating
        (decide (rep.power = .engine)) := by
      rw [audits.leaves.field TrailerRecord.fuel fun _ => rfl, before, first.now, heating]
    have running := first.running
    obtain ⟨-, faults, clears, loses, held, free⟩ := audits
    rw [before, running, first.now, heating] at loses
    rw [before, running] at faults
    rw [first.stands (c := .lowFuel) (by decide)] at held free
    rw [running] at free
  · have none := not_rawValid_iff.mpr invalid
    rw [account]
    unfold FuelAccount.audited
    rw [reads_of_invalid none]
    exact ⟨rfl, fun on four => faults none four (running_of_phase on)⟩
  · have good := rawValid_iff.mpr valid
    have reads := readsValid good (s.trailer p).fuel s.now pr (s.trailer p).atArrival.runHeating (decide (rep.power = .engine))
    unfold FuelAccount.audited at account
    rw [account]
    generalize ((s.trailer p).fuel.mark (s.trailer p).atArrival.runHeating (decide (rep.power = .engine))).reads s.now pr
      rep.fuelRaw = y at *
    have level : y.1.level = reportedLevel y.1.lf16 := if_pos reads.rest.1
    have window := reads.window
    obtain ⟨⟨started, last, count⟩, begun, refuel, pends, moves, -⟩ := reads
    refine ⟨?_, fun one => clears good (first.inOneSet (by decide) one), begun, refuel, pends, moves,
      fun go quiet => (window go quiet).1, fun w go quiet held => ?_⟩
    · unfold FuelAccount.recompute
      rw [level, ← started, ← last, ← count]
    · obtain ⟨early, late, due⟩ := (window go quiet).2 w held
      refine ⟨early, late, fun low high => ?_⟩
      obtain ⟨fresh, burn, loss⟩ := due low high
      refine ⟨fresh, fun none => burn.trans ?_, fun b some => burn.trans ?_, fun on more => ?_⟩
      · rw [none]
        rfl
      · rw [some]
        rfl
      · obtain ⟨d, hd⟩ := loss more
        exact loses d hd (running_of_phase on)
  · exact ⟨fun stands one => held stands (first.inOneSet (by decide) one), fun clear on => free clear (running_of_phase on)⟩

end Sys2Proof.Machine


/-! # Run Control at an evaluation, state by state (R94 to R109) -/

namespace Sys2Proof.Machine

/-! ## One run, one queue table -/

/-- A step gives a post a run and moves no queue. -/
structure RunsTo (p : Post) (y : Option RunRecord) (s t : State) : Prop where
  run : t.run p = y
  queues : t.queues = s.queues

namespace RunsTo

variable {p : Post} {y z : Option RunRecord} {s t u : State}

theorem trans (h : RunsTo p y s t) (k : RunsTo p z t u) : RunsTo p z s u := ⟨k.run, k.queues.trans h.queues⟩

theorem as (h : RunsTo p y s t) (same : y = z) : RunsTo p z s t := same ▸ h

theorem refl (s : State) (p : Post) : RunsTo p (s.run p) s s := ⟨rfl, rfl⟩

theorem undisturbed (h : RunsTo p y s t) (k : Undisturbed p t u) : RunsTo p y s u :=
  ⟨k.run.trans h.run, k.queues.trans h.queues⟩

theorem unfiled (h : RunsTo p y s t) (free : s.Unfiled p) : t.Unfiled p := by
  unfold State.Unfiled State.queue at free ⊢
  rw [h.queues]
  exact free

end RunsTo

theorem runsTo_edit (s : State) (p : Post) (f : TrailerRecord → TrailerRecord) :
    RunsTo p (f (s.trailer p)).run s (s.editTrailer p f) :=
  ⟨State.field_editTrailer_self s p f TrailerRecord.run fun _ => rfl, by rw [State.editTrailer_changes]⟩

theorem runsTo_putRun (s : State) (p : Post) (y : Option RunRecord) : RunsTo p y s (s.putRun p y) :=
  runsTo_edit s p fun t => { t with run := y }

/-- An outcome with no finding (R98, R102). -/
theorem runsTo_enterEnding {s : State} {p : Post} {r : RunRecord} (h : s.run p = some r) {o : RunOutcome}
    (silent : o.finding false = none) : RunsTo p (some (r.enter s.now o false 0)) s (s.enterEnding p o false 0) := by
  rw [enterEnding_quiet h 0 silent]
  exact runsTo_edit s p fun t => t.entering r s.now o false 0

theorem State.Gentle.of_config {s t : State} {p : Post} (g : s.Gentle p) (here : s.run p ≠ none) (config : t.config = s.config) :
    t.Gentle p := by
  have table (c : FindingClass) : t.tableEntry c = s.tableEntry c := by
    unfold State.tableEntry
    rw [config]
  refine ⟨fun c hc => ?_, .inr fun c hc => ?_⟩
  · rw [table]
    exact g.1 c hc
  · rw [table]
    exact (g.2.resolve_left here) c hc

/-! ## The limits and the door (R95, R100) -/

theorem refreshLimits_of_same {s : State} {p : Post} {r : RunRecord} {pr : Profile} (run : s.run p = some r)
    (profile : s.profileOf (s.trailer p) = some pr) (limits : r.limits = pr.limits) :
    s.refreshLimits p = s.putRun p (some r) := by
  unfold State.refreshLimits
  rw [run, profile]
  dsimp only
  rw [← limits]
  have duration : pr.maxDuration = r.limits.maxDuration := by
    rw [limits]
    rfl
  have suspend : pr.suspendLimit = r.limits.suspendLimit := by
    rw [limits]
    rfl
  rw [if_neg (by rw [duration]; omega), if_neg (by rw [suspend]; omega)]

/-- The run after a change of the held door state (R100, R103). -/
def RunRecord.doored (r : RunRecord) (now : Time) : Option DoorChange → RunRecord
  | none => r
  | some .joined => r.join now .door 0
  | some .left => r.leave now .door

theorem leaves_doorStep (s : State) (p : Post) (change : Option DoorChange) :
    Leaves p [] (s.trailer p) s (s.doorStep p change) := by
  unfold State.doorStep
  split
  · exact .refl p s
  · exact leaves_causeJoins s p .door 0
  · exact leaves_causeLeaves s p .door

theorem runsTo_doorStep {s : State} {p : Post} {r : RunRecord} (run : s.run p = some r) (change : Option DoorChange) :
    RunsTo p (some (r.doored s.now change)) s (s.doorStep p change) := by
  unfold State.doorStep
  split
  · exact ⟨run, rfl⟩
  · unfold State.causeJoins
    rw [run]
    exact runsTo_putRun s p _
  · unfold State.causeLeaves
    rw [run]
    exact runsTo_putRun s p _

/-! ## The status tests (R94, R98, R99, R102, R106) -/

section
variable {s : State} {p : Post} {r : RunRecord} (run : s.run p = some r) (rep : StatusReport) (b : Bool)
include run

theorem statusTests_of_commanded (h : r.state = .commanded) : RunsTo p
    (some (if rep.mode = .defrost then { r with state := .heating s.now, heatCount := 0 } else r)) s (s.statusTests p rep b).1 := by
  unfold State.statusTests
  rw [run]
  dsimp only
  rw [h]
  dsimp only
  split
  · exact runsTo_putRun s p _
  · exact ⟨run, rfl⟩

theorem statusTests_of_suspended {start : Time} {prior : PriorState} {cs : List CauseEntry}
    (h : r.state = .suspended start prior cs) :
    ((if rep.mode = .defrost then PriorState.heating else prior) = .heating →
      (∃ v, (s.trailer p).tc = some v ∧ r.limits.termination ≤ v) →
      RunsTo p (some (r.enter s.now .cleared false 0)) s (s.statusTests p rep b).1) ∧
    (¬ ((if rep.mode = .defrost then PriorState.heating else prior) = .heating ∧
      ∃ v, (s.trailer p).tc = some v ∧ r.limits.termination ≤ v) →
      RunsTo p (some { r with state := .suspended start (if rep.mode = .defrost then PriorState.heating else prior) cs }) s
        (s.statusTests p rep b).1) := by
  have tests : (s.statusTests p rep b).1 = s.suspendedTest p r start prior cs rep := by
    unfold State.statusTests
    rw [run]
    dsimp only
    rw [h]
  rw [tests]
  unfold State.suspendedTest
  dsimp only
  generalize (if rep.mode = .defrost then PriorState.heating else prior) = prior'
  have put := runsTo_putRun s p (some { r with state := .suspended start prior' cs })
  have now := (leaves_putRun s p (some { r with state := .suspended start prior' cs })).now
  generalize s.putRun p (some { r with state := .suspended start prior' cs }) = u at *
  have entered : ({ r with state := .suspended start prior' cs } : RunRecord).enter s.now .cleared false 0
      = r.enter s.now .cleared false 0 := by
    unfold RunRecord.enter RunRecord.closed RunRecord.heatingAt RunRecord.suspendedAt
    rw [h]
  constructor
  · rintro rfl ⟨v, held, warm⟩
    rw [held]
    dsimp only
    rw [if_pos warm, ← entered, ← now]
    exact put.trans (runsTo_enterEnding put.run rfl)
  · intro no
    split
    · rename_i v held
      rw [if_neg fun warm => no ⟨rfl, v, held, warm⟩]
      exact put
    · exact put

theorem statusTests_of_ending_defrost {start : Time} {o : RunOutcome} {seen : Bool} (h : r.state = .ending start o seen)
    (defrost : rep.mode = .defrost) :
    RunsTo p (some { r with state := .ending start o true }) s (s.statusTests p rep b).1 := by
  unfold State.statusTests
  rw [run]
  dsimp only
  rw [h]
  dsimp only
  rw [if_pos defrost]
  exact runsTo_putRun s p _

theorem statusTests_of_ending {start : Time} {o : RunOutcome} {seen : Bool} (h : r.state = .ending start o seen)
    (other : rep.mode ≠ .defrost) : s.statusTests p rep b = (s.endRun p o false, true) := by
  unfold State.statusTests
  rw [run]
  dsimp only
  rw [h]
  dsimp only
  rw [if_neg other]

/-- A run that was not HEATING as the status reached it is not tested as HEATING. -/
theorem statusTests_of_fresh {start : Time} (h : r.state = .heating start) : s.statusTests p rep false = (s, false) := by
  unfold State.statusTests
  rw [run]
  dsimp only
  rw [h]
  rfl

theorem statusTests_of_heating {start : Time} (h : r.state = .heating start) :
    (∀ o, heatingOutcome (s.trailer p).tc r.limits.termination rep.mode = some o → o.finding false = none →
      RunsTo p (some (({ r with heatCount := bump255 r.heatCount } : RunRecord).enter s.now o false 0)) s
        (s.statusTests p rep true).1) ∧
    (heatingOutcome (s.trailer p).tc r.limits.termination rep.mode = none → s.Gentle p →
      (2 ≤ bump255 r.heatCount ∧ 0 < r.limits.minCurrent ∧ rep.heaterCurrent < r.limits.minCurrent →
        RunsTo p (some { r with heatCount := bump255 r.heatCount, heaterWeak := true }) s (s.statusTests p rep true).1 ∧
        (s.running = true → r.heaterWeak = false → ((s.statusTests p rep true).1.trailer p).stands .heaterWeak = true)) ∧
      (¬ (2 ≤ bump255 r.heatCount ∧ 0 < r.limits.minCurrent ∧ rep.heaterCurrent < r.limits.minCurrent) →
        RunsTo p (some { r with heatCount := bump255 r.heatCount }) s (s.statusTests p rep true).1)) := by
  have tests : (s.statusTests p rep true).1 = s.heatingTest p r rep := by
    unfold State.statusTests
    rw [run]
    dsimp only
    rw [h]
    rfl
  rw [tests]
  unfold State.heatingTest
  dsimp only
  have put := runsTo_putRun s p (some { r with heatCount := bump255 r.heatCount })
  have calm := leaves_putRun s p (some { r with heatCount := bump255 r.heatCount })
  generalize s.putRun p (some { r with heatCount := bump255 r.heatCount }) = u at *
  constructor
  · intro o due silent
    rw [due, ← calm.now]
    exact put.trans (runsTo_enterEnding put.run silent)
  · intro none g
    rw [none]
    dsimp only
    unfold State.heaterTest
    dsimp only
    have marked := runsTo_putRun u p (some { r with heatCount := bump255 r.heatCount, heaterWeak := true })
    have mild : (u.putRun p (some { r with heatCount := bump255 r.heatCount, heaterWeak := true })).Gentle p :=
      g.of_config (by rw [run]; nofun) ((leaves_putRun u p _).config.trans calm.config)
    have running := (leaves_putRun u p (some { r with heatCount := bump255 r.heatCount, heaterWeak := true })).running.trans
      calm.running
    constructor
    · intro ⟨counts, fitted, low⟩
      cases weak : r.heaterWeak with
      | true =>
        rw [if_neg (by simp)]
        exact ⟨put.as (by rw [← weak]), nofun⟩
      | false =>
        rw [if_pos ⟨counts, fitted, low, rfl⟩]
        exact ⟨(put.trans marked).undisturbed (undisturbed_produce mild (by nofun) _ 0),
          fun on _ => (stands_produce _ p .heaterWeak _ 0).2 (running.trans on)⟩
    · intro no
      rw [if_neg fun ⟨counts, fitted, low, _⟩ => no ⟨counts, fitted, low⟩]
      exact put

end

end Sys2Proof.Machine


/-! # The run of an ENROLLED trailer at a GOOD exchange (O40) -/

namespace Sys2Proof.Machine

/-! ## After Run Control -/

/-- With a run, or with one that ended at this arrival, and with no request, nothing is filed (R76, R79, R80). -/
theorem filing_of_run {s : State} {p : Post} (free : s.Unfiled p) {ended : Bool} (h : (s.run p).isSome = true ∨ ended = true)
    (rep : StatusReport) : s.filing p rep ended = s := by
  have none := State.requestOf_eq_none_iff.mpr free
  have kept : s.removeUnitRequest p rep.mode = s := by
    unfold State.removeUnitRequest
    rw [none]
  unfold State.filing
  dsimp only
  rw [kept]
  split
  · rfl
  · rename_i pr _
    have upgraded : s.upgradeForced p pr = s := by
      unfold State.upgradeForced
      rw [none]
    rw [upgraded]
    unfold State.filingTest
    dsimp only
    refine if_pos ?_
    obtain run | rfl := h
    · unfold State.run at run
      rw [run]
      simp
    · simp

/-- What Run Control's own part leaves of run and request, the rest of the evaluation leaves too. -/
theorem closes_of_run {s : State} {p : Post} (free : s.Unfiled p) {ended : Bool} (h : (s.run p).isSome = true ∨ ended = true)
    (rep : StatusReport) :
    (s.closes p rep ended).trailer p = s.trailer p ∧ (s.closes p rep ended).Unfiled p := by
  unfold State.closes
  rw [filing_of_run free h]
  unfold State.walkForHours
  split
  · split
    · exact ⟨trailer_walk_of_unfiled free _, unfiled_walk free _⟩
    · exact ⟨rfl, free⟩
  · exact ⟨rfl, free⟩

theorem undisturbed_settlePlugged (s : State) (p q : Post) (rep : StatusReport) : Undisturbed p s (s.settlePlugged q rep) := by
  unfold State.settlePlugged
  split
  · exact .refl p s
  · exact ⟨rfl, rfl, rfl, rfl⟩

theorem undisturbed_outputAtGood {s : State} {p : Post} (g : s.Gentle p) (carried actual : Levels) :
    Undisturbed p s (s.outputAtGood p carried actual) := by
  unfold State.outputAtGood
  split
  · exact .refl p s
  · dsimp only
    have put (x : OutputState) : Undisturbed p s (s.putOutput p (some x)) := ⟨rfl, rfl, rfl, rfl⟩
    split
    · exact (put _).trans (undisturbed_clearFinding ((put _).gentle g) (by nofun) false)
    · split
      · exact (put _).trans (undisturbed_produce ((put _).gentle g) (by nofun) _ 0)
      · exact put _

/-! ## The state that Run Control takes up -/

/-- The state in which Run Control tests the run, with the change of the held door state. -/
def State.watchedFrom (s : State) (l : Line) (p : Post) (rep : StatusReport) : State × Option DoorChange :=
  (s.evaluatedFrom l p rep).watched p rep ((s.hearPost l p).trailer p).atArrival

/-- Run Control's part of the evaluation, with whether the run ended at it. -/
def State.ranFrom (s : State) (l : Line) (p : Post) (rep : StatusReport) : State × Bool :=
  (s.watchedFrom l p rep).1.runEvaluation p rep (s.watchedFrom l p rep).2 (s.trailer p).atArrival.runHeating

theorem goodResult_of_evaluates {s : State} {l : Line} {bytes : List Byte} {r : Round} {rep : StatusReport} {pr : Profile}
    (h : s.Evaluates l bytes r rep pr) : s.goodResult l r.exchange rep =
      (((s.ranFrom l r.exchange.post rep).1.closes r.exchange.post rep (s.ranFrom l r.exchange.post rep).2).settlePlugged
        r.exchange.post rep).outputAtGood r.exchange.post r.exchange.levels rep.actual := by
  rw [goodResult_eq, atTable_of_evaluates h, evaluate_eq]
  dsimp only
  rw [Bool.false_or]
  unfold State.ranFrom State.watchedFrom
  rfl

/-- The profile of the record at the evaluation. -/
theorem profile_evaluatedFrom {s : State} {l : Line} {p : Post} {rep : StatusReport} {pr : Profile}
    (profile : s.profileOf (s.trailer p) = some pr) :
    (s.evaluatedFrom l p rep).profileOf ((s.evaluatedFrom l p rep).trailer p) = some pr := by
  have seen := leaves_evaluatedFrom s l p rep
  have bound : ((s.evaluatedFrom l p rep).trailer p).profile = (s.trailer p).profile :=
    seen.field TrailerRecord.profile fun _ => rfl
  rw [seen.profileOf]
  unfold State.profileOf at profile ⊢
  rw [bound]
  exact profile

theorem undisturbed_watchedFrom {s : State} {p : Post} (g : s.Gentle p)
    (here : s.run p = none ∨ (s.entry p).map (·.state) ≠ some .lost) (l : Line) (rep : StatusReport) :
    Undisturbed p s (s.hearPost l p) ∧ Undisturbed p s (s.watchedFrom l p rep).1 := by
  have heard := undisturbed_hearPost g here l
  have seen := heard.trans ((StageKit.undisturbed p).seenAt _ rep (heard.gentle g))
  exact ⟨heard, seen.trans ((StageKit.undisturbed p).watched _ rep _ (seen.gentle g))⟩

/-- A table of beacons alone reaches no run and no request. -/
theorem State.OnlyBeacons.gentle {s t : State} (h : s.OnlyBeacons) (config : t.config = s.config) (p : Post) : t.Gentle p := by
  have table (c : FindingClass) : t.tableEntry c = s.tableEntry c := by
    unfold State.tableEntry
    rw [config]
  have apart (c : FindingClass) (hc : c ≠ .unitStuckDefrost) (a : Action) (far : a ≠ .none ∧ a ≠ .beacon) :
      (t.tableEntry c).action ≠ a := by
    rw [table]
    obtain none | beacon := h c hc
    · rw [none]
      exact far.1.symm
    · rw [beacon]
      exact far.2.symm
  exact ⟨fun c hc => apart c hc _ ⟨nofun, nofun⟩, .inr fun c hc => apart c hc _ ⟨nofun, nofun⟩⟩

/-! ## The run as the status tests find it -/

/-- What the status tests find: the run after the door step, with no request, on a record whose account a run has held. -/
structure FindsRun (p : Post) (s : State) (y : RunRecord) (w : State) : Prop where
  run : w.run p = some y
  unfiled : w.Unfiled p
  reads : SameReads s w
  r : (w.trailer p).r = (s.trailer p).r
  lastDefrostEnd : (w.trailer p).lastDefrostEnd = (s.trailer p).lastDefrostEnd

theorem frosted_of_run {s : State} {t : TrailerRecord} {rep : StatusReport} {before : AtArrival} (runs : before.runExists = true) :
    s.frosted t rep before = t := frosted_of_case s rep before fun _ => frostCase_of_run t before _ _ runs

section
variable {p : Post} {rep : StatusReport} {before : AtArrival} {pr : Profile} {s s₁ s₂ s₃ s₄ t : State}
  (h : Watches p rep before pr s s₁ s₂ s₃ s₄ t)
include h

/-- What no owner before Run Control writes. -/
theorem Watches.profile : (t.trailer p).profile = (s.trailer p).profile :=
  calc (t.trailer p).profile
    _ = (s₄.trailer p).profile := h.ajar.leaves.field TrailerRecord.profile fun _ => rfl
    _ = (s₃.trailer p).profile := h.reports.leaves.field TrailerRecord.profile fun _ => rfl
    _ = (s₂.trailer p).profile := h.fuel.field TrailerRecord.profile fun _ => rfl
    _ = (s₁.trailer p).profile := h.frosts.field TrailerRecord.profile fun _ => rfl
    _ = (s.trailer p).profile := h.senses.leaves.field TrailerRecord.profile fun _ => rfl

theorem Watches.lastDefrostEnd : (t.trailer p).lastDefrostEnd = (s.trailer p).lastDefrostEnd :=
  calc (t.trailer p).lastDefrostEnd
    _ = (s₄.trailer p).lastDefrostEnd := h.ajar.leaves.field TrailerRecord.lastDefrostEnd fun _ => rfl
    _ = (s₃.trailer p).lastDefrostEnd := h.reports.leaves.field TrailerRecord.lastDefrostEnd fun _ => rfl
    _ = (s₂.trailer p).lastDefrostEnd := h.fuel.field TrailerRecord.lastDefrostEnd fun _ => rfl
    _ = (s₁.trailer p).lastDefrostEnd := h.frosts.field TrailerRecord.lastDefrostEnd fun _ => rfl
    _ = (s.trailer p).lastDefrostEnd := h.senses.leaves.field TrailerRecord.lastDefrostEnd fun _ => rfl

theorem Watches.door : (s₃.trailer p).door = (s.trailer p).door :=
  calc (s₃.trailer p).door
    _ = (s₂.trailer p).door := h.fuel.field TrailerRecord.door fun _ => rfl
    _ = (s₁.trailer p).door := h.frosts.field TrailerRecord.door fun _ => rfl
    _ = (s.trailer p).door := h.senses.leaves.field TrailerRecord.door fun _ => rfl

theorem Watches.reads : SameReads s t :=
  h.senses.leaves.reads.trans (h.frosts.reads.trans (h.fuel.reads.trans (h.reports.leaves.reads.trans h.ajar.leaves.reads)))

/-- A run has held R through the owners before Run Control (R50). -/
theorem Watches.r_of_run (runs : before.runExists = true) : (t.trailer p).r = (s.trailer p).r := by
  have stepped : (s₂.trailer p).r = (s₁.frosted (s₁.trailer p) rep before).r := h.frosts.field TrailerRecord.r fun _ => rfl
  have frosts : (s₂.trailer p).r = (s₁.trailer p).r := by rw [stepped, frosted_of_run runs]
  calc (t.trailer p).r
    _ = (s₄.trailer p).r := h.ajar.leaves.field TrailerRecord.r fun _ => rfl
    _ = (s₃.trailer p).r := h.reports.leaves.field TrailerRecord.r fun _ => rfl
    _ = (s₂.trailer p).r := h.fuel.field TrailerRecord.r fun _ => rfl
    _ = (s₁.trailer p).r := frosts
    _ = (s.trailer p).r := h.senses.leaves.field TrailerRecord.r fun _ => rfl

end

theorem findsRun_ranFrom {s : State} {p : Post} {x : RunRecord} {rep : StatusReport} {pr : Profile}
    (profile : s.profileOf (s.trailer p) = some pr) (run : s.run p = some x) (limits : x.limits = pr.limits) (free : s.Unfiled p)
    (here : (s.entry p).map (·.state) ≠ some .lost) (beacons : s.OnlyBeacons) (l : Line) :
    ∃ w, FindsRun p s (x.doored s.now ((s.trailer p).door.change rep.door)) w ∧
      s.ranFrom l p rep = w.statusTests p rep x.isHeating := by
  obtain ⟨heard, watched⟩ := undisturbed_watchedFrom (beacons.gentle rfl p) (.inr here) l rep
  have seen := leaves_evaluatedFrom s l p rep
  obtain ⟨s₁, s₂, s₃, s₄, watches, change⟩ := watches_watched (profile_evaluatedFrom (l := l) (rep := rep) profile) rep
    ((s.hearPost l p).trailer p).atArrival
  have runs : ((s.hearPost l p).trailer p).atArrival.runExists = true :=
    congrArg Option.isSome (heard.run.trans run)
  have reads := seen.reads.trans watches.reads
  have r := (watches.r_of_run runs).trans (seen.field TrailerRecord.r fun _ => rfl)
  have last := watches.lastDefrostEnd.trans (seen.field TrailerRecord.lastDefrostEnd fun _ => rfl)
  have bound := watches.profile.trans (seen.field TrailerRecord.profile fun _ => rfl)
  rw [watches.door, seen.field TrailerRecord.door fun _ => rfl] at change
  have heating : (s.trailer p).atArrival.runHeating = x.isHeating := by
    unfold State.run at run
    unfold TrailerRecord.atArrival
    rw [run]
  unfold State.ranFrom State.runEvaluation
  rw [heating]
  unfold State.watchedFrom at watched ⊢
  rw [change]
  clear watches change seen runs heard
  generalize ((s.evaluatedFrom l p rep).watched p rep ((s.hearPost l p).trailer p).atArrival).1 = v at *
  have held : v.profileOf (v.trailer p) = some pr := by
    unfold State.profileOf at profile ⊢
    rw [bound, reads.config]
    exact profile
  have unfiled : v.Unfiled p := RunsTo.unfiled ⟨watched.run, watched.queues⟩ free
  rw [refreshLimits_of_same (watched.run.trans run) held limits]
  have put := leaves_putRun v p (some x)
  have fresh := runsTo_putRun v p (some x)
  generalize v.putRun p (some x) = w at *
  have stepped := leaves_doorStep w p ((s.trailer p).door.change rep.door)
  have changed := runsTo_doorStep fresh.run ((s.trailer p).door.change rep.door)
  rw [put.now.trans reads.now] at changed
  have same := put.calm stepped
  exact ⟨_, ⟨changed.run, (fresh.trans changed).unfiled unfiled, reads.trans same.reads,
    (same.field TrailerRecord.r fun _ => rfl).trans r, (same.field TrailerRecord.lastDefrostEnd fun _ => rfl).trans last⟩, rfl⟩

end Sys2Proof.Machine


/-! # The tests of a run, from the frame on -/

namespace Sys2Proof.Machine

/-- What follows Run Control's own part leaves its record beside run and sets. -/
theorem leaves_ran {s : State} {l : Line} {bytes : List Byte} {r : Round} {rep : StatusReport} {pr : Profile}
    (h : s.Evaluates l bytes r rep pr) : Leaves r.exchange.post [.outputMismatch, .defrostAborted]
      ((s.ranFrom l r.exchange.post rep).1.trailer r.exchange.post) (s.ranFrom l r.exchange.post rep).1
      (s.goodResult l r.exchange rep) := by
  rw [goodResult_of_evaluates h]
  exact ((leaves_closes _ r.exchange.post rep _).calm (leaves_settlePlugged _ _ _ rep)).calm (leaves_outputAtGood _ _ _ _)

/-- Within a round the record after the exchange is the one that its result left. -/
theorem trailer_exchangeGood {s : State} {l : Line} {bytes : List Byte} {r : Round} {rep : StatusReport}
    (h : s.Hears l bytes r rep) (more : r.remaining ≠ []) (q : Post) :
    (s.exchangeGood l r rep).trailer q = (s.goodResult l r.exchange rep).trailer q := by
  obtain ⟨records, -, -, -⟩ := (finishes_exchangeGood h).still more
  unfold State.trailer
  rw [records]

/-- Within a round, what Run Control leaves of run and request is what the exchange leaves. -/
theorem ran_exchangeGood {s : State} {l : Line} {bytes : List Byte} {r : Round} {rep : StatusReport} {pr : Profile}
    (h : s.Evaluates l bytes r rep pr) (beacons : s.OnlyBeacons) (more : r.remaining ≠ []) {p : Post} (hp : r.exchange.post = p)
    {ran : State × Bool} (hran : s.ranFrom l p rep = ran) (config : ran.1.config = s.config) (free : ran.1.Unfiled p)
    (acts : (ran.1.run p).isSome = true ∨ ran.2 = true) :
    (s.exchangeGood l r rep).run p = ran.1.run p ∧ (s.exchangeGood l r rep).Unfiled p := by
  obtain ⟨-, queues, -, -⟩ := (finishes_exchangeGood h.toHears).still more
  have same := trailer_exchangeGood h.toHears more p
  have result := goodResult_of_evaluates h
  rw [hp, hran] at result
  obtain ⟨trailer, unfiled⟩ := closes_of_run free acts rep
  have calm := (leaves_closes ran.1 p rep ran.2).config.trans config
  generalize ran.1.closes p rep ran.2 = w at *
  have plugged := undisturbed_settlePlugged w p p rep
  have output := plugged.trans (undisturbed_outputAtGood (beacons.gentle (plugged.config.trans calm) p) r.exchange.levels rep.actual)
  rw [← result] at output
  generalize s.goodResult l r.exchange rep = v at *
  generalize s.exchangeGood l r rep = u at *
  refine ⟨(run_of_trailer same).trans (output.run.trans (run_of_trailer trailer)), ?_⟩
  unfold State.Unfiled State.queue at unfiled ⊢
  rw [queues, output.queues]
  exact unfiled

/-! ## The door's change and the run (R100, R103) -/

section
variable {x : RunRecord} {now : Time} {d : DoorGroup} {rep : DoorReport}

theorem doored_of_opens (opens : rep = .opened ∧ d.held ≠ some .opened) : x.doored now (d.change rep) = x.join now .door 0 := by
  obtain ⟨rfl, shut⟩ := opens
  unfold DoorGroup.change
  dsimp only
  rw [if_neg shut]
  rfl

theorem doored_of_closes (closes : rep = .closed ∧ d.held = some .opened) : x.doored now (d.change rep) = x.leave now .door := by
  obtain ⟨rfl, wide⟩ := closes
  unfold DoorGroup.change
  dsimp only
  rw [if_pos wide]
  rfl

theorem doored_of_neither (opens : ¬ (rep = .opened ∧ d.held ≠ some .opened)) (closes : ¬ (rep = .closed ∧ d.held = some .opened)) :
    x.doored now (d.change rep) = x := by
  have none : d.change rep = none := by
    unfold DoorGroup.change
    cases rep with
    | unknown => rfl
    | opened => exact if_pos (by by_contra shut; exact opens ⟨rfl, shut⟩)
    | closed => exact if_neg fun wide => closes ⟨rfl, wide⟩
  rw [none]
  rfl

/-- A run that is not SUSPENDED takes no leaving cause. -/
theorem leave_of_unsuspended (h : ∀ start prior cs, x.state ≠ .suspended start prior cs) (c : SuspCause) : x.leave now c = x := by
  unfold RunRecord.leave
  split
  · rename_i suspended
    exact absurd suspended (h _ _ _)
  all_goals rfl

theorem doored_of_unsuspended (h : ∀ start prior cs, x.state ≠ .suspended start prior cs)
    (opens : ¬ (rep = .opened ∧ d.held ≠ some .opened)) : x.doored now (d.change rep) = x := by
  by_cases closes : rep = .closed ∧ d.held = some .opened
  · rw [doored_of_closes closes, leave_of_unsuspended h]
  · exact doored_of_neither opens closes

theorem doored_of_ending {start : Time} {o : RunOutcome} {seen : Bool} (h : x.state = .ending start o seen)
    (change : Option DoorChange) : x.doored now change = x := by
  unfold RunRecord.doored
  split
  · rfl
  · unfold RunRecord.join
    rw [h]
  · exact leave_of_unsuspended (by rw [h]; nofun) .door

theorem join_of_commanded (h : x.state = .commanded) (c : SuspCause) (n : Nat) :
    x.join now c n = { x with state := .suspended now .commanded [{ cause := c, joined := now, push := n }] } := by
  unfold RunRecord.join
  rw [h]

theorem join_of_heating {start : Time} (h : x.state = .heating start) (c : SuspCause) (n : Nat) :
    x.join now c n = { x with
      state := .suspended now .heating [{ cause := c, joined := now, push := n }]
      heatingTime := x.heatingTime + (now - start).toNat } := by
  unfold RunRecord.join RunRecord.closed RunRecord.heatingAt RunRecord.suspendedAt
  rw [h]
  rfl

theorem join_of_suspended {start : Time} {prior : PriorState} {cs : List CauseEntry} (h : x.state = .suspended start prior cs)
    {c : SuspCause} (fresh : ∀ k ∈ cs, k.cause ≠ c) (n : Nat) :
    x.join now c n = { x with state := .suspended start prior (cs ++ [{ cause := c, joined := now, push := n }]) } := by
  unfold RunRecord.join
  rw [h]
  exact if_neg (by simpa using fresh)

/-- One of several causes leaves. -/
theorem leave_of_others {start : Time} {prior : PriorState} {cs : List CauseEntry} (h : x.state = .suspended start prior cs)
    {c : SuspCause} (others : ∃ k ∈ cs, k.cause ≠ c) :
    x.leave now c = { x with state := .suspended start prior (cs.filter fun k => decide (k.cause ≠ c)) } := by
  obtain ⟨k, hk, other⟩ := others
  have left : k ∈ cs.filter fun k => decide (k.cause ≠ c) := List.mem_filter.mpr ⟨hk, decide_eq_true other⟩
  unfold RunRecord.leave
  rw [h]
  dsimp only
  split
  · split
    · rename_i none
      rw [none] at left
      cases left
    · rename_i some
      rw [some]
  · rename_i none
    have all : cs.filter (fun k => decide (k.cause ≠ c)) = cs := by
      refine List.filter_eq_self.mpr fun y hy => ?_
      by_contra same
      exact none (List.any_eq_true.mpr ⟨y, hy, decide_eq_true (by simpa using same)⟩)
    rw [all, ← h]

/-- The last cause leaves, and the run resumes (R103). -/
theorem leave_of_last {start : Time} {prior : PriorState} {cs : List CauseEntry} (h : x.state = .suspended start prior cs)
    {c : SuspCause} (held : cs ≠ []) (all : ∀ k ∈ cs, k.cause = c) : x.leave now c = x.resume now prior := by
  have none : cs.filter (fun k => decide (k.cause ≠ c)) = [] := by
    refine List.filter_eq_nil_iff.mpr fun k hk => ?_
    rw [all k hk]
    simp
  obtain ⟨k, rest, rfl⟩ := List.exists_cons_of_ne_nil held
  unfold RunRecord.leave
  rw [h]
  dsimp only
  rw [if_pos (List.any_eq_true.mpr ⟨k, List.mem_cons_self, decide_eq_true (all k List.mem_cons_self)⟩), none]

theorem resume_of_suspended {start : Time} {prior : PriorState} {cs : List CauseEntry} (h : x.state = .suspended start prior cs) :
    x.resume now .commanded = { x with state := .commanded, suspendedTime := x.suspendedTime + (now - start).toNat } ∧
    x.resume now .heating = { x with
      state := .heating now, suspendedTime := x.suspendedTime + (now - start).toNat, heatCount := 0 } := by
  unfold RunRecord.resume RunRecord.closed RunRecord.heatingAt RunRecord.suspendedAt
  rw [h]
  exact ⟨rfl, rfl⟩

theorem enter_of_suspended {start : Time} {prior : PriorState} {cs : List CauseEntry} (h : x.state = .suspended start prior cs)
    (o : RunOutcome) : x.enter now o false 0 = { x with
      state := .ending now o false, byAction := false, suspendedTime := x.suspendedTime + (now - start).toNat } := by
  unfold RunRecord.enter RunRecord.closed RunRecord.heatingAt RunRecord.suspendedAt
  rw [h]
  rfl

theorem enter_of_heating {start : Time} (h : x.state = .heating start) (o : RunOutcome) : x.enter now o false 0 = { x with
    state := .ending now o false, byAction := false, heatingTime := x.heatingTime + (now - start).toNat } := by
  unfold RunRecord.enter RunRecord.closed RunRecord.heatingAt RunRecord.suspendedAt
  rw [h]
  rfl

end

/-! ## The termination tests (R98) -/

section
variable {tc : Option Int} {termination : Int} {mode : Mode}

theorem heatingOutcome_of_cleared
    (h : (∃ v, tc = some v ∧ termination ≤ v) ∨ (mode ≠ .defrost ∧ ∃ v, tc = some v ∧ termination - 30 ≤ v)) :
    heatingOutcome tc termination mode = some .cleared := by
  unfold heatingOutcome
  obtain ⟨v, rfl, warm⟩ | ⟨other, v, rfl, near⟩ := h
  · exact if_pos warm
  · dsimp only
    by_cases warm : termination ≤ v
    · exact if_pos warm
    · rw [if_neg warm, if_neg other, if_pos near]

theorem heatingOutcome_of_cold (other : mode ≠ .defrost) (cold : ∀ v, tc = some v → v < termination - 30) :
    heatingOutcome tc termination mode = some .unitEnded := by
  unfold heatingOutcome
  split
  · exact if_neg other
  · rename_i v
    have low := cold v rfl
    rw [if_neg (by omega), if_neg other, if_neg (by omega)]

theorem heatingOutcome_of_heating (heats : mode = .defrost) (cold : ¬ ∃ v, tc = some v ∧ termination ≤ v) :
    heatingOutcome tc termination mode = none := by
  unfold heatingOutcome
  split
  · exact if_pos heats
  · rename_i v
    rw [if_neg fun warm => cold ⟨v, rfl, warm⟩, if_pos heats]

end

end Sys2Proof.Machine


/-! # What a GOOD status makes of each state of a run (O40) -/

namespace Sys2Proof.Machine

/-- How the tests of a run reach the exchange's end: from the state `w` after the door step to `u`. -/
structure Tests (p : Post) (rep : StatusReport) (x y : RunRecord) (s w u : State) : Prop where
  finds : FindsRun p s y w
  gentle : w.Gentle p
  tc : (u.trailer p).tc = (w.trailer p).tc
  weak : (u.trailer p).stands .heaterWeak = ((w.statusTests p rep x.isHeating).1.trailer p).stands .heaterWeak
  hands : ∀ z, RunsTo p (some z) w (w.statusTests p rep x.isHeating).1 → u.run p = some z
  ends : (w.statusTests p rep x.isHeating).2 = true → (w.statusTests p rep x.isHeating).1.Unfiled p →
    u.run p = (w.statusTests p rep x.isHeating).1.run p ∧ u.requestOf p = none
  rest : ∀ {α : Type} (π : TrailerRecord → α), (∀ t, π t.rest = π t) →
    π (u.trailer p) = π ((w.statusTests p rep x.isHeating).1.trailer p)

theorem tests_exchangeGood {s : State} {l : Line} {bytes : List Byte} {r : Round} {rep : StatusReport} {pr : Profile}
    {x : RunRecord} (h : s.Evaluates l bytes r rep pr) (run : s.run r.exchange.post = some x) (limits : x.limits = pr.limits)
    (more : r.remaining ≠ []) (law : s.GrantLaw) (here : (s.entry r.exchange.post).map (·.state) ≠ some .lost)
    (beacons : s.OnlyBeacons) : ∃ w, Tests r.exchange.post rep x
      (x.doored s.now ((s.trailer r.exchange.post).door.change rep.door)) s w (s.exchangeGood l r rep) := by
  have free := law.unfiled_of_run (p := r.exchange.post) (by rw [run]; nofun)
  obtain ⟨w, finds, ran⟩ := findsRun_ranFrom h.profile run limits free here beacons l
  have tail := leaves_ran h
  have hands := ran_exchangeGood h beacons more rfl ran
  have same := trailer_exchangeGood h.toHears more r.exchange.post
  generalize r.exchange.post = p at *
  rw [ran] at tail
  have runs := runsAt_statusTests w p rep x.isHeating
  have config := runs.config.trans finds.reads.config
  have rest {α : Type} (π : TrailerRecord → α) (hπ : ∀ t, π t.rest = π t) := (congrArg π same).trans (tail.field π hπ)
  refine ⟨w, finds, beacons.gentle finds.reads.config p, ?_, ?_, fun z k => ?_, fun ended free' => ?_, rest⟩
  · exact (rest TrailerRecord.tc fun _ => rfl).trans (runs.field TrailerRecord.tc fun _ => rfl)
  · rw [same]
    exact tail.stands (by decide)
  · rw [(hands config (k.unfiled finds.unfiled) (.inl (by rw [k.run]; rfl))).1]
    exact k.run
  · obtain ⟨run', unfiled⟩ := hands config free' (.inr ended)
    exact ⟨run', State.requestOf_eq_none_iff.mpr unfiled⟩

namespace Tests

variable {p : Post} {rep : StatusReport} {x y : RunRecord} {s w u : State} (h : Tests p rep x y s w u)
include h

theorem now : w.now = s.now := h.finds.reads.now

/-- COMMANDED (R96). -/
theorem of_commanded (state : y.state = .commanded) :
    u.run p = some (if rep.mode = .defrost then { y with state := .heating s.now, heatCount := 0 } else y) := by
  rw [h.hands _ (statusTests_of_commanded h.finds.run rep _ state), h.now]

/-- SUSPENDED with the prior state HEATING and a warm coil (R102). -/
theorem of_warm {start : Time} {prior : PriorState} {cs : List CauseEntry} (state : y.state = .suspended start prior cs)
    (heats : (if rep.mode = .defrost then PriorState.heating else prior) = .heating)
    (warm : ∃ v, (u.trailer p).tc = some v ∧ y.limits.termination ≤ v) :
    u.run p = some { y with
      state := .ending s.now .cleared false, byAction := false
      suspendedTime := y.suspendedTime + (s.now - start).toNat } := by
  rw [h.tc] at warm
  rw [h.hands _ ((statusTests_of_suspended h.finds.run rep _ state).1 heats warm), enter_of_suspended state, h.now]

/-- SUSPENDED otherwise (R102). -/
theorem of_suspended {start : Time} {prior : PriorState} {cs : List CauseEntry} (state : y.state = .suspended start prior cs)
    (no : ¬ ((if rep.mode = .defrost then PriorState.heating else prior) = .heating ∧
      ∃ v, (u.trailer p).tc = some v ∧ y.limits.termination ≤ v)) :
    u.run p = some { y with state := .suspended start (if rep.mode = .defrost then PriorState.heating else prior) cs } := by
  rw [h.tc] at no
  exact h.hands _ ((statusTests_of_suspended h.finds.run rep _ state).2 no)

/-- A run that HEATING takes up at this status (R103). -/
theorem of_resumed {start : Time} (state : y.state = .heating start) (fresh : x.isHeating = false) : u.run p = some y := by
  refine h.hands y ?_
  rw [fresh, statusTests_of_fresh h.finds.run rep state]
  exact ⟨h.finds.run, rfl⟩

/-- HEATING that the coil or the mode ends (R98). -/
theorem of_outcome {start : Time} (state : y.state = .heating start) (heated : x.isHeating = true) {o : RunOutcome}
    (due : heatingOutcome (u.trailer p).tc y.limits.termination rep.mode = some o) (silent : o.finding false = none) :
    u.run p = some { y with
      state := .ending s.now o false, byAction := false, heatingTime := y.heatingTime + (s.now - start).toNat
      heatCount := min 255 (y.heatCount + 1) } := by
  rw [h.tc] at due
  have tested := (statusTests_of_heating h.finds.run rep state).1 o due silent
  rw [← heated] at tested
  rw [h.hands _ tested, enter_of_heating (x := { y with heatCount := bump255 y.heatCount }) state, h.now]
  rfl

/-- HEATING that goes on (R99). -/
theorem of_heating {start : Time} (state : y.state = .heating start) (heated : x.isHeating = true)
    (due : heatingOutcome (u.trailer p).tc y.limits.termination rep.mode = none) :
    (2 ≤ min 255 (y.heatCount + 1) ∧ 0 < y.limits.minCurrent ∧ rep.heaterCurrent < y.limits.minCurrent →
      u.run p = some { y with heatCount := min 255 (y.heatCount + 1), heaterWeak := true } ∧
      (s.phase = .running → y.heaterWeak = false → (u.trailer p).stands .heaterWeak = true)) ∧
    (¬ (2 ≤ min 255 (y.heatCount + 1) ∧ 0 < y.limits.minCurrent ∧ rep.heaterCurrent < y.limits.minCurrent) →
      u.run p = some { y with heatCount := min 255 (y.heatCount + 1) }) := by
  rw [h.tc] at due
  obtain ⟨weak, strong⟩ := (statusTests_of_heating h.finds.run rep state).2 due h.gentle
  have hands := h.hands
  rw [h.weak, heated]
  rw [heated] at hands
  constructor
  · intro low
    obtain ⟨run, stands⟩ := weak low
    exact ⟨hands _ run, fun on => stands (running_of_phase (h.finds.reads.phase.trans on))⟩
  · exact fun no => hands _ (strong no)

/-- ENDING while the unit reports DEFROST (R106). -/
theorem of_stuck {start : Time} {o : RunOutcome} {seen : Bool} (state : y.state = .ending start o seen)
    (defrost : rep.mode = .defrost) : u.run p = some { y with state := .ending start o true } :=
  h.hands _ (statusTests_of_ending_defrost h.finds.run rep _ state defrost)

/-- ENDING at any other mode: the run end (R106, R109). -/
theorem of_ending {start : Time} {o : RunOutcome} {seen : Bool} (state : y.state = .ending start o seen)
    (other : rep.mode ≠ .defrost) : u.run p = none ∧ u.requestOf p = none ∧
      (∀ {α : Type} (π : TrailerRecord → α), (∀ t, π t.rest = π t) →
        π (u.trailer p) = π ((w.trailer p).settleRun o y.f0 s.now)) := by
  have ends := h.ends
  have rest {α : Type} (π : TrailerRecord → α) (hπ : ∀ t, π t.rest = π t) := h.rest π hπ
  rw [statusTests_of_ending h.finds.run rep _ state other] at ends rest
  have field {α : Type} (π : TrailerRecord → α) (hπ : ∀ t, π t.sealed = π t) :=
    field_endRun h.finds.run h.finds.unfiled o false π hπ
  have free : (w.endRun p o false).Unfiled p := by
    rw [State.endRun_of_run h.finds.run]
    refine unfiled_walk (fun q r hr => ?_) _
    rw [(releaseRun_releases w p y o false).queue q] at hr
    exact h.finds.unfiled q r hr
  obtain ⟨run, none⟩ := ends rfl free
  refine ⟨run.trans (field TrailerRecord.run fun _ => rfl), none, fun π hπ => ?_⟩
  have whole : ((w.endRun p o false).trailer p).rest = ((w.trailer p).settleRun o y.f0 w.now).rest :=
    field TrailerRecord.rest fun _ => rfl
  rw [rest π hπ, ← h.now, ← hπ, whole, hπ]

end Tests

/-- Settles O40: the door step, then the tests of the state that it leaves. -/
theorem statusTestsTheRun : Obligations.StatusTestsTheRun := by
  intro l bytes s r rep pr x
  dsimp only
  intro h run limits more law here beacons
  obtain ⟨w, tests⟩ := tests_exchangeGood h run limits more law here beacons
  have termination : pr.termination = x.limits.termination := by rw [limits]; rfl
  have minCurrent : pr.minCurrent = x.limits.minCurrent := by rw [limits]; rfl
  refine ⟨_, h.toHears.exec, ?_⟩
  rw [termination, minCurrent]
  clear termination minCurrent limits
  generalize s.exchangeGood l r rep = u at *
  generalize r.exchange.post = p at *
  refine ⟨fun commanded => ?_, fun start heating => ?_, fun start prior causes suspended => ?_, fun start o seen ending => ?_⟩
  · refine ⟨fun shut defrost => ?_, fun shut other => ?_, fun opens other => ?_, fun opens defrost cold => ?_,
      fun opens defrost warm => ?_⟩
    · rw [doored_of_unsuspended (by rw [commanded]; nofun) shut] at tests
      rw [tests.of_commanded commanded, if_pos defrost]
    · rw [doored_of_unsuspended (by rw [commanded]; nofun) shut] at tests
      rw [tests.of_commanded commanded, if_neg other]
    · rw [doored_of_opens opens, join_of_commanded commanded] at tests
      rw [tests.of_suspended rfl (by rw [if_neg other]; nofun), if_neg other]
    · rw [doored_of_opens opens, join_of_commanded commanded] at tests
      rw [tests.of_suspended rfl (fun ⟨_, warm⟩ => cold warm), if_pos defrost]
    · rw [doored_of_opens opens, join_of_commanded commanded] at tests
      rw [tests.of_warm rfl (if_pos defrost) warm]
      simp
  · have heated : x.isHeating = true := by
      unfold RunRecord.isHeating
      rw [heating]
    refine ⟨fun opens cold => ?_, fun opens warm => ?_, fun shut ends => ?_, fun shut other cold => ?_,
      fun shut defrost cold => ?_⟩
    · rw [doored_of_opens opens, join_of_heating heating] at tests
      rw [tests.of_suspended rfl (fun ⟨_, warm⟩ => cold warm), ite_self]
    · rw [doored_of_opens opens, join_of_heating heating] at tests
      rw [tests.of_warm rfl (ite_self _) warm]
      simp
    all_goals rw [doored_of_unsuspended (by rw [heating]; nofun) shut] at tests
    · exact tests.of_outcome heating heated (heatingOutcome_of_cleared ends) rfl
    · exact tests.of_outcome heating heated (heatingOutcome_of_cold other cold) rfl
    · exact tests.of_heating heating heated (heatingOutcome_of_heating defrost cold)
  · have cool : x.isHeating = false := by
      unfold RunRecord.isHeating
      rw [suspended]
    refine ⟨fun shut still => ⟨fun heats warm => ?_, fun no => ?_⟩, fun opens no fresh => ?_, fun closes no others => ?_,
      fun closes held all => ⟨fun commanded other => ?_, fun heats => ?_⟩⟩
    · rw [doored_of_neither shut still] at tests
      exact tests.of_warm suspended heats warm
    · rw [doored_of_neither shut still] at tests
      exact tests.of_suspended suspended no
    · rw [doored_of_opens opens, join_of_suspended suspended fresh] at tests
      exact tests.of_suspended rfl no
    · rw [doored_of_closes closes, leave_of_others suspended others] at tests
      exact tests.of_suspended rfl no
    · rw [doored_of_closes closes, leave_of_last suspended held all, commanded, (resume_of_suspended suspended).1] at tests
      rw [tests.of_commanded rfl, if_neg other]
    · obtain ⟨toCommanded, toHeating⟩ := resume_of_suspended (now := s.now) suspended
      rw [doored_of_closes closes, leave_of_last suspended held all] at tests
      cases prior with
      | heating =>
        rw [toHeating] at tests
        exact tests.of_resumed rfl cool
      | commanded =>
        rw [toCommanded] at tests
        rw [tests.of_commanded rfl, if_pos (heats.resolve_left nofun)]
  · rw [doored_of_ending ending] at tests
    refine ⟨tests.of_stuck ending, fun other => ?_⟩
    obtain ⟨none, gone, field⟩ := tests.of_ending ending other
    refine ⟨none, gone, ?_, ?_, ?_⟩
    · rw [field TrailerRecord.f fun _ => rfl]
      cases o <;> rfl
    · rw [field TrailerRecord.r fun _ => rfl]
      cases o with
      | cleared => rfl
      | timedOut | unitEnded | startFailed | aborted _ => exact tests.finds.r
    · rw [field TrailerRecord.lastDefrostEnd fun _ => rfl]
      cases o with
      | cleared | timedOut | unitEnded => rfl
      | startFailed | aborted _ => exact tests.finds.lastDefrostEnd

end Sys2Proof.Machine


/-! # What the table leaves of output mismatch and of the cause POST (R101, R173) -/

namespace Sys2Proof.Machine

/-! ## The relation -/

/-- An output state beside its toggle, which BEACON and the POLLs move (R170). -/
def OutputState.untoggled (o : OutputState) : OutputState := { o with nextToggle := false, thisToggle := false }

/-- A record's OUTPUT-MISMATCH is another's, or stands nowhere. -/
def TrailerRecord.MismatchFrom (t u : TrailerRecord) : Prop :=
  (u.activeOf .outputMismatch = t.activeOf .outputMismatch ∧ u.notedOf .outputMismatch = t.notedOf .outputMismatch) ∨
  (u.activeOf .outputMismatch = none ∧ u.notedOf .outputMismatch = none)

theorem TrailerRecord.MismatchFrom.trans {t u v : TrailerRecord} (h : t.MismatchFrom u) (k : u.MismatchFrom v) :
    t.MismatchFrom v := by
  obtain ⟨active, noted⟩ | none := k
  · unfold TrailerRecord.MismatchFrom
    rw [active, noted]
    exact h
  · exact .inr none

theorem TrailerRecord.MismatchFrom.of_same {t u : TrailerRecord} (active : u.active = t.active) (noted : u.noted = t.noted) :
    t.MismatchFrom u := by
  refine .inl ⟨?_, ?_⟩
  · unfold TrailerRecord.activeOf
    rw [active]
  · unfold TrailerRecord.notedOf
    rw [noted]

theorem TrailerRecord.MismatchFrom.of_empty (t : TrailerRecord) {u : TrailerRecord} (active : u.active = []) (noted : u.noted = []) :
    t.MismatchFrom u := by
  refine .inr ⟨?_, ?_⟩
  · unfold TrailerRecord.activeOf
    rw [active]
    rfl
  · unfold TrailerRecord.notedOf
    rw [noted]
    rfl

/-- No run of the record is held by POST. -/
def TrailerRecord.PostFree (t : TrailerRecord) : Prop := ∀ x, t.run = some x → ∀ k ∈ x.causes, k.cause ≠ .post

theorem freeOf_iff (s : State) (q : Post) : s.FreeOf .post q ↔ (s.trailer q).PostFree := Iff.rfl

/-- No OUTPUT-MISMATCH comes to stand, no output state changes beside its toggle, and no run takes up POST. -/
structure Quiet (s t : State) : Prop where
  record : ∀ q, ∃ q', (s.trailer q').MismatchFrom (t.trailer q)
  output : ∀ q, (t.output q).map OutputState.untoggled = (s.output q).map OutputState.untoggled
  free : ∀ q, s.FreeOf .post q → t.FreeOf .post q

namespace Quiet

variable {s t u : State}

theorem trans (h : Quiet s t) (k : Quiet t u) : Quiet s u := by
  refine ⟨fun q => ?_, fun q => (k.output q).trans (h.output q), fun q => k.free q ∘ h.free q⟩
  obtain ⟨q', second⟩ := k.record q
  obtain ⟨q'', first⟩ := h.record q'
  exact ⟨q'', first.trans second⟩

theorem of_outputs (outputs : t.outputs = s.outputs) (record : ∀ q, ∃ q', (s.trailer q').MismatchFrom (t.trailer q))
    (free : ∀ q, s.FreeOf .post q → t.FreeOf .post q) : Quiet s t := by
  refine ⟨record, fun q => ?_, free⟩
  unfold State.output
  rw [outputs]

/-- Records that keep everything beside their runs, under outputs that stand. -/
theorem of_alone (outputs : t.outputs = s.outputs) (offRun : ∀ q, (t.trailer q).offRun = (s.trailer q).offRun)
    (free : ∀ q, s.FreeOf .post q → t.FreeOf .post q) : Quiet s t :=
  .of_outputs outputs (fun q => ⟨q, .of_same (TrailerRecord.field_of_offRun (offRun q) TrailerRecord.active fun _ => rfl)
    (TrailerRecord.field_of_offRun (offRun q) TrailerRecord.noted fun _ => rfl)⟩) free

theorem of_same (records : t.records = s.records) (outputs : t.outputs = s.outputs) : Quiet s t := by
  have same (q : Post) : t.trailer q = s.trailer q := by
    unfold State.trailer
    rw [records]
  exact .of_alone outputs (fun q => by rw [same]) fun q h => h.of_run (run_of_trailer (same q))

theorem refl (s : State) : Quiet s s := .of_same rfl rfl

end Quiet

/-! ## Records and actions -/

section
variable (s : State) (p : Post)

theorem quiet_edit (f : TrailerRecord → TrailerRecord) (same : (s.trailer p).MismatchFrom (f (s.trailer p)))
    (free : (s.trailer p).PostFree → (f (s.trailer p)).PostFree) : Quiet s (s.editTrailer p f) := by
  refine .of_outputs (by rw [State.editTrailer_changes]) (fun q => ⟨q, ?_⟩) fun q => ?_
  · by_cases here : q = p
    · subst here
      have active := State.field_editTrailer_self s q f (TrailerRecord.activeOf · .outputMismatch) fun _ => rfl
      have noted := State.field_editTrailer_self s q f (TrailerRecord.notedOf · .outputMismatch) fun _ => rfl
      unfold TrailerRecord.MismatchFrom at same ⊢
      rw [active, noted]
      exact same
    · rw [State.trailer_editTrailer_other _ _ _ _ here]
      exact .of_same rfl rfl
  · by_cases here : q = p
    · subst here
      rw [freeOf_iff, freeOf_iff]
      unfold TrailerRecord.PostFree at free ⊢
      rw [State.field_editTrailer_self s q f TrailerRecord.run fun _ => rfl]
      exact free
    · exact fun h => h.of_run (run_of_trailer (State.trailer_editTrailer_other _ _ _ _ here))

/-- An edit of neither set and of no run. -/
theorem quiet_calm (f : TrailerRecord → TrailerRecord) (same : (s.trailer p).SameMarks (f (s.trailer p))) :
    Quiet s (s.editTrailer p f) :=
  quiet_edit s p f (.of_same same.active same.noted) fun free => by
    unfold TrailerRecord.PostFree at free ⊢
    rw [same.run]
    exact free

/-- A record given whole, with no run and no finding. -/
theorem quiet_empty {r : TrailerRecord} (run : r.run = none) (active : r.active = []) (noted : r.noted = []) :
    Quiet s (s.putTrailer p r) := by
  refine .of_outputs rfl (fun q => ⟨q, ?_⟩) fun q => ?_
  · by_cases here : q = p
    · rw [here, State.trailer_putTrailer_self]
      exact .of_empty _ active noted
    · rw [State.trailer_putTrailer_other _ _ _ _ here]
      exact .of_same rfl rfl
  · by_cases here : q = p
    · intro _ x hx
      rw [here] at hx
      unfold State.run at hx
      rw [State.trailer_putTrailer_self] at hx
      exact absurd (hx.symm.trans run) nofun
    · exact fun h => h.of_run (run_of_trailer (State.trailer_putTrailer_other _ _ _ _ here))

theorem quiet_item (b : ItemBody) : Quiet s (s.item p b) :=
  .of_same (s.item_records p b) (arbiterAlone_item s p b).outputs

theorem quiet_putRun (r : Option RunRecord)
    (free : (s.trailer p).PostFree → ∀ x, r = some x → ∀ k ∈ x.causes, k.cause ≠ .post) : Quiet s (s.putRun p r) :=
  quiet_edit s p (fun t => { t with run := r }) (.of_same rfl rfl) free

/-- A run that goes on with its causes. -/
theorem quiet_goesOn {x : RunRecord} (run : s.run p = some x) {y : RunRecord} (causes : ∀ k ∈ y.causes, k ∈ x.causes) :
    Quiet s (s.putRun p (some y)) :=
  quiet_putRun s p _ fun free z hz k hk => by
    cases hz
    exact free x run k (causes k hk)

theorem quiet_causeJoins {c : SuspCause} (hc : c ≠ .post) (n : Nat) : Quiet s (s.causeJoins p c n) :=
  .of_alone (arbiterAlone_causeJoins s p c n).outputs (fun q => offRun_causeJoins s p q c n) fun _ h => h.causeJoins p hc.symm n

theorem quiet_causeLeaves (c : SuspCause) : Quiet s (s.causeLeaves p c) :=
  .of_alone (arbiterAlone_causeLeaves s p c).outputs (fun q => offRun_causeLeaves s p q c) fun _ h => h.causeLeaves p c

theorem quiet_removeRequest : Quiet s (s.removeRequest p) :=
  .of_same (s.removeRequest_records p) (arbiterAlone_removeRequest s p).outputs

theorem quiet_walk (q : Queue) : Quiet s (s.walk q) :=
  .of_alone (arbiterAlone_walk s q).outputs (offRun_walk s q) fun _ h => h.walk (c := .post) nofun nofun q

theorem quiet_relink (n : Option Nat) : Quiet s (s.relink p n) := by
  unfold State.relink
  split
  · rename_i r run
    exact quiet_goesOn s p run fun _ hk => hk
  · exact .refl s

theorem quiet_endRun (o : RunOutcome) (b : Bool) : Quiet s (s.endRun p o b) := by
  unfold State.endRun
  split
  · exact .refl s
  · rename_i r _
    dsimp only
    have settled := quiet_calm s p (fun t => t.settleRun o r.f0 s.now) (by cases o <;> exact ⟨rfl, rfl, rfl⟩)
    have released (u : State) (n : Nat) : Quiet u (u.putLoad r.queue n) := .of_same rfl rfl
    exact (((settled.trans (released _ _)).trans (quiet_item _ p _)).trans (quiet_putRun _ p none fun _ _ no => nomatch no)).trans
      (quiet_walk _ _)

theorem quiet_activate (a : Action) (k : Nat) : Quiet s (s.activate p a k) := by
  have put (v : ActionsInForce) : Quiet s (s.putInForce p v) := .of_same rfl rfl
  have lit (u : State) : Quiet u (u.lightBeacon p) := by
    unfold State.lightBeacon
    split
    · exact .refl u
    · rename_i o ho
      refine ⟨fun q => ⟨q, .of_same rfl rfl⟩, fun q => ?_, fun _ h => h⟩
      by_cases here : q = p
      · rw [here, State.output_putOutput_self, ho]
        rfl
      · rw [State.output_putOutput_other _ _ _ _ here]
  unfold State.activate
  split
  · exact .refl s
  · dsimp only
    split
    · exact (put _).trans (lit _)
    · exact put _

/-! ## Findings of other classes -/

/-- A change of the sets that leaves one class, of another class. -/
theorem quiet_of_leaves {x : TrailerRecord} {cs : List FindingClass} {t : State} (h : Leaves p cs x s t)
    (hc : FindingClass.outputMismatch ∉ cs) (outputs : t.outputs = s.outputs)
    (free : ∀ q, s.FreeOf .post q → t.FreeOf .post q) : Quiet s t := by
  refine .of_outputs outputs (fun q => ⟨q, ?_⟩) free
  by_cases here : q = p
  · rw [here]
    exact .inl ⟨h.active _ hc, h.noted _ hc⟩
  · exact .of_same (TrailerRecord.field_of_offRun (h.others q here) TrailerRecord.active fun _ => rfl)
      (TrailerRecord.field_of_offRun (h.others q here) TrailerRecord.noted fun _ => rfl)

theorem quiet_noting {c : FindingClass} (hc : c ≠ .outputMismatch) (d : Nat) :
    Quiet s (s.editTrailer p fun t => t.noting c d) :=
  quiet_of_leaves s p (leaves_noting s p c d) (by simpa using hc.symm) (by rw [State.editTrailer_changes])
    fun q h => h.of_run (State.field_editTrailer s p (fun t => t.noting c d) TrailerRecord.run (fun _ => rfl) rfl q)

theorem quiet_pushed {c : FindingClass} (hc : c ≠ .outputMismatch) (d k : Nat) : Quiet s (s.pushed p c d k) := by
  refine quiet_of_leaves s p (leaves_raising s p c d k) (by simpa using hc.symm) ?_
    fun q h => h.of_run (pushed_run s p c d k q)
  unfold State.pushed
  rw [State.editTrailer_changes]
  rfl

theorem quiet_produceEnding {c : FindingClass} (hc : c ≠ .outputMismatch) (d k : Nat) :
    Quiet s (s.produceEnding p c d k).1 := by
  unfold State.produceEnding
  by_cases drops : s.running = false ∨ (s.trailer p).stands c = true
  · rw [produceWith_of_drops _ _ _ drops]
    exact .refl s
  · obtain ⟨running, free⟩ := not_or.mp drops
    have running := Bool.not_eq_false _ ▸ running
    have free := Bool.eq_false_iff.mpr free
    by_cases mask : (s.trailer p).mask.getLsbD c.num = true ∨ c = .custodyBreak
    · rw [produceWith_of_raises _ _ _ running free mask]
      dsimp only
      rw [raiseFinding_eq]
      exact ((quiet_pushed s p hc d k).trans (quiet_activate _ p _ _)).trans (quiet_item _ p _)
    · obtain ⟨clear, other⟩ := not_or.mp mask
      rw [produceWith_of_notes _ _ _ running free (Bool.eq_false_iff.mpr clear) other]
      exact (quiet_noting s p hc d).trans (quiet_item _ p _)

theorem quiet_enterEnding (o : RunOutcome) (b : Bool) (k : Nat) : Quiet s (s.enterEnding p o b k) := by
  cases run : s.run p with
  | none =>
    unfold State.enterEnding
    rw [run]
    exact .refl s
  | some r =>
    have entered := quiet_edit s p (fun t => t.entering r s.now o b k) (.of_same rfl rfl) fun _ x hx c hc => by
      cases hx
      cases hc
    rw [enterEnding_of_run run]
    split
    · exact entered
    · rename_i c d finding
      have hc : c ≠ .outputMismatch := by
        obtain rfl | rfl := finding_classes finding <;> nofun
      exact (entered.trans (quiet_produceEnding _ p hc d _)).trans (quiet_relink _ p _)

theorem quiet_applyAction (a : Action) (k : Nat) : Quiet s (s.applyAction p a k) := by
  have active := quiet_activate s p a k
  unfold State.applyAction
  split
  · exact .refl s
  · dsimp only
    split
    · exact active
    · exact active
    · unfold State.inhibitDefrost
      refine (active.trans (quiet_removeRequest _ p)).trans ?_
      unfold State.abortRun
      split
      · exact .refl _
      · split
        · exact .refl _
        · exact quiet_enterEnding ((s.activate p .inhibitDefrost k).removeRequest p) p (.aborted .inhibit) true k
    · exact active.trans (quiet_causeJoins _ p (c := .cut) nofun k)

theorem quiet_produce {c : FindingClass} (hc : c ≠ .outputMismatch) (d k : Nat) : Quiet s (s.produce p c d k) := by
  obtain ⟨-, same⟩ | ⟨-, -, same⟩ | ⟨-, -, same⟩ := produce_cases s p c d k <;> rw [same]
  · exact .refl s
  · exact (quiet_noting s p hc d).trans (quiet_item _ p _)
  · rw [raiseFinding_eq]
    exact ((quiet_pushed s p hc d k).trans (quiet_applyAction _ p _ _)).trans (quiet_item _ p _)

theorem quiet_withdrawAction (a : Action) : Quiet s (s.withdrawAction p a) := by
  have ended (v : ActionsInForce) : Quiet s (s.putInForce p v) := .of_same rfl rfl
  unfold State.withdrawAction
  split
  · dsimp only
    split
    · exact ended _
    · exact ended _
    · exact ended _
    · exact (ended _).trans (quiet_causeLeaves _ p .cut)
  · exact .refl s

theorem quiet_withdrawActions : Quiet s (s.withdrawActions p) :=
  ((quiet_withdrawAction s p _).trans (quiet_withdrawAction _ p _)).trans (quiet_withdrawAction _ p _)

theorem quiet_settleAction (a : Action) : Quiet s (s.settleAction p a) := by
  unfold State.settleAction
  split
  · exact quiet_applyAction s p a _
  · exact quiet_withdrawAction s p a

theorem quiet_settleActions : Quiet s (s.settleActions p) :=
  ((quiet_settleAction s p _).trans (quiet_settleAction _ p _)).trans (quiet_settleAction _ p _)

theorem quiet_emptySets : Quiet s (s.emptySets p) :=
  (quiet_edit s p (fun t => { t with active := [], noted := [] }) (.of_empty _ rfl rfl) fun free => free).trans
    (quiet_withdrawActions _ p)

theorem outputs_clearFinding (c : FindingClass) (b : Bool) : (s.clearFinding p c b).outputs = s.outputs := by
  unfold State.clearFinding
  split
  · unfold State.settleWithdrawal
    split
    · rw [outputs_withdrawAction, (arbiterAlone_item _ p _).outputs, State.editTrailer_changes]
    · rw [(arbiterAlone_item _ p _).outputs, State.editTrailer_changes]
  · rw [(arbiterAlone_item _ p _).outputs, State.editTrailer_changes]
  · rfl

theorem freeOf_clearFinding {q : Post} (h : s.FreeOf .post q) (c : FindingClass) (b : Bool) :
    (s.clearFinding p c b).FreeOf .post q := by
  have left (f : TrailerRecord → TrailerRecord) (same : ∀ t, (f t).run = t.run) (x : ItemBody) :
      ((s.editTrailer p f).item p x).FreeOf .post q :=
    h.of_run ((State.item_run _ _ _ _).trans (State.field_editTrailer s p f TrailerRecord.run (fun _ => rfl) (same _) q))
  have active := left (fun t => { t with active := t.active.filter fun a => decide (a.cls ≠ c) }) (fun _ => rfl)
    (.findingCleared c b)
  have noted := left (fun t => { t with noted := t.noted.filter fun a => decide (a.cls ≠ c) }) (fun _ => rfl)
    (.findingCleared c b)
  unfold State.clearFinding
  split
  · generalize ((s.editTrailer p fun t => { t with active := t.active.filter fun a => decide (a.cls ≠ c) }).item p
      (.findingCleared c b)) = u at *
    unfold State.settleWithdrawal
    split
    · exact (quiet_withdrawAction u p _).free q active
    · exact active
  · exact noted
  · exact h

theorem quiet_clearFinding {c : FindingClass} (hc : c ≠ .outputMismatch) (b : Bool) : Quiet s (s.clearFinding p c b) :=
  quiet_of_leaves s p (leaves_clearFinding s p c b) (by simpa using hc.symm) (outputs_clearFinding s p c b)
    fun _ h => freeOf_clearFinding s p h c b

theorem quiet_clearLinkLost (n : Nat) : Quiet s (s.clearLinkLost p n) := by
  unfold State.clearLinkLost
  split
  · split
    · exact quiet_clearFinding s p (c := .linkLost) nofun false
    · exact .refl s
  · exact .refl s

end

end Sys2Proof.Machine


/-! # What a status at the table leaves of output mismatch and of the cause POST (R26, R101, R173) -/

namespace Sys2Proof.Machine

/-! ## The evaluation -/

/-- The owners before Run Control leave output mismatch and the cause POST, as a kit. -/
def StageKit.quiet (p : Post) : StageKit p where
  rel t s := Quiet s t
  refl := .refl
  after x y := y.trans x
  edit s f same := quiet_calm s p f same
  produce s c d k hc := quiet_produce s p (by rintro rfl; cases hc) d k
  clear s c b hc := quiet_clearFinding s p (by
    rintro rfl
    obtain no | no := hc <;> cases no) b
  item s b := quiet_item s p b

section
variable (s : State) (p : Post)

theorem quiet_abortSuspension (r : RunRecord) : Quiet s (s.abortSuspension p r) := by
  unfold State.abortSuspension
  split
  · exact .refl s
  · exact quiet_enterEnding s p _ _ _

theorem quiet_refreshLimits : Quiet s (s.refreshLimits p) := by
  unfold State.refreshLimits
  split
  · rename_i r pr run _
    have put := quiet_goesOn s p run (y := { r with limits := pr.limits }) fun _ hk => hk
    dsimp only
    split
    · exact put.trans (quiet_enterEnding _ p _ _ _)
    · split
      · exact put.trans (quiet_abortSuspension _ p _)
      · exact put
  · exact .refl s

theorem quiet_doorStep (change : Option DoorChange) : Quiet s (s.doorStep p change) := by
  unfold State.doorStep
  split
  · exact .refl s
  · exact quiet_causeJoins s p (c := .door) nofun 0
  · exact quiet_causeLeaves s p .door

theorem quiet_heatingTest {r : RunRecord} (run : s.run p = some r) (rep : StatusReport) : Quiet s (s.heatingTest p r rep) := by
  have put := quiet_goesOn s p run (y := { r with heatCount := bump255 r.heatCount }) fun _ hk => hk
  have counted := State.run_putRun_self s p (some { r with heatCount := bump255 r.heatCount })
  unfold State.heatingTest
  dsimp only
  split
  · exact put.trans (quiet_enterEnding _ p _ _ _)
  · refine put.trans ?_
    unfold State.heaterTest
    split
    · have marked := quiet_goesOn _ p counted (y := { r with heatCount := bump255 r.heatCount, heaterWeak := true })
        fun _ hk => hk
      exact marked.trans (quiet_produce _ p (c := .heaterWeak) nofun _ 0)
    · exact .refl _

theorem quiet_suspendedTest {r : RunRecord} (run : s.run p = some r) {start : Time} {prior : PriorState} {cs : List CauseEntry}
    (state : r.state = .suspended start prior cs) (rep : StatusReport) : Quiet s (s.suspendedTest p r start prior cs rep) := by
  have causes : r.causes = cs := by
    unfold RunRecord.causes
    rw [state]
  unfold State.suspendedTest
  dsimp only
  have put (prior' : PriorState) := quiet_goesOn s p run (y := { r with state := .suspended start prior' cs })
    fun _ hk => causes ▸ hk
  split
  · split
    · exact (put _).trans (quiet_enterEnding _ p _ _ _)
    · exact put _
  · exact put _

theorem quiet_statusTests (rep : StatusReport) (b : Bool) : Quiet s (s.statusTests p rep b).1 := by
  unfold State.statusTests
  split
  · exact .refl s
  · rename_i r run
    split
    · split
      · exact quiet_goesOn s p run nofun
      · exact .refl s
    · dsimp only
      split
      · exact quiet_heatingTest s p run rep
      · exact .refl s
    · rename_i state
      exact quiet_suspendedTest s p run state rep
    · split
      · exact quiet_goesOn s p run nofun
      · exact quiet_endRun s p _ false

theorem quiet_runEvaluation (rep : StatusReport) (change : Option DoorChange) (b : Bool) :
    Quiet s (s.runEvaluation p rep change b).1 :=
  ((quiet_refreshLimits s p).trans (quiet_doorStep _ p change)).trans (quiet_statusTests _ p rep b)

theorem quiet_joinQueue (q : Queue) (r : Request) : Quiet s (s.joinQueue q r) := .of_same rfl rfl

theorem quiet_upgradeRequest (c : RequestClass) : Quiet s (s.upgradeRequest p c) := by
  unfold State.upgradeRequest
  split
  · exact .refl s
  · exact (quiet_removeRequest s p).trans (quiet_joinQueue _ _ _)

theorem quiet_filing (rep : StatusReport) (b : Bool) : Quiet s (s.filing p rep b) := by
  have kept : Quiet s (s.removeUnitRequest p rep.mode) := by
    unfold State.removeUnitRequest
    split
    · split
      · exact quiet_removeRequest s p
      · exact .refl s
    · exact .refl s
  unfold State.filing
  dsimp only
  generalize s.removeUnitRequest p rep.mode = u at *
  split
  · exact kept
  · rename_i pr _
    have upgraded : Quiet u (u.upgradeForced p pr) := by
      unfold State.upgradeForced
      split
      · split
        · exact quiet_upgradeRequest u p .forced
        · exact .refl u
      · exact .refl u
    refine (kept.trans upgraded).trans ?_
    unfold State.filingTest
    dsimp only
    split
    · exact .refl _
    · split
      · exact (quiet_joinQueue _ _ _).trans (quiet_walk _ _)
      · exact .refl _

theorem quiet_closes (rep : StatusReport) (b : Bool) : Quiet s (s.closes p rep b) := by
  have filed := quiet_filing s p rep b
  unfold State.closes
  split
  · refine filed.trans ?_
    unfold State.walkForHours
    split
    · exact quiet_walk _ _
    · exact .refl _
  · exact filed

end

theorem quiet_evaluate (a : Arrival) (p : Post) (rep : StatusReport) (b : Bool) : Quiet a.s (a.evaluate p rep b) := by
  rw [evaluate_eq]
  have watched : Quiet a.s (a.s.watched p rep a.before).1 := (StageKit.quiet p).watched a.s rep a.before
  exact (watched.trans (quiet_runEvaluation _ p rep _ b)).trans (quiet_closes _ p rep _)

/-! ## The lifecycle (2.4) -/

section
variable (s : State) (p : Post)

theorem quiet_cutShort (c : AbortCause) : Quiet s (s.cutShort p c) :=
  (quiet_endRun s p _ _).trans (quiet_removeRequest _ p)

theorem quiet_depart : Quiet s (s.depart p) := by
  unfold State.depart
  dsimp only
  have emptied := (quiet_cutShort s p .departure).trans (quiet_emptySets _ p)
  have removed (u : State) : Quiet u (u.dirRemove p) := .of_same rfl rfl
  exact ((emptied.trans (quiet_item _ p _)).trans (removed _)).trans (quiet_empty _ p rfl rfl rfl)

theorem quiet_recordRebuild : Quiet s s.recordRebuild := by
  unfold State.recordRebuild
  dsimp only
  split
  · split
    · exact .of_same rfl rfl
    · exact .of_same rfl rfl
  · exact .of_same rfl rfl

theorem quiet_rebuildAway : Quiet s (s.rebuildAway p) := by
  unfold State.rebuildAway
  have removed (u : State) : Quiet u (u.dirRemove p) := .of_same rfl rfl
  exact ((((quiet_cutShort s p _).trans (removed _)).trans (quiet_emptySets _ p)).trans
    (quiet_empty _ p rfl rfl rfl)).trans (quiet_recordRebuild _)

theorem quiet_announceEnrolment (i : ProfileId) : Quiet s (s.announceEnrolment p i) :=
  (quiet_item s p _).trans (quiet_clearFinding _ p (c := .unknownModel) nofun false)

theorem quiet_tryMatch (b : Bool) : Quiet s (s.tryMatch p b) := by
  unfold State.tryMatch
  split
  · split
    · exact (quiet_calm s p _ ⟨rfl, rfl, rfl⟩).trans (quiet_announceEnrolment _ p _)
    · exact (quiet_calm s p _ ⟨rfl, rfl, rfl⟩).trans (quiet_announceEnrolment _ p _)
  · exact quiet_produce s p (c := .unknownModel) nofun _ 0

theorem quiet_settleBinding : Quiet s (s.settleBinding p).1 := by
  unfold State.settleBinding
  split
  · exact quiet_calm s p (fun t => { t with state := .enrolled }) ⟨rfl, rfl, rfl⟩
  · exact quiet_calm s p (fun t => { t with state := .arriving, profile := none }) ⟨rfl, rfl, rfl⟩

theorem quiet_dirInsert (u : Word32) : Quiet s (s.dirInsert u p) := .of_same rfl rfl

theorem quiet_arriveRebuilt (rep : StatusReport) : Quiet s (s.arriveRebuilt p rep) := by
  have placed : Quiet s ((s.putTrailer p (.rebuilt rep.serial rep.model s.now (s.matching rep.model))).dirInsert
      rep.serial p) := by
    refine (quiet_empty s p (TrailerRecord.rebuilt_run _ _ _ _) ?_ ?_).trans (quiet_dirInsert _ p _)
    all_goals
      unfold TrailerRecord.rebuilt
      dsimp only
      split <;> rfl
  unfold State.arriveRebuilt
  dsimp only
  split
  · exact placed.trans (quiet_produce _ p (c := .unknownModel) nofun _ 0)
  · exact placed

theorem quiet_arriveFresh (u : Word32) (m : Word16) : Quiet s
    ((s.putTrailer p (.fresh u m s.now)).dirInsert u p) :=
  (quiet_empty s p rfl rfl rfl).trans (quiet_dirInsert _ p _)

theorem quiet_arriveUnknown (rep : StatusReport) : Quiet s (s.arriveUnknown p rep) :=
  ((quiet_arriveFresh s p _ _).trans (quiet_item _ p _)).trans (quiet_tryMatch _ p false)

theorem quiet_hold (o : Post) (rep : StatusReport) : Quiet s (s.hold o p rep) :=
  (quiet_empty s p (r := { TrailerRecord.fresh rep.serial rep.model s.now with state := .held }) rfl rfl rfl).trans
    (quiet_produce _ p (c := .duplicateUnit) nofun _ 0)

/-- A record given whole with no run, whose sets an earlier record had. -/
theorem Quiet.put {s t : State} (h : Quiet s t) (p : Post) {q' : Post} {r : TrailerRecord}
    (same : (s.trailer q').MismatchFrom r) (run : r.run = none) : Quiet s (t.putTrailer p r) := by
  refine ⟨fun q => ?_, h.output, fun q => ?_⟩
  · by_cases here : q = p
    · refine ⟨q', ?_⟩
      rw [here, State.trailer_putTrailer_self]
      exact same
    · rw [State.trailer_putTrailer_other _ _ _ _ here]
      exact h.record q
  · by_cases here : q = p
    · intro _ x hx
      rw [here] at hx
      unfold State.run at hx
      rw [State.trailer_putTrailer_self] at hx
      exact absurd (hx.symm.trans run) nofun
    · exact fun free => (h.free q free).of_run (run_of_trailer (State.trailer_putTrailer_other _ _ _ _ here))

theorem quiet_carry (o : Post) (rep : StatusReport) : Quiet s (s.carry o p rep) := by
  have cut := quiet_cutShort s o .move
  unfold State.carry
  dsimp only
  generalize s.cutShort o .move = c at *
  have placed : Quiet c ((c.withdrawActions p).putTrailer p ((c.trailer o).carried rep.model s.now)) :=
    (quiet_withdrawActions c p).put p (q' := o) (.of_same rfl rfl) rfl
  have acting := (placed.trans (quiet_settleActions _ p)).trans
    (quiet_clearFinding _ p (c := .linkLost) nofun false)
  generalize ((((c.withdrawActions p).putTrailer p ((c.trailer o).carried rep.model s.now)).settleActions p).clearFinding p
    .linkLost false) = w at *
  have repointed (u : State) : Quiet u (u.dirRepoint rep.serial p) := .of_same rfl rfl
  have left := (((cut.trans acting).trans (quiet_empty w o (r := .vacant) rfl rfl rfl)).trans
    (quiet_withdrawActions _ o)).trans (repointed _)
  have bound := left.trans (quiet_settleBinding _ p)
  split
  · exact bound.trans (quiet_item _ p _)
  · exact (bound.trans (quiet_tryMatch _ p true)).trans (quiet_item _ p _)

end

section
variable (a : Arrival) (p : Post) (rep : StatusReport)

theorem quiet_move (o : Post) : Quiet a.s (a.move o p rep).s := by
  unfold Arrival.move
  dsimp only
  split
  · dsimp only
    exact quiet_carry a.s p o rep
  · have away := quiet_rebuildAway a.s o
    dsimp only
    generalize a.s.rebuildAway o = w at *
    have emptied := away.trans (quiet_emptySets w p)
    exact emptied.trans (quiet_arriveRebuilt _ p rep)

theorem quiet_arrive : Quiet a.s (a.arrive p rep).s := by
  unfold Arrival.arrive Arrival.on
  split
  · split
    · exact quiet_move a p rep _
    · exact quiet_hold a.s p _ rep
  · dsimp only
    split
    · exact quiet_arriveRebuilt a.s p rep
    · exact quiet_arriveUnknown a.s p rep

theorem quiet_retryHeld : Quiet a.s (a.retryHeld p rep).s := by
  unfold Arrival.retryHeld Arrival.on
  split
  · dsimp only
    exact ((((quiet_item a.s p _).trans (quiet_clearFinding _ p (c := .duplicateUnit) nofun false)).trans
      (quiet_emptySets _ p)).trans (quiet_empty _ p rfl rfl rfl)).trans
        ((quiet_dirInsert _ p _).trans (quiet_tryMatch _ p false))
  · split
    · exact Quiet.trans (quiet_clearFinding a.s p (c := .duplicateUnit) nofun false)
        (quiet_move { a with s := a.s.clearFinding p .duplicateUnit false } p rep _)
    · exact .refl _

theorem quiet_same : Quiet a.s (a.same p rep).s := by
  have edited (f : TrailerRecord → TrailerRecord) (same : ∀ t : TrailerRecord, t.SameMarks (f t)) : Quiet a.s (a.s.editTrailer p f) :=
    quiet_calm a.s p f (same _)
  unfold Arrival.same Arrival.on
  split
  · exact .refl _
  · exact (edited (fun t => { t with unitAbsent := 0, model := if rep.model = 0 then t.model else rep.model })
      fun _ => ⟨rfl, rfl, rfl⟩).trans (quiet_clearLinkLost _ p 2)
  · exact (edited (fun t => { t with model := if rep.model = 0 then t.model else rep.model })
      fun _ => ⟨rfl, rfl, rfl⟩).trans (quiet_tryMatch _ p false)
  · exact quiet_retryHeld a p rep
  · dsimp only
    have bound := (edited (fun t => { t with model := rep.model }) fun _ => ⟨rfl, rfl, rfl⟩).trans
      (quiet_settleBinding _ p)
    split
    · split
      · exact bound.trans (quiet_item _ p _)
      · exact bound
    · exact bound.trans (quiet_tryMatch _ p true)

theorem quiet_countAbsent (s : State) : Quiet s (s.countAbsent p) := by
  have counted := quiet_calm s p (fun t => { t with unitAbsent := min 3 ((s.trailer p).unitAbsent + 1) }) ⟨rfl, rfl, rfl⟩
  unfold State.countAbsent
  dsimp only
  split
  · exact counted.trans (quiet_produce _ p (c := .linkLost) nofun _ 0)
  · exact counted

theorem quiet_lifecycle : Quiet a.s (a.lifecycle p rep).s := by
  unfold Arrival.lifecycle Arrival.on
  dsimp only
  split
  · split
    · exact quiet_depart a.s p
    · split
      · exact quiet_item a.s p _
      · exact .refl _
  · split
    · exact quiet_countAbsent p a.s
    · split
      · exact quiet_item a.s p _
      · exact .refl _
  · split
    · exact quiet_arrive a p rep
    · split
      · exact quiet_same a p rep
      · exact (quiet_depart a.s p).trans
          (quiet_arrive { a with s := a.s.depart p, before := TrailerRecord.vacant.atArrival } p rep)

end

theorem quiet_verifyAt (s : State) (p : Post) : Quiet s (s.verifyAt p).s := by
  unfold State.verifyAt
  dsimp only
  split
  · exact .refl s
  · split
    · exact (quiet_empty s p (r := .vacant) rfl rfl rfl).trans (quiet_recordRebuild _)
    · dsimp only
      exact quiet_rebuildAway s p

/-- A status at the table brings no OUTPUT-MISMATCH, leaves every output state beside its toggle, and brings no run POST. -/
theorem quiet_statusAtTable (s : State) (p : Post) (rep : StatusReport) (b : Bool) :
    Quiet s (s.statusAtTable p rep b) := by
  have stepped := (quiet_verifyAt s p).trans (quiet_lifecycle (s.verifyAt p) p rep)
  have stamped : Quiet s (s.stamped p rep).s := by
    have stamp (w : State) : Quiet w (w.stampStatus p) := by
      unfold State.stampStatus
      split
      · exact .refl w
      · exact quiet_calm w p (fun t => { t with lastStatus := some w.now }) ⟨rfl, rfl, rfl⟩
    exact stepped.trans (stamp _)
  have handled : Quiet s ((s.stamped p rep).handled p rep b) := by
    unfold Arrival.handled
    split
    · exact stamped.trans (quiet_evaluate _ p rep b)
    · exact stamped
  rw [State.statusAtTable_eq]
  generalize (s.stamped p rep).handled p rep b = t at *
  cases (s.stamped p rep).rebuilt with
  | none => exact handled
  | some n =>
    dsimp only
    split
    · exact handled
    · exact handled.trans (quiet_produce _ p (c := .recordRebuilt) nofun _ 0)

end Sys2Proof.Machine


/-! # The lifecycle of an ARRIVING, ENROLLED or RESTORED record beside its run (R31, R34, R39, R40) -/

namespace Sys2Proof.Machine

section
variable (s : State) (p : Post)

theorem leaves_announceEnrolment (i : ProfileId) : Leaves p [.unknownModel] (s.trailer p) s (s.announceEnrolment p i) :=
  (leaves_item s p p _).calm (leaves_clearFinding _ p .unknownModel false)

theorem leaves_enrol (i : ProfileId) (pr : Profile) :
    Leaves p [.unknownModel] ((s.trailer p).enrolled i pr) s (s.enrol p i pr) :=
  (leaves_edit s p (fun t => t.enrolled i pr) rfl rfl).calm (leaves_announceEnrolment _ p i)

theorem leaves_bindKeeping (i : ProfileId) : Leaves p [.unknownModel] { s.trailer p with state := .enrolled, profile := some i } s
    (s.bindKeeping p i) :=
  (leaves_edit s p (fun t => { t with state := .enrolled, profile := some i }) rfl rfl).calm (leaves_announceEnrolment _ p i)

/-- A match tried changes no class but UNKNOWN-MODEL, and DEFROST-ABORTED where the table has it act (R34). -/
theorem leaves_tryMatch (b : Bool) :
    Leaves p [.unknownModel, .defrostAborted] ((s.tryMatch p b).trailer p) s (s.tryMatch p b) := by
  have named {x : TrailerRecord} {cs : List FindingClass} {t : State} (h : Leaves p cs x s t)
      (sub : ∀ c ∈ cs, c ∈ [FindingClass.unknownModel, .defrostAborted]) : Leaves p [.unknownModel, .defrostAborted]
        (t.trailer p) s t := (h.as h.rest.symm).mono sub
  unfold State.tryMatch
  split
  · split
    · exact named (leaves_bindKeeping s p _) (by simp)
    · exact named (leaves_enrol s p _ _) (by simp)
  · exact named (leaves_produce s p .unknownModel _ 0) (by simp)

theorem leaves_settleBinding : Leaves p [] ((s.settleBinding p).1.trailer p) s (s.settleBinding p).1 := by
  unfold State.settleBinding
  split
  · have edited := leaves_edit s p (fun t => { t with state := .enrolled }) rfl rfl
    exact edited.as edited.rest.symm
  · have edited := leaves_edit s p (fun t => { t with state := .arriving, profile := none }) rfl rfl
    exact edited.as edited.rest.symm

end

/-! ## LINK-LOST at a status (R9, R31) -/

/-- A class that does not stand does not come to stand as a class clears. -/
theorem not_stands_clearFinding {s : State} {p : Post} {k : FindingClass} (free : (s.trailer p).stands k = false)
    (c : FindingClass) (b : Bool) : ((s.clearFinding p c b).trailer p).stands k = false := by
  by_cases same : k = c
  · subst same
    exact (clears_clearFinding s p k b).not_stands (.inl (TrailerRecord.not_stands_iff.mp free).1)
  · exact ((leaves_clearFinding s p c b).stands (by simpa using same)).trans free

/-- LINK-LOST does not come to stand through the owners before Run Control, as a kit. -/
def StageKit.unlinked (p : Post) : StageKit p where
  rel t s := (s.trailer p).stands .linkLost = false → (t.trailer p).stands .linkLost = false
  refl _ := id
  after x y := x ∘ y
  edit s f same free := ((leaves_edit s p f same.active same.noted).stands nofun).trans free
  produce s c d k hc free := by
    have apart : FindingClass.linkLost ≠ c := by
      rintro rfl
      cases hc
    exact ((leaves_produce s p c d k).stands (by simp [apart])).trans free
  clear _ c b _ free := not_stands_clearFinding free c b
  item s b free := ((leaves_item s p p b).stands nofun).trans free

theorem unlinked_evaluate {a : Arrival} {p : Post} (free : (a.s.trailer p).stands .linkLost = false) (rep : StatusReport)
    (b : Bool) : ((a.evaluate p rep b).trailer p).stands .linkLost = false := by
  have watched : ((a.s.watched p rep a.before).1.trailer p).stands .linkLost = false :=
    (StageKit.unlinked p).watched a.s rep a.before free
  rw [evaluate_eq]
  generalize a.s.watched p rep a.before = w at *
  have ran := (Leaves.stands (runsAt_runEvaluation w.1 p rep w.2 b) (c := .linkLost) (by decide)).trans watched
  generalize w.1.runEvaluation p rep w.2 b = x at *
  exact ((leaves_closes x.1 p rep (a.ended || x.2)).stands nofun).trans ran

/-- A status of the record's own unit, or one that counts no third absent unit, where a trailer stands that is not HELD. -/
structure KeepsLink (t : TrailerRecord) (rep : StatusReport) : Prop where
  present : t.state ≠ .vacant
  unheld : t.state ≠ .held
  reports : (rep.unit = .unit ∧ t.serial = rep.serial) ∨ (rep.unit = .noUnit ∧ (t.state ≠ .enrolled ∨ t.unitAbsent ≠ 2))

theorem unlinked_same {a : Arrival} {p : Post} (free : (a.s.trailer p).stands .linkLost = false)
    (unheld : (a.s.trailer p).state ≠ .held) (rep : StatusReport) :
    (((a.same p rep).s).trailer p).stands .linkLost = false := by
  have edited (f : TrailerRecord → TrailerRecord) (active : ∀ t, (f t).active = t.active) (noted : ∀ t, (f t).noted = t.noted) :
      ((a.s.editTrailer p f).trailer p).stands .linkLost = false :=
    ((leaves_edit a.s p f (active _) (noted _)).stands nofun).trans free
  have tried (u : State) (b : Bool) (hu : (u.trailer p).stands .linkLost = false) :
      ((u.tryMatch p b).trailer p).stands .linkLost = false := ((leaves_tryMatch u p b).stands (by decide)).trans hu
  unfold Arrival.same Arrival.on
  split
  · exact free
  · have seen := edited (fun t => { t with unitAbsent := 0, model := if rep.model = 0 then t.model else rep.model })
      (fun _ => rfl) fun _ => rfl
    dsimp only
    rw [clearLinkLost_of_not_stands seen]
    exact seen
  · exact tried _ false (edited (fun t => { t with model := if rep.model = 0 then t.model else rep.model })
      (fun _ => rfl) fun _ => rfl)
  · rename_i held
    exact absurd held unheld
  · have bound := ((leaves_settleBinding _ p).stands (by nofun)).trans
      (edited (fun t => { t with model := rep.model }) (fun _ => rfl) fun _ => rfl)
    dsimp only
    generalize (a.s.editTrailer p fun t => { t with model := rep.model }).settleBinding p = w at *
    split
    · split
      · exact ((leaves_item w.1 p p _).stands nofun).trans bound
      · exact bound
    · exact tried _ true bound

theorem unlinked_lifecycle {a : Arrival} {p : Post} {rep : StatusReport} (free : (a.s.trailer p).stands .linkLost = false)
    (keeps : KeepsLink (a.s.trailer p) rep) (fresh : a.rebuilt = none) :
    (((a.lifecycle p rep).s).trailer p).stands .linkLost = false ∧ (a.lifecycle p rep).rebuilt = none := by
  obtain ⟨present, unheld, ⟨unit, serial⟩ | ⟨away, fewer⟩⟩ := keeps
  · have same : a.lifecycle p rep = a.same p rep := by
      unfold Arrival.lifecycle
      dsimp only
      rw [unit]
      dsimp only
      rw [if_neg present, if_pos serial]
    rw [same]
    exact ⟨unlinked_same free unheld rep, (rebuilt_same unheld).trans fresh⟩
  · unfold Arrival.lifecycle Arrival.on
    dsimp only
    rw [away]
    dsimp only
    split
    · rename_i enrolled
      have third := fewer.resolve_left fun no => no enrolled
      dsimp only
      unfold State.countAbsent
      dsimp only
      rw [if_neg third]
      exact ⟨((leaves_edit a.s p (fun t => { t with unitAbsent := min 3 ((a.s.trailer p).unitAbsent + 1) }) rfl rfl).stands
        nofun).trans free, fresh⟩
    · rw [fresh]
      exact ⟨free, fresh⟩

/-- LINK-LOST that does not stand does not come to stand at such a status. -/
theorem unlinked_statusAtTable {s : State} {p : Post} {rep : StatusReport} (free : (s.trailer p).stands .linkLost = false)
    (verifies : (s.trailer p).verifies = true) (keeps : KeepsLink (s.trailer p) rep) (b : Bool) :
    ((s.statusAtTable p rep b).trailer p).stands .linkLost = false := by
  have verified : s.verifyAt p = { s := s, before := (s.trailer p).atArrival, rebuilt := none, ended := false } := by
    unfold State.verifyAt
    dsimp only
    rw [if_pos verifies]
  obtain ⟨stepped, fresh⟩ := unlinked_lifecycle (a := s.verifyAt p) (rep := rep) (by rw [verified]; exact free)
    (by rw [verified]; exact keeps) (by rw [verified])
  have stamped : (((s.stamped p rep).s).trailer p).stands .linkLost = false := by
    have stamp (w : State) (hw : (w.trailer p).stands .linkLost = false) : ((w.stampStatus p).trailer p).stands .linkLost = false := by
      unfold State.stampStatus
      split
      · exact hw
      · exact ((leaves_edit w p (fun t => { t with lastStatus := some w.now }) rfl rfl).stands nofun).trans hw
    exact stamp _ stepped
  have rebuilt : (s.stamped p rep).rebuilt = none := fresh
  rw [State.statusAtTable_eq, rebuilt]
  unfold Arrival.handled
  dsimp only
  split
  · exact unlinked_evaluate stamped rep b
  · exact stamped

end Sys2Proof.Machine


/-! # A GOOD status is heard (O34) -/

namespace Sys2Proof.Machine

/-! ## What follows the result of the exchange -/

/-- The record of a post, beside its run, stands as it stood or has departed; its output state stands beside its toggle; no
run takes up POST. -/
structure Settles (v u : State) : Prop where
  offRun : ∀ q, (u.trailer q).offRun = (v.trailer q).offRun ∨ (u.trailer q).offRun = TrailerRecord.vacant.offRun
  output : ∀ q, (u.output q).map OutputState.untoggled = (v.output q).map OutputState.untoggled
  free : ∀ q, v.FreeOf .post q → u.FreeOf .post q
  entry : ∀ q, u.entry q = v.entry q

namespace Settles

theorem of_same {v u : State} (records : u.records = v.records) (outputs : u.outputs = v.outputs) (posts : u.posts = v.posts) :
    Settles v u := by
  have trailer (q : Post) : u.trailer q = v.trailer q := by
    unfold State.trailer
    rw [records]
  refine ⟨fun q => .inl (by rw [trailer]), fun q => ?_, fun q h => h.of_run (run_of_trailer (trailer q)), fun q => ?_⟩
  · unfold State.output
    rw [outputs]
  · unfold State.entry
    rw [posts]

theorem trans {v w u : State} (h : Settles v w) (k : Settles w u) : Settles v u := by
  refine ⟨fun q => ?_, fun q => (k.output q).trans (h.output q), fun q => k.free q ∘ h.free q,
    fun q => (k.entry q).trans (h.entry q)⟩
  obtain same | gone := k.offRun q
  · rw [same]
    exact h.offRun q
  · exact .inr gone

end Settles

/-- LINE joins and leaves no run of a cause POST (R100). -/
def ChangeKit.postFree (q : Post) : ChangeKit where
  rel t s := s.FreeOf .post q → t.FreeOf .post q
  refl _ := id
  after x y := x ∘ y
  putLine s l c h := by cases l <;> exact h
  joins s p h := h.causeJoins p (c' := .line) nofun 0
  leaves s p h := h.causeLeaves p .line
  walk s q' h := h.walk (c := .post) nofun nofun q'

theorem settles_changeLine (s : State) (l : Line) (c : LineController) : Settles s (s.changeLine l c) where
  offRun q := .inl ((ChangeKit.offRun q).changeLine s l c)
  output q := by
    have outputs : (s.changeLine l c).outputs = s.outputs := by
      rw [(arbiterAlone_changeLine s l c).outputs]
      cases l <;> rfl
    unfold State.output
    rw [outputs]
  free q := (ChangeKit.postFree q).changeLine s l c
  entry := entry_changeLine s l c

theorem settles_discardRestored (s : State) (l : Line) : Settles s (s.discardRestored l) where
  offRun q := discardRestored_keeps (SideKit.offRun q)
    (P := fun u => (u.trailer q).offRun = (s.trailer q).offRun ∨ (u.trailer q).offRun = TrailerRecord.vacant.offRun)
    (fun u t kept h => by
      have same : (t.trailer q).offRun = (u.trailer q).offRun := kept
      rw [same]
      exact h)
    (fun u _ => .inr (by rw [trailer_depart_self])) s l (.inl rfl)
  output q := by
    have outputs : (s.discardRestored l).outputs = s.outputs :=
      forEach_keeps (fun u => u.outputs = s.outputs)
        (f := fun s' p => if (s'.trailer p).state = .restored then s'.depart p else s') (fun u p h => by
          split
          · exact (outputs_depart u p).trans h
          · exact h) (postsOn l) s rfl
    unfold State.output
    rw [outputs]
  free q h := discardRestored_keeps (SideKit.freeOf (c := .post) nofun nofun q) (P := fun u => u.FreeOf .post q)
    (fun _ _ kept => kept) (fun u _ x hx => by rw [run_depart_self] at hx; cases hx) s l h
  entry := entry_of_framed (framed_discardRestored s l)

theorem settles_nextAddress {s : State} {l : Line} {r : Round} (round : (s.line l).round = some r ∨ (s.line l).round = none) :
    Settles s (s.nextAddress l) := by
  obtain round | none := round
  · cases more : r.remaining with
    | nil =>
      have judged : Settles s (s.roundJudged l r) := settles_changeLine s l _
      rw [nextAddress_of_last round more]
      exact endRound_of (P := Settles s) s l r judged (judged.trans (settles_discardRestored _ l))
    | cons q rest =>
      rw [nextAddress_of_more round more]
      have polls := polls_beginExchange s l q false { r with remaining := rest }
      generalize s.beginExchange l q false { r with remaining := rest } = u at *
      have trailer (p : Post) : u.trailer p = s.trailer p := by
        rw [polls.changes]
        rfl
      refine ⟨fun p => .inl (by rw [trailer]), fun p => ?_, fun p h => h.of_run (run_of_trailer (trailer p)), fun p => ?_⟩
      · by_cases here : p = q
        · rw [here]
          cases ho : s.output q with
          | none => rw [polls.absent ho]
          | some o =>
            obtain ⟨o', ho', same⟩ := polls.output o ho
            rw [ho', same]
            rfl
        · rw [polls.outputs p here]
      · rw [polls.changes]
        rfl
  · rw [nextAddress_of_none none]
    exact .of_same rfl rfl rfl

theorem settles_exchangeGood {s : State} {l : Line} {bytes : List Byte} {r : Round} {rep : StatusReport}
    (h : s.Hears l bytes r rep) : Settles (s.goodResult l r.exchange rep) (s.exchangeGood l r rep) := by
  obtain ⟨-, takes, round⟩ := settled_goodResult h
  rw [exchangeGood_eq]
  generalize s.goodResult l r.exchange rep = v at *
  have changes := takes.changes
  have same : Settles v v.settleCauses := .of_same (by rw [changes]) (by rw [changes]) (by rw [changes])
  exact same.trans (settles_nextAddress round)

/-! ## The result itself -/

/-- What a GOOD result makes of the post's entry, with the plugged-no-unit indication as the table has left the record. -/
theorem entry_goodResult {s : State} {x : Exchange} {e : PostEntry} (he : s.entry x.post = some e) (l : Line)
    (rep : StatusReport) : (s.goodResult l x rep).entry x.post = some
      { state := .live, missed := 0, lastGood := some s.now,
        pluggedNoUnit := decide (rep.unit = .noUnit) && decide (((s.atTable l x rep).trailer x.post).state = .vacant) } := by
  have output (u : State) : OutsideSame u (u.outputAtGood x.post x.levels rep.actual) := .of_framed fun f => f.outputAtGood u _ _ _
  have heard : (s.hearPost l x.post).entry x.post = some (e.good s.now) := by
    have put : ((s.heardAt x.post).putLine l (s.line l).good).entry x.post = (s.heardAt x.post).entry x.post := by cases l <;> rfl
    rw [hearPost_eq, put, entry_of_framed (heardAt_frame s x.post), State.entry_putEntry_self, he]
    rfl
  have atTable : (s.atTable l x rep).entry x.post = some (e.good s.now) :=
    ((atTable_outside s l x rep).entryOf x.post).trans heard
  rw [goodResult_eq, (output _).entryOf]
  unfold State.settlePlugged
  rw [atTable]
  dsimp only
  rw [State.entry_putEntry_self]
  rfl

/-- With no unit reported, the table leaves the record in its state, or makes it VACANT. -/
theorem state_statusAtTable_of_noUnit {s : State} {p : Post} {rep : StatusReport} (none : rep.unit = .noUnit) (b : Bool) :
    ((s.statusAtTable p rep b).trailer p).state = (s.trailer p).state ∨
    ((s.statusAtTable p rep b).trailer p).state = .vacant := by
  have rebuilt (u : State) : (u.recordRebuild).trailer p = u.trailer p := by
    rw [recordRebuild_changes]
    rfl
  have verified : ((s.verifyAt p).s.trailer p).state = (s.trailer p).state ∨ ((s.verifyAt p).s.trailer p).state = .vacant := by
    unfold State.verifyAt
    dsimp only
    split
    · exact .inl rfl
    · split
      · dsimp only
        rw [rebuilt, State.trailer_putTrailer_self]
        exact .inr rfl
      · dsimp only
        exact .inr (vacated_rebuildAway s p).vacant
  have kept : (((s.stamped p rep).handled p rep b).trailer p).state = ((s.verifyAt p).s.trailer p).state := by
    have stepped : ((((s.verifyAt p).lifecycle p rep).s).trailer p).state = ((s.verifyAt p).s.trailer p).state := by
      generalize s.verifyAt p = a
      unfold Arrival.lifecycle Arrival.on
      dsimp only
      rw [none]
      dsimp only
      split
      · dsimp only
        unfold State.countAbsent
        dsimp only
        have counted := leaves_edit a.s p (fun t => { t with unitAbsent := min 3 ((a.s.trailer p).unitAbsent + 1) }) rfl rfl
        split
        · exact (counted.calm (leaves_produce _ p .linkLost 2 0)).field TrailerRecord.state fun _ => rfl
        · exact counted.field TrailerRecord.state fun _ => rfl
      · split
        · exact (leaves_item a.s p p _).field TrailerRecord.state fun _ => rfl
        · rfl
    have stamp (w : State) : ((w.stampStatus p).trailer p).state = (w.trailer p).state := by
      unfold State.stampStatus
      split
      · rfl
      · exact (leaves_edit w p (fun t => { t with lastStatus := some w.now }) rfl rfl).field TrailerRecord.state fun _ => rfl
    unfold Arrival.handled
    have other : rep.unit ≠ .unit := by
      rw [none]
      nofun
    rw [if_neg fun both => other both.2]
    exact (stamp _).trans stepped
  have whole : ((s.statusAtTable p rep b).trailer p).state = (((s.stamped p rep).handled p rep b).trailer p).state := by
    rw [State.statusAtTable_eq]
    generalize (s.stamped p rep).handled p rep b = t
    cases (s.stamped p rep).rebuilt with
    | none => rfl
    | some n =>
      dsimp only
      split
      · rfl
      · exact (leaves_produce t p .recordRebuilt n 0).field TrailerRecord.state fun _ => rfl
  rw [whole, kept]
  exact verified

/-- A post that was LOST leaves no POST among its run's causes (R9). -/
theorem freeOf_heardAt {s : State} {p : Post} (lost : (s.entry p).map (·.state) = some .lost) : (s.heardAt p).FreeOf .post p := by
  unfold State.heardAt
  dsimp only
  rw [decide_eq_true lost, if_pos rfl]
  exact (quiet_clearLinkLost _ p 1).free p (freeOf_causeLeaves _ .post p)

/-- What hearing the post leaves of output mismatch. -/
theorem quiet_hearPost (s : State) (l : Line) (p : Post) : Quiet s (s.hearPost l p) := by
  have line (u : State) (c : LineController) : Quiet u (u.putLine l c) := by
    rw [State.putLine_changes]
    exact .of_same rfl rfl
  have put : Quiet s (s.putEntry p ((s.entry p).map fun e => e.good s.now)) := .of_same rfl rfl
  rw [hearPost_eq]
  refine Quiet.trans ?_ (line _ _)
  unfold State.heardAt
  dsimp only
  split
  · exact (put.trans (quiet_causeLeaves _ p .post)).trans (quiet_clearLinkLost _ p 1)
  · exact put.trans (quiet_clearLinkLost _ p 1)

/-- LINK-LOST of detail POST or 0 has cleared as the post is heard (R9). -/
theorem unlinked_hearPost {s : State} {p : Post} (one : (s.trailer p).InOneSet .linkLost)
    (detail : (s.trailer p).detailOf .linkLost = some 1 ∨ (s.trailer p).detailOf .linkLost = some 0) (l : Line) :
    ((s.hearPost l p).trailer p).stands .linkLost = false := by
  rw [hearPost_eq, trailer_putLine]
  have cleared (u : State) (h : Leaves p [] (s.trailer p) s u) : ((u.clearLinkLost p 1).trailer p).stands .linkLost = false := by
    have same := h.detailOf (c := .linkLost) nofun
    have gone := (clears_clearFinding u p .linkLost false).not_stands (h.inOneSet nofun one)
    unfold State.clearLinkLost
    rw [same]
    obtain first | zero := detail
    · rw [first]
      exact gone
    · rw [zero]
      exact gone
  have put := leaves_putEntry s p p ((s.entry p).map fun e => e.good s.now)
  unfold State.heardAt
  dsimp only
  split
  · exact cleared _ (put.calm (leaves_causeLeaves _ p .post))
  · exact cleared _ put

theorem KeepsLink.of_leaves {s t : State} {p : Post} {cs : List FindingClass} (h : Leaves p cs (s.trailer p) s t)
    {rep : StatusReport} (keeps : KeepsLink (s.trailer p) rep) : KeepsLink (t.trailer p) rep := by
  have state := h.field TrailerRecord.state fun _ => rfl
  have serial := h.field TrailerRecord.serial fun _ => rfl
  have absent := h.field TrailerRecord.unitAbsent fun _ => rfl
  obtain ⟨present, unheld, reports⟩ := keeps
  exact ⟨by rw [state]; exact present, by rw [state]; exact unheld, by rw [state, serial, absent]; exact reports⟩

/-- What an evaluation reads beside the records stands, as a kit. -/
def TableKit.reads : TableKit where
  rel t s := SameReads s t
  refl := .refl
  after x y := y.trans x
  put _ _ _ _ := ⟨rfl, rfl, rfl, rfl⟩
  output _ _ _ := ⟨rfl, rfl, rfl, rfl⟩
  inForce _ _ _ := ⟨rfl, rfl, rfl, rfl⟩
  item s p b := .of_framed fun f => f.item s p b
  push _ _ _ _ _ := ⟨rfl, rfl, rfl, rfl⟩
  queue _ _ _ := ⟨rfl, rfl, rfl, rfl⟩
  load _ _ _ := ⟨rfl, rfl, rfl, rfl⟩
  directory _ _ := ⟨rfl, rfl, rfl, rfl⟩
  rebuilds _ _ _ _ := ⟨rfl, rfl, rfl, rfl⟩

theorem reads_statusAtTable (s : State) (p : Post) (rep : StatusReport) (b : Bool) : SameReads s (s.statusAtTable p rep b) :=
  TableKit.reads.statusAtTable s p rep b

theorem running_atTable (s : State) (l : Line) (x : Exchange) (rep : StatusReport) :
    (s.atTable l x rep).running = (s.hearPost l x.post).running := by
  unfold State.running State.atTable
  rw [(reads_statusAtTable _ _ _ _).phase]

/-! ## OUTPUT-MISMATCH (R172, R173) -/

theorem quiet_settlePlugged (s : State) (p : Post) (rep : StatusReport) : Quiet s (s.settlePlugged p rep) := by
  refine .of_same (heldCauses_settlePlugged s p rep).2.1 ?_
  unfold State.settlePlugged
  split <;> rfl

theorem TrailerRecord.MismatchFrom.inOneSet {t u : TrailerRecord} (h : t.MismatchFrom u) (one : t.InOneSet .outputMismatch) :
    u.InOneSet .outputMismatch := by
  obtain ⟨active, noted⟩ | ⟨active, -⟩ := h
  · exact inOneSet_of_same active noted one
  · exact .inl active

theorem TrailerRecord.MismatchFrom.not_stands {t u : TrailerRecord} (h : t.MismatchFrom u)
    (free : t.stands .outputMismatch = false) : u.stands .outputMismatch = false := by
  obtain ⟨active, noted⟩ | both := h
  · exact (stands_of_same active noted).trans free
  · exact TrailerRecord.not_stands_iff.mpr both

/-- A finding produced moves no output state beside its toggle (R170). -/
theorem untoggled_produce (s : State) (p : Post) (c : FindingClass) (d k : Nat) (q : Post) :
    ((s.produce p c d k).output q).map OutputState.untoggled = (s.output q).map OutputState.untoggled := by
  have same {t : State} (outputs : t.outputs = s.outputs) : (t.output q).map OutputState.untoggled
      = (s.output q).map OutputState.untoggled := by
    unfold State.output
    rw [outputs]
  obtain ⟨-, kept⟩ | ⟨-, -, noted⟩ | ⟨-, -, raised⟩ := produce_cases s p c d k
  · rw [kept]
  · rw [noted]
    refine same ?_
    unfold State.noteFinding
    rw [(arbiterAlone_item _ p _).outputs, State.editTrailer_changes]
  · rw [raised, raiseFinding_eq]
    have pushed : (s.pushed p c d k).outputs = s.outputs := by
      unfold State.pushed
      rw [State.editTrailer_changes]
      rfl
    exact (((quiet_applyAction _ p _ _).trans (quiet_item _ p _)).output q).trans (same pushed)

/-- A finding produced brings no run POST (R154). -/
theorem freeOf_produce {s : State} {q : Post} (h : s.FreeOf .post q) (p : Post) (c : FindingClass) (d k : Nat) :
    (s.produce p c d k).FreeOf .post q := by
  obtain ⟨-, kept⟩ | ⟨-, -, noted⟩ | ⟨-, -, raised⟩ := produce_cases s p c d k
  · rw [kept]
    exact h
  · rw [noted]
    exact h.of_run ((State.item_run _ _ _ _).trans
      (State.field_editTrailer s p (fun t => t.noting c d) TrailerRecord.run (fun _ => rfl) rfl q))
  · rw [raised, raiseFinding_eq]
    exact ((quiet_applyAction _ p _ _).trans (quiet_item _ p _)).free q (h.of_run (pushed_run s p c d k q))

/-- An output state with the levels of a GOOD exchange (R172, R173). -/
def OutputState.taking (o : OutputState) (carried actual : Levels) : OutputState :=
  { o with
    delivered := some carried, actual := some actual
    mismatch := if disagreement carried actual = 0 then 0 else min 255 (o.mismatch + 1) }

theorem outputAtGood_eq {s : State} {p : Post} {o : OutputState} (ho : s.output p = some o) (carried actual : Levels) :
    s.outputAtGood p carried actual = if disagreement carried actual = 0
      then (s.putOutput p (some (o.taking carried actual))).clearFinding p .outputMismatch false
      else if 3 ≤ (o.taking carried actual).mismatch ∧ (s.trailer p).state ≠ .vacant
        then (s.putOutput p (some (o.taking carried actual))).produce p .outputMismatch (disagreement carried actual) 0
        else s.putOutput p (some (o.taking carried actual)) := by
  unfold State.outputAtGood
  rw [ho]
  rfl

theorem freeOf_outputAtGood {s : State} {q : Post} (h : s.FreeOf .post q) (p : Post) (carried actual : Levels) :
    (s.outputAtGood p carried actual).FreeOf .post q := by
  cases ho : s.output p with
  | none =>
    unfold State.outputAtGood
    rw [ho]
    exact h
  | some o =>
    rw [outputAtGood_eq ho]
    have put : (s.putOutput p (some (o.taking carried actual))).FreeOf .post q := h
    generalize s.putOutput p (some (o.taking carried actual)) = u at *
    split
    · exact freeOf_clearFinding u p put .outputMismatch false
    · split
      · exact freeOf_produce put p .outputMismatch _ 0
      · exact put

/-- What the levels of a GOOD exchange make of an output state, and of OUTPUT-MISMATCH. -/
structure TakesLevels (p : Post) (carried actual : Levels) (o : OutputState) (s t : State) : Prop where
  output : (t.output p).map OutputState.untoggled = some (o.taking carried actual).untoggled
  agrees : disagreement carried actual = 0 → (s.trailer p).InOneSet .outputMismatch →
    (t.trailer p).stands .outputMismatch = false
  third : disagreement carried actual ≠ 0 → 3 ≤ (o.taking carried actual).mismatch → s.running = true →
    (s.trailer p).state ≠ .vacant →
    (t.trailer p).stands .outputMismatch = true ∧ ((s.trailer p).stands .outputMismatch = false →
      (t.trailer p).detailOf .outputMismatch = some (disagreement carried actual))

theorem takesLevels_outputAtGood {s : State} {p : Post} {o : OutputState} (ho : s.output p = some o) (carried actual : Levels) :
    TakesLevels p carried actual o s (s.outputAtGood p carried actual) := by
  rw [outputAtGood_eq ho]
  have put := State.output_putOutput_self s p (some (o.taking carried actual))
  have trailer : (s.putOutput p (some (o.taking carried actual))).trailer p = s.trailer p := rfl
  have running : (s.putOutput p (some (o.taking carried actual))).running = s.running := rfl
  generalize s.putOutput p (some (o.taking carried actual)) = u at *
  rw [← trailer]
  split
  · rename_i agree
    have gone := (clears_clearFinding u p .outputMismatch false).not_stands
    refine ⟨?_, fun _ one => gone (trailer ▸ one), fun no => absurd agree no⟩
    unfold State.output at put ⊢
    rw [outputs_clearFinding, put]
    rfl
  · rename_i differ
    split
    · refine ⟨by rw [untoggled_produce, put]; rfl, fun zero => absurd zero differ, fun _ _ on _ => ⟨?_, fun free => ?_⟩⟩
      · exact (stands_produce u p .outputMismatch _ 0).2 (running.trans on)
      · exact detailOf_produce (running.trans on) (trailer ▸ free) _ 0
    · rename_i fewer
      exact ⟨by rw [put]; rfl, fun zero => absurd zero differ, fun _ three _ here => absurd ⟨three, trailer ▸ here⟩ fewer⟩

/-- Settles O34: the post and its line hear the status, the table and Output Control take it, and the round goes on. -/
theorem goodStatusIsHeard : Obligations.GoodStatusIsHeard := by
  intro l bytes s r rep e
  dsimp only
  intro h he
  obtain ⟨heard, takes, round⟩ := settled_goodResult h
  have settles := settles_exchangeGood h
  have entry := entry_goodResult he l rep
  have quiet : Quiet s (s.atTable l r.exchange rep) := (quiet_hearPost s l r.exchange.post).trans (quiet_statusAtTable _ _ _ _)
  have off := (finishes_exchangeGood h).offRun r.exchange.post
  have gone := settles.offRun r.exchange.post
  have plugged := leaves_settlePlugged (s.atTable l r.exchange rep) r.exchange.post r.exchange.post rep
  have output := leaves_outputAtGood ((s.atTable l r.exchange rep).settlePlugged r.exchange.post rep) r.exchange.post
    r.exchange.levels rep.actual
  rw [← goodResult_eq] at output
  have state : ((s.goodResult l r.exchange rep).trailer r.exchange.post).state
      = ((s.atTable l r.exchange rep).trailer r.exchange.post).state :=
    (output.field TrailerRecord.state fun _ => rfl).trans (plugged.field TrailerRecord.state fun _ => rfl)
  refine ⟨_, _, h.exec, (settles.entry _).trans entry, ?indicates, ?indicated, fun q hq => (settles.entry q).trans (heard.others q hq),
    ?free, ?unlinked, ?levels, ?misses, ?polls, world_exchangeGood h⟩
  case indicates =>
    intro both
    obtain ⟨none, vacant⟩ := Bool.and_eq_true_iff.mp both
    have vacant := of_decide_eq_true vacant
    refine ⟨of_decide_eq_true none, ?_⟩
    rw [← state] at vacant
    exact (TrailerRecord.field_of_offRun (off (.inl (by rw [vacant]; nofun))) TrailerRecord.state fun _ => rfl).trans vacant
  case indicated =>
    intro stays none vacant
    have kept : ((s.exchangeGood l r rep).trailer r.exchange.post).state = ((s.goodResult l r.exchange rep).trailer r.exchange.post).state := by
      refine TrailerRecord.field_of_offRun (off ?_) TrailerRecord.state fun _ => rfl
      obtain more | away := stays
      · exact .inr more
      · refine .inl ?_
        rw [state]
        have before := (leaves_hearPost s l r.exchange.post).field TrailerRecord.state fun _ => rfl
        obtain same | none := state_statusAtTable_of_noUnit (s := s.hearPost l r.exchange.post) none
          (s.trailer r.exchange.post).atArrival.runHeating
        · exact fun restored => away (before.symm.trans (same.symm.trans restored))
        · exact fun restored => nomatch none.symm.trans restored
    rw [kept, state] at vacant
    rw [decide_eq_true none, decide_eq_true vacant]
    rfl
  case free =>
    intro lost
    refine settles.free r.exchange.post ?_
    have free : (s.entry r.exchange.post).map (·.state) = some .lost := by
      rw [he]
      exact congrArg some lost
    have heardFree : (s.hearPost l r.exchange.post).FreeOf .post r.exchange.post := by
      rw [hearPost_eq]
      exact (freeOf_heardAt free).of_run (run_of_trailer (trailer_putLine _ _ _ _))
    have tableFree := (quiet_statusAtTable _ r.exchange.post rep (s.trailer r.exchange.post).atArrival.runHeating).free _ heardFree
    rw [goodResult_eq]
    exact freeOf_outputAtGood ((quiet_settlePlugged _ _ rep).free _ tableFree) _ _ _
  case unlinked =>
    intro verifies present unheld one detail reports
    have free := unlinked_hearPost one detail l
    have heardLeaves := leaves_hearPost s l r.exchange.post
    have tableFree := unlinked_statusAtTable free (LineKit.verifies.hearPost s l _ _ verifies)
      (KeepsLink.of_leaves heardLeaves ⟨present, unheld, reports⟩) (s.trailer r.exchange.post).atArrival.runHeating
    have resultFree : ((s.goodResult l r.exchange rep).trailer r.exchange.post).stands .linkLost = false :=
      (output.stands (by decide)).trans ((plugged.stands nofun).trans tableFree)
    obtain same | vacant := gone
    · exact (TrailerRecord.field_of_offRun same (fun t => t.stands .linkLost) fun _ => rfl).trans resultFree
    · exact TrailerRecord.field_of_offRun vacant (fun t => t.stands .linkLost) fun _ => rfl
  case levels =>
    intro o ho
    have settled := quiet.trans (quiet_settlePlugged (s.atTable l r.exchange rep) r.exchange.post rep)
    have world : (s.goodResult l r.exchange rep).running = s.running :=
      output.running.trans (plugged.running.trans ((running_atTable s l r.exchange rep).trans
        (leaves_hearPost s l r.exchange.post).running))
    rw [goodResult_eq] at *
    generalize (s.atTable l r.exchange rep).settlePlugged r.exchange.post rep = w at *
    obtain ⟨o₁, ho₁, same⟩ : ∃ o₁, w.output r.exchange.post = some o₁ ∧ o₁.untoggled = o.untoggled := by
      have kept := settled.output r.exchange.post
      rw [ho] at kept
      exact Option.map_eq_some_iff.mp kept
    have levels := takesLevels_outputAtGood ho₁ r.exchange.levels rep.actual
    generalize w.outputAtGood r.exchange.post r.exchange.levels rep.actual = v at *
    obtain ⟨o', ho', is⟩ := Option.map_eq_some_iff.mp ((settles.output r.exchange.post).trans levels.output)
    have mismatch : o₁.mismatch = o.mismatch :=
      (congrArg OutputState.mismatch same : o₁.untoggled.mismatch = o.untoggled.mismatch)
    have counts : (o₁.taking r.exchange.levels rep.actual).mismatch = o'.mismatch :=
      (congrArg (fun x : OutputState => x.mismatch) is).symm
    have counted : o'.mismatch = if disagreement r.exchange.levels rep.actual = 0 then 0 else min 255 (o.mismatch + 1) := by
      rw [← mismatch]
      exact counts.symm
    have stays (present : ((s.exchangeGood l r rep).trailer r.exchange.post).state ≠ .vacant) :
        ((s.exchangeGood l r rep).trailer r.exchange.post).offRun = (v.trailer r.exchange.post).offRun :=
      gone.resolve_right fun vacant => present (TrailerRecord.field_of_offRun vacant TrailerRecord.state fun _ => rfl)
    refine ⟨o', ho', congrArg (fun x : OutputState => x.delivered) is, congrArg (fun x : OutputState => x.actual) is, counted, fun agree one => ?_,
      fun differ third running present => ?_⟩
    · have once : (w.trailer r.exchange.post).InOneSet .outputMismatch := by
        obtain ⟨q, from'⟩ := settled.record r.exchange.post
        exact from'.inOneSet (one q)
      have cleared := levels.agrees agree once
      obtain same | vacant := gone
      · exact (TrailerRecord.field_of_offRun same (fun t => t.stands .outputMismatch) fun _ => rfl).trans cleared
      · exact TrailerRecord.field_of_offRun vacant (fun t => t.stands .outputMismatch) fun _ => rfl
    · have same := stays present
      have here : (w.trailer r.exchange.post).state ≠ .vacant := fun vacant => present
        ((TrailerRecord.field_of_offRun same TrailerRecord.state fun _ => rfl).trans
          ((output.field TrailerRecord.state fun _ => rfl).trans vacant))
      have on : w.running = true := output.running.symm.trans (world.trans (running_of_phase running))
      obtain ⟨stands, told⟩ := levels.third differ (counts.symm ▸ third) on here
      refine ⟨(TrailerRecord.field_of_offRun same (fun t => t.stands .outputMismatch) fun _ => rfl).trans stands, fun free => ?_⟩
      obtain ⟨q, from'⟩ := settled.record r.exchange.post
      exact (TrailerRecord.field_of_offRun same (fun t => t.detailOf .outputMismatch) fun _ => rfl).trans
        (told (from'.not_stands (free q)))
  case misses =>
    have quelled : ((s.goodResult l r.exchange rep).settleCauses.line l).misses = 0 := by
      rw [takes.line, heard.line, good_changes]
    obtain some' | none := round
    · exact (goesOn_nextAddress some').misses.trans quelled
    · rw [exchangeGood_eq, nextAddress_of_none none]
      exact quelled
  case polls =>
    intro q rest more verify
    have verified := heard.verified verify
    have settled : (s.goodResult l r.exchange rep).settleCauses = s.goodResult l r.exchange rep :=
      settleCauses_of_none (verified.causes.trans h.noCause)
    have goesOn : ((s.goodResult l r.exchange rep).line l).round = some { r with hadGood := true } := by
      rw [heard.line, good_changes]
      dsimp only
      rw [h.round]
      rfl
    rw [exchangeGood_eq, settled]
    exact pollsNext_nextAddress goesOn more

end Sys2Proof.Machine


/-! # What is asked for an ENROLLED trailer with no run, until the exchange ends (R76 to R84) -/

namespace Sys2Proof.Machine

/-! ## The request asked for -/

/-- The queue, the class, the filing time and the load of a request. -/
structure Ask where
  queue : Queue
  cls : RequestClass
  filed : Time
  load : Nat

def Ask.request (k : Ask) (p : Post) (n : Nat) : Request :=
  { post := p, cls := k.cls, filed := k.filed, load := k.load, passes := n }

/-- A trailer with no request and no run, or with the request that is asked for, or with the run that its grant made. -/
structure State.Holds (s : State) (p : Post) (a : Option Ask) (time : Time) (frost : Nat) : Prop where
  law : s.GrantLaw
  enrolled : (s.trailer p).state = .enrolled
  now : s.now = time
  f : (s.trailer p).f = frost
  silent : a = none → s.Unfiled p ∧ s.run p = none
  asked : ∀ k, a = some k → (∃ n, k.request p n ∈ s.queue k.queue) ∨
    ∃ x, s.run p = some x ∧ x.terms = (k.cls, k.queue, k.load, time, frost)

/-- What a step at other posts, or of findings, leaves of a post's record beside its run, of its run's terms and of its requests. -/
structure Aside (p : Post) (s t : State) : Prop where
  rest : (t.trailer p).rest = (s.trailer p).rest
  terms : (t.run p).map RunRecord.terms = (s.run p).map RunRecord.terms
  queues : ∀ q, ∀ x : Request, x.post = p → (x ∈ t.queue q ↔ x ∈ s.queue q)
  now : t.now = s.now

namespace Aside

variable {p : Post} {s t u : State}

theorem of_same (trailer : t.trailer p = s.trailer p) (queues : t.queues = s.queues) (now : t.now = s.now) : Aside p s t := by
  refine ⟨by rw [trailer], by rw [run_of_trailer trailer], fun q x _ => ?_, now⟩
  unfold State.queue
  rw [queues]

theorem refl (p : Post) (s : State) : Aside p s s := .of_same rfl rfl rfl

theorem trans (h : Aside p s t) (k : Aside p t u) : Aside p s u :=
  ⟨k.rest.trans h.rest, k.terms.trans h.terms, fun q x hx => (k.queues q x hx).trans (h.queues q x hx), k.now.trans h.now⟩

end Aside

section
variable {s t : State} {p : Post} {a : Option Ask} {time : Time} {frost : Nat} (h : s.Holds p a time frost)
include h

theorem State.Holds.aside (law : t.GrantLaw) (aside : Aside p s t) : t.Holds p a time frost where
  law := law
  enrolled := (TrailerRecord.field_of_rest aside.rest TrailerRecord.state fun _ => rfl).trans h.enrolled
  now := aside.now.trans h.now
  f := (TrailerRecord.field_of_rest aside.rest (fun t => t.f) fun _ => rfl).trans h.f
  silent none := by
    obtain ⟨free, idle⟩ := h.silent none
    refine ⟨fun q x hx post => free q x ((aside.queues q x post).mp hx) post, ?_⟩
    have terms := aside.terms
    rw [idle] at terms
    exact Option.map_eq_none_iff.mp terms
  asked k hk := by
    obtain ⟨n, mem⟩ | ⟨x, run, terms⟩ := h.asked k hk
    · exact .inl ⟨n, (aside.queues k.queue (k.request p n) rfl).mpr mem⟩
    · have same := aside.terms
      rw [run] at same
      obtain ⟨y, run', terms'⟩ := Option.map_eq_some_iff.mp same
      exact .inr ⟨y, run', terms'.trans terms⟩

/-- A walk leaves the request in its queue, or grants it (R84). -/
theorem State.Holds.walk (q : Queue) : (s.walk q).Holds p a time frost := by
  cases running : s.running with
  | false =>
    rw [State.walk_of_not_running running]
    exact h
  | true =>
    have walks := walks_walk running (h.law.onePerQueue q)
    have offRun := offRun_walk s q p
    refine ⟨h.law.walk q, (TrailerRecord.field_of_offRun offRun TrailerRecord.state fun _ => rfl).trans h.enrolled,
      walks.alone.now.trans h.now, (TrailerRecord.field_of_offRun offRun (fun t => t.f) fun _ => rfl).trans h.f,
      fun none => ?_, fun k hk => ?_⟩
    · obtain ⟨free, idle⟩ := h.silent none
      exact ⟨unfiled_walk free q, (run_of_trailer (trailer_walk_of_unfiled free q)).trans idle⟩
    · obtain ⟨n, mem⟩ | ⟨x, run, terms⟩ := h.asked k hk
      · by_cases here : k.queue = q
        · subst here
          have divides := s.walked_divides k.queue
          have all : (k.request p n).key ∈ ((s.walked k.queue).1 ++ (s.walked k.queue).2).map Request.key :=
            divides.all.mem_iff.mpr (List.mem_map_of_mem (by simpa using mem))
          obtain ⟨y, hy, same⟩ := List.mem_map.mp all
          obtain granted | stays := List.mem_append.mp hy
          · have is : y = k.request p n :=
              eq_of_post (h.law.onePerQueue k.queue) (divides.granted.subset granted) mem (congrArg Prod.fst same)
            obtain ⟨z, run, terms⟩ := walks.runs (k.request p n) (is ▸ granted)
            refine .inr ⟨z, run, ?_⟩
            rw [← h.now, ← h.f]
            exact terms
          · refine .inl ⟨y.passes, ?_⟩
            have is : y = k.request p y.passes := eq_of_key (x := k.request p n) same
            rw [walks.queue, ← is]
            exact stays
        · refine .inl ⟨n, ?_⟩
          rw [walks.queues k.queue here]
          exact mem
      · exact .inr ⟨x, run_walk_of_run h.law run q, terms⟩

end

/-! ## Findings that do not inhibit -/

theorem RunRecord.leave_terms (r : RunRecord) (now : Time) (c : SuspCause) : (r.leave now c).terms = r.terms := by
  have resumed (prior : PriorState) : (r.resume now prior).terms = r.terms := by
    unfold RunRecord.resume RunRecord.closed
    cases prior <;> rfl
  unfold RunRecord.leave
  split
  · split
    · split
      · exact resumed _
      · rfl
    · rfl
  all_goals rfl

section
variable (s : State) (p : Post)

theorem aside_edit (f : TrailerRecord → TrailerRecord) (rest : (f (s.trailer p)).rest = (s.trailer p).rest)
    (terms : ((f (s.trailer p)).run).map RunRecord.terms = ((s.trailer p).run).map RunRecord.terms) :
    Aside p s (s.editTrailer p f) := by
  refine ⟨?_, ?_, fun q x _ => ?_, (SameReads.of_framed fun k => k.editTrailer s p f).now⟩
  · exact (State.field_editTrailer_self s p f TrailerRecord.rest fun _ => rfl).trans rest
  · have run : (s.editTrailer p f).run p = (f (s.trailer p)).run := State.field_editTrailer_self s p f TrailerRecord.run fun _ => rfl
    rw [run]
    exact terms
  · unfold State.queue
    rw [State.editTrailer_queues]

theorem aside_item (q : Post) (b : ItemBody) : Aside p s (s.item q b) :=
  .of_same (State.item_trailer s q p b) (s.item_queues q b) (SameReads.of_framed fun f => f.item s q b).now

theorem aside_causeJoins (q : Post) (c : SuspCause) (n : Nat) : Aside p s (s.causeJoins q c n) := by
  unfold State.causeJoins
  cases run : s.run q with
  | none => exact .refl p s
  | some r =>
    dsimp only
    by_cases here : p = q
    · subst here
      refine aside_edit s p (fun t => { t with run := some (r.join s.now c n) }) rfl ?_
      have is : (s.trailer p).run = some r := run
      rw [is]
      exact congrArg some (r.join_terms s.now c n)
    · exact .of_same (State.trailer_editTrailer_other s q p _ here) (State.editTrailer_queues s q _)
        (SameReads.of_framed fun k => k.editTrailer s q _).now

theorem aside_causeLeaves (q : Post) (c : SuspCause) : Aside p s (s.causeLeaves q c) := by
  unfold State.causeLeaves
  cases run : s.run q with
  | none => exact .refl p s
  | some r =>
    dsimp only
    by_cases here : p = q
    · subst here
      refine aside_edit s p (fun t => { t with run := some (r.leave s.now c) }) rfl ?_
      have is : (s.trailer p).run = some r := run
      rw [is]
      exact congrArg some (r.leave_terms s.now c)
    · exact .of_same (State.trailer_editTrailer_other s q p _ here) (State.editTrailer_queues s q _)
        (SameReads.of_framed fun k => k.editTrailer s q _).now

theorem aside_activate (a : Action) (k : Nat) : Aside p s (s.activate p a k) :=
  .of_same (State.activate_trailer s p p a k) (by rw [State.activate_changes]) (SameReads.of_framed fun f => f.activate s p a k).now

theorem aside_applyAction {a : Action} (quiet : a ≠ .inhibitDefrost) (k : Nat) : Aside p s (s.applyAction p a k) := by
  have active := aside_activate s p a k
  unfold State.applyAction
  split
  · exact .refl p s
  · dsimp only
    split
    · exact active
    · exact active
    · exact absurd rfl quiet
    · exact active.trans (aside_causeJoins _ p p .cut k)

theorem aside_withdrawAction (a : Action) : Aside p s (s.withdrawAction p a) := by
  have ended (v : ActionsInForce) : Aside p s (s.putInForce p v) := .of_same rfl rfl rfl
  unfold State.withdrawAction
  split
  · dsimp only
    split
    · exact ended _
    · exact ended _
    · exact ended _
    · exact (ended _).trans (aside_causeLeaves _ p p .cut)
  · exact .refl p s

/-- A finding of a class that does not inhibit (R150, R154, R155). -/
theorem aside_produce {c : FindingClass} (quiet : (s.tableEntry c).action ≠ .inhibitDefrost) (d k : Nat) :
    Aside p s (s.produce p c d k) := by
  obtain ⟨-, same⟩ | ⟨-, -, same⟩ | ⟨-, -, same⟩ := produce_cases s p c d k <;> rw [same]
  · exact .refl p s
  · exact (aside_edit s p (fun t => t.noting c d) rfl rfl).trans (aside_item _ p p _)
  · rw [raiseFinding_eq]
    have framed : Aside p s (s.pushFrame p c d k) := .of_same rfl rfl rfl
    have pushed : Aside p s (s.pushed p c d k) := framed.trans (aside_edit _ p _ rfl rfl)
    exact (pushed.trans (aside_applyAction _ p quiet _)).trans (aside_item _ p p _)

theorem aside_clearFinding (c : FindingClass) (b : Bool) : Aside p s (s.clearFinding p c b) := by
  have left (f : TrailerRecord → TrailerRecord) (rest : (f (s.trailer p)).rest = (s.trailer p).rest)
      (run : (f (s.trailer p)).run = (s.trailer p).run) (x : ItemBody) : Aside p s ((s.editTrailer p f).item p x) :=
    (aside_edit s p f rest (by rw [run])).trans (aside_item _ p p x)
  have active := left (fun t => { t with active := t.active.filter fun a => decide (a.cls ≠ c) }) rfl rfl (.findingCleared c b)
  have noted := left (fun t => { t with noted := t.noted.filter fun a => decide (a.cls ≠ c) }) rfl rfl (.findingCleared c b)
  unfold State.clearFinding
  split
  · generalize ((s.editTrailer p fun t => { t with active := t.active.filter fun a => decide (a.cls ≠ c) }).item p
      (.findingCleared c b)) = u at *
    unfold State.settleWithdrawal
    split
    · exact active.trans (aside_withdrawAction u p _)
    · exact active
  · exact noted
  · exact .refl p s

end

/-- The owners at other posts, as a kit of findings. -/
def FindingKit.aside (q : Post) : FindingKit (· ≠ q) where
  rel t s := Aside q s t
  refl s := .refl q s
  after x y := y.trans x
  edit s p f hp _ := .of_same (State.trailer_editTrailer_other s p q f hp.symm) (State.editTrailer_queues s p f)
    (SameReads.of_framed fun k => k.editTrailer s p f).now
  output _ _ _ _ := .of_same rfl rfl rfl
  inForce _ _ _ _ := .of_same rfl rfl rfl
  item s p b _ := aside_item s q p b
  push _ _ _ _ _ _ := .of_same rfl rfl rfl
  unfile s p hp := by
    refine ⟨by rw [removeRequest_trailer], by rw [removeRequest_run], fun q' x hx => ?_,
      (SameReads.of_framed fun f => f.removeRequest s p).now⟩
    unfold State.removeRequest
    split
    · rfl
    · rename_i q₀ r _
      by_cases here : q' = q₀
      · subst here
        rw [State.queue_putQueue_self, List.mem_filter]
        exact and_iff_left (decide_eq_true (by rw [hx]; exact hp.symm))
      · rw [State.queue_putQueue_other _ _ _ _ here]

/-! ## The line and the round's end -/

section
variable {s : State} {p : Post} {a : Option Ask} {time : Time} {frost : Nat} (h : s.Holds p a time frost)
include h

theorem State.Holds.causeJoins (q : Post) (c : SuspCause) (n : Nat) : (s.causeJoins q c n).Holds p a time frost :=
  h.aside (FindingKit.grantLaw.causeJoins s (p := q) trivial c n h.law) (aside_causeJoins s p q c n)

theorem State.Holds.causeLeaves (q : Post) (c : SuspCause) : (s.causeLeaves q c).Holds p a time frost :=
  h.aside (FindingKit.grantLaw.causeLeaves s (p := q) trivial c h.law) (aside_causeLeaves s p q c)

theorem State.Holds.of_same {t : State} (records : t.records = s.records) (queues : t.queues = s.queues)
    (committed : t.committed = s.committed) (now : t.now = s.now) : t.Holds p a time frost :=
  h.aside (h.law.of_keeps (.of_same records queues committed)) (.of_same (by
    unfold State.trailer
    rw [records]) queues now)

/-- The run of another trailer that ends (R107). -/
theorem State.Holds.endRun {q : Post} (apart : q ≠ p) (o : RunOutcome) (b : Bool) : (s.endRun q o b).Holds p a time frost := by
  cases run : s.run q with
  | none =>
    rw [State.endRun_of_none run]
    exact h
  | some r =>
    have releases := releaseRun_releases s q r o b
    have released := h.aside (h.law.release releases run).1
      (.of_same (releases.others p apart.symm) releases.queues (arbiterAlone_releaseRun s q r o b).now)
    rw [State.endRun_of_run run]
    exact released.walk r.queue

/-- The departure of another trailer (R30). -/
theorem State.Holds.depart {q : Post} (apart : q ≠ p) : (s.depart q).Holds p a time frost := by
  have law := h.law.depart q
  have ended := h.endRun apart (.aborted .departure) false
  have cut : Aside p (s.endRun q (.aborted .departure) false) (s.cutShort q .departure) := (FindingKit.aside p).unfile _ q apart
  refine ended.aside law ?_
  unfold State.depart
  dsimp only
  generalize s.cutShort q .departure = c at *
  have emptied : Aside p c (c.emptySets q) := (FindingKit.aside p).emptySets c apart
  generalize c.emptySets q = e at *
  have item := aside_item e p q (.departed (e.trailer q).serial)
  generalize e.item q (.departed (e.trailer q).serial) = i at *
  exact ((cut.trans emptied).trans item).trans (.of_same (State.trailer_putTrailer_other _ q p .vacant apart.symm) rfl rfl)

theorem State.Holds.discardRestored (l : Line) : (s.discardRestored l).Holds p a time frost :=
  forEach_keeps (fun u => u.Holds p a time frost) (f := fun s' q => if (s'.trailer q).state = .restored then s'.depart q else s')
    (fun u q hu => by
      split
      · rename_i restored
        refine hu.depart ?_
        rintro rfl
        rw [hu.enrolled] at restored
        cases restored
      · exact hu) (postsOn l) s h

end

/-- What is asked for a trailer, through a change of a line, as a kit. -/
def ChangeKit.holds (p : Post) (a : Option Ask) (time : Time) (frost : Nat) : ChangeKit where
  rel t s := s.Holds p a time frost → t.Holds p a time frost
  refl _ := id
  after x y := x ∘ y
  putLine s l c h := h.of_same (by rw [State.putLine_changes]) (by rw [State.putLine_changes]) (by rw [State.putLine_changes])
    (by rw [State.putLine_changes]; rfl)
  joins s q h := h.causeJoins q .line 0
  leaves s q h := h.causeLeaves q .line
  walk s q h := h.walk q

section
variable {s : State} {p : Post} {a : Option Ask} {time : Time} {frost : Nat} (h : s.Holds p a time frost)
include h

theorem State.Holds.nextAddress {l : Line} {r : Round} (round : (s.line l).round = some r ∨ (s.line l).round = none) :
    (s.nextAddress l).Holds p a time frost := by
  obtain round | none := round
  · cases more : r.remaining with
    | nil =>
      have judged : (s.roundJudged l r).Holds p a time frost := (ChangeKit.holds p a time frost).changeLine s l _ h
      rw [nextAddress_of_last round more]
      exact endRound_of (P := fun u => u.Holds p a time frost) s l r judged (judged.discardRestored l)
    | cons q rest =>
      rw [nextAddress_of_more round more]
      have polls := polls_beginExchange s l q false { r with remaining := rest }
      generalize s.beginExchange l q false { r with remaining := rest } = u at *
      exact h.of_same (by rw [polls.changes]) (by rw [polls.changes]) (by rw [polls.changes]) (by rw [polls.changes]; rfl)
  · rw [nextAddress_of_none none]
    exact h

theorem State.Holds.outputAtGood (quiet : (s.tableEntry .outputMismatch).action ≠ .inhibitDefrost) (carried actual : Levels) :
    (s.outputAtGood p carried actual).Holds p a time frost := by
  cases ho : s.output p with
  | none =>
    unfold State.outputAtGood
    rw [ho]
    exact h
  | some o =>
    rw [outputAtGood_eq ho]
    have put : (s.putOutput p (some (o.taking carried actual))).Holds p a time frost := h.of_same rfl rfl rfl rfl
    have table : ((s.putOutput p (some (o.taking carried actual))).tableEntry .outputMismatch).action ≠ .inhibitDefrost := quiet
    generalize s.putOutput p (some (o.taking carried actual)) = u at *
    split
    · exact put.aside (put.law.of_keeps (keepsGrants_clearFinding u p _ _)) (aside_clearFinding u p _ _)
    · split
      · exact put.aside (put.law.of_keeps (keepsGrants_produce u p _ _ _)) (aside_produce u p table _ _)
      · exact put

theorem State.Holds.settlePlugged (q : Post) (rep : StatusReport) : (s.settlePlugged q rep).Holds p a time frost := by
  unfold State.settlePlugged
  split
  · exact h
  · exact h.of_same rfl rfl rfl rfl

end

/-- What stands as the result is there stands as the exchange has ended. -/
theorem State.Holds.exchangeGood {s : State} {l : Line} {bytes : List Byte} {r : Round} {rep : StatusReport}
    (heard : s.Hears l bytes r rep) {p : Post} {a : Option Ask} {time : Time} {frost : Nat}
    (h : (s.goodResult l r.exchange rep).Holds p a time frost) : (s.exchangeGood l r rep).Holds p a time frost := by
  obtain ⟨-, takes, round⟩ := settled_goodResult heard
  rw [exchangeGood_eq]
  generalize s.goodResult l r.exchange rep = v at *
  have changes := takes.changes
  have settled : v.settleCauses.Holds p a time frost :=
    h.of_same (by rw [changes]) (by rw [changes]) (by rw [changes]) (by rw [changes]; rfl)
  exact settled.nextAddress round

end Sys2Proof.Machine


/-! # A GOOD status files a request (O39) -/

namespace Sys2Proof.Machine

/-! ## The request that a queue holds -/

section
variable {s : State} {p : Post} {k : Ask} {time : Time} {frost : Nat}

theorem State.GrantLaw.requestOf_of_mem (law : s.GrantLaw) {q : Queue} {x : Request} (mem : x ∈ s.queue q) :
    s.requestOf x.post = some (q, x) := by
  cases found : s.requestOf x.post with
  | none => exact absurd rfl (State.requestOf_eq_none_iff.mp found q x mem)
  | some e =>
    obtain ⟨q', y⟩ := e
    obtain ⟨mem', post⟩ := State.requestOf_spec found
    have same : q' = q := by
      by_contra apart
      exact law.oneQueue q' q apart y mem' x mem post
    subst same
    rw [eq_of_post (law.onePerQueue q') mem' mem post]

theorem State.Holds.stands_or_runs (h : s.Holds p (some k) time frost) :
    (∃ n, s.requestOf p = some (k.queue, k.request p n)) ∨
    (s.requestOf p = none ∧ ∃ x, s.run p = some x ∧ x.cls = k.cls ∧ x.queue = k.queue ∧ x.load = k.load ∧
      x.grantTime = time ∧ x.f0 = (s.trailer p).f) := by
  obtain ⟨n, mem⟩ | ⟨x, run, terms⟩ := h.asked k rfl
  · exact .inl ⟨n, h.law.requestOf_of_mem mem⟩
  · simp only [RunRecord.terms, Prod.mk.injEq] at terms
    obtain ⟨cls, queue, load, grant, f0⟩ := terms
    refine .inr ⟨State.requestOf_eq_none_iff.mpr (h.law.unfiled_of_run (by rw [run]; nofun)), x, run, cls, queue, load, grant, ?_⟩
    rw [h.f]
    exact f0

theorem State.Holds.idle (h : s.Holds p none time frost) : s.requestOf p = none ∧ s.run p = none := by
  obtain ⟨free, idle⟩ := h.silent rfl
  exact ⟨State.requestOf_eq_none_iff.mpr free, idle⟩

theorem holds_of_idle (law : s.GrantLaw) (enrolled : (s.trailer p).state = .enrolled) (free : s.Unfiled p)
    (idle : s.run p = none) : s.Holds p none s.now (s.trailer p).f :=
  ⟨law, enrolled, rfl, rfl, fun _ => ⟨free, idle⟩, nofun⟩

theorem holds_of_request (law : s.GrantLaw) {x : Request} {q : Queue} (found : s.requestOf p = some (q, x)) :
    s.Holds p (some { queue := q, cls := x.cls, filed := x.filed, load := x.load }) s.now (s.trailer p).f := by
  obtain ⟨mem, post⟩ := State.requestOf_spec found
  refine ⟨law, post ▸ (law.requestEnrolled q x mem).1, rfl, rfl, nofun, fun k hk => ?_⟩
  cases hk
  subst post
  exact .inl ⟨x.passes, mem⟩

end

/-! ## The filing test (R76) -/

/-- What bars a filing: the inhibit flag, a deferral, or INHIBIT-DEFROST in force (R76). -/
def State.Blocked (s : State) (p : Post) : Prop :=
  (s.trailer p).inhibit = true ∨ (∃ d, (s.trailer p).deferral = some d ∧ s.now < d) ∨ ((s.inForce p).inhibit).isSome

theorem deferralPassed_iff (d : Option Time) (now : Time) : deferralPassed d now = false ↔ ∃ e, d = some e ∧ now < e := by
  cases d with
  | none => simp [deferralPassed]
  | some e => simp [deferralPassed]

section
variable {s : State} {p : Post} (law : s.GrantLaw) (enrolled : (s.trailer p).state = .enrolled) (free : s.Unfiled p)
  (idle : s.run p = none) (pr : Profile) (mode : Mode)
include law enrolled free idle

theorem holds_fileRequest (c : RequestClass) (load : Nat) : (s.fileRequest p c load).Holds p
    (some { queue := s.queueOf p, cls := c, filed := s.now, load := load }) s.now (s.trailer p).f := by
  have joined := law.joinQueue (s.queueOf p) (r := { post := p, cls := c, filed := s.now, load := load, passes := 0 })
    ⟨TrailerRecord.run_eq_none_iff.mp idle, free⟩ enrolled
  have mem : ({ post := p, cls := c, filed := s.now, load := load, passes := 0 } : Request) ∈
      (s.joinQueue (s.queueOf p) { post := p, cls := c, filed := s.now, load := load, passes := 0 }).queue (s.queueOf p) := by
    unfold State.joinQueue
    rw [State.queue_putQueue_self]
    exact mem_insertRequest.mpr (.inl rfl)
  have holds : (s.joinQueue (s.queueOf p) { post := p, cls := c, filed := s.now, load := load, passes := 0 }).Holds p
      (some { queue := s.queueOf p, cls := c, filed := s.now, load := load }) s.now (s.trailer p).f := by
    refine ⟨joined, enrolled, rfl, rfl, nofun, fun k hk => ?_⟩
    obtain rfl := Option.some.inj hk
    exact .inl ⟨0, mem⟩
  exact holds.walk (s.queueOf p)

theorem holds_filingTest_of_blocked (blocked : s.Blocked p) :
    (s.filingTest p pr mode false).Holds p none s.now (s.trailer p).f := by
  have same : s.filingTest p pr mode false = s := by
    unfold State.filingTest
    dsimp only
    refine if_pos ?_
    obtain on | deferred | forbidden := blocked
    · rw [on]
      simp
    · rw [(deferralPassed_iff _ _).mpr deferred]
      simp
    · have acts : s.actionInForce p .inhibitDefrost = true := forbidden
      rw [acts]
      simp
  rw [same]
  exact holds_of_idle law enrolled free idle

omit law enrolled in
theorem filingTest_of_open (clear : ¬ s.Blocked p) {c : RequestClass}
    (due : (s.trailer p).filingClass pr mode s.now = some c) : s.filingTest p pr mode false = s.fileRequest p c pr.load := by
  obtain ⟨on, rest⟩ := not_or.mp clear
  obtain ⟨deferred, forbidden⟩ := not_or.mp rest
  have passed : deferralPassed (s.trailer p).deferral s.now = true := by
    rw [← Bool.not_eq_false, deferralPassed_iff]
    exact deferred
  have still : s.actionInForce p .inhibitDefrost = false := Bool.eq_false_iff.mpr forbidden
  have run : (s.trailer p).run = none := idle
  unfold State.filingTest
  dsimp only
  rw [if_neg (by rw [State.requestOf_eq_none_iff.mpr free, run, Bool.eq_false_iff.mpr on, passed, still]; simp), due]

omit law enrolled free idle in
theorem filingTest_of_undue (undue : (s.trailer p).filingClass pr mode s.now = none) (b : Bool) :
    s.filingTest p pr mode b = s := by
  unfold State.filingTest
  dsimp only
  rw [undue]
  exact ite_self s

theorem holds_filingTest_of_due (clear : ¬ s.Blocked p) {c : RequestClass}
    (due : (s.trailer p).filingClass pr mode s.now = some c) : (s.filingTest p pr mode false).Holds p
      (some { queue := s.queueOf p, cls := c, filed := s.now, load := pr.load }) s.now (s.trailer p).f := by
  rw [filingTest_of_open free idle pr mode clear due]
  exact holds_fileRequest law enrolled free idle c pr.load

theorem holds_filingTest_of_none (undue : (s.trailer p).filingClass pr mode s.now = none) :
    (s.filingTest p pr mode false).Holds p none s.now (s.trailer p).f := by
  rw [filingTest_of_undue pr mode undue]
  exact holds_of_idle law enrolled free idle

end

/-! ## The conditions of the classes (R77 to R79) -/

section
variable (t : TrailerRecord) (pr : Profile) (now : Time)

theorem forcedDue_iff : t.forcedDue pr now = true ↔
    ∃ since, (t.lastDefrostEnd.or t.arrival) = some since ∧ (pr.maxInterval : Int) ≤ now - since := by
  unfold TrailerRecord.forcedDue
  cases t.lastDefrostEnd with
  | some e => simp
  | none =>
    cases t.arrival with
    | some a => simp
    | none => simp

theorem thresholdMet_iff : t.thresholdMet pr now = true ↔
    pr.fth ≤ t.f ∧ ∀ e, t.lastDefrostEnd = some e → (pr.minInterval : Int) ≤ now - e := by
  unfold TrailerRecord.thresholdMet
  cases t.lastDefrostEnd with
  | some e => simp
  | none => simp

end

/-! ## The filing at an evaluation (R76 to R80) -/

section
variable {s : State} {p : Post} {rep : StatusReport} {pr : Profile}

/-- A request that does not stay, or none: what is filed is what the filing test files over no request. -/
theorem filing_of_free (law : s.GrantLaw) (profile : s.profileOf (s.trailer p) = some pr)
    (free : s.requestOf p = none ∨ ∃ q x, s.requestOf p = some (q, x) ∧ x.cls = .unit ∧ rep.mode ≠ .defrost) :
    ∃ k : State, k.GrantLaw ∧ k.Unfiled p ∧ k = { s with queues := k.queues } ∧
      s.filing p rep false = k.filingTest p pr rep.mode false := by
  have kept : (s.removeUnitRequest p rep.mode).GrantLaw ∧ (s.removeUnitRequest p rep.mode).Unfiled p ∧
      s.removeUnitRequest p rep.mode = { s with queues := (s.removeUnitRequest p rep.mode).queues } := by
    unfold State.removeUnitRequest
    obtain none | ⟨q, x, found, unit, other⟩ := free
    · rw [none]
      exact ⟨law, State.requestOf_eq_none_iff.mp none, rfl⟩
    · rw [found]
      dsimp only
      rw [if_pos ⟨unit, other⟩]
      exact ⟨law.of_keeps (keepsGrants_removeRequest s p), law.unfiled_removeRequest p, removeRequest_changes s p⟩
  obtain ⟨lawful, unfiled, changes⟩ := kept
  refine ⟨_, lawful, unfiled, changes, ?_⟩
  unfold State.filing
  dsimp only
  generalize s.removeUnitRequest p rep.mode = k at *
  have held : k.profileOf (k.trailer p) = some pr := by
    rw [changes]
    exact profile
  have upgraded : k.upgradeForced p pr = k := by
    unfold State.upgradeForced
    rw [State.requestOf_eq_none_iff.mpr unfiled]
  rw [held]
  dsimp only
  rw [upgraded]

/-- A request that stays keeps its place's values, and becomes FORCED where that is due (R80). -/
theorem holds_filing_of_request (law : s.GrantLaw) (profile : s.profileOf (s.trailer p) = some pr) {q : Queue} {x : Request}
    (found : s.requestOf p = some (q, x)) (stays : x.cls = .unit → rep.mode = .defrost) :
    (s.filing p rep false).Holds p (some { queue := q
                                           cls := if (s.trailer p).forcedDue pr s.now = true then .forced else x.cls
                                           filed := x.filed, load := x.load }) s.now (s.trailer p).f := by
  have kept : s.removeUnitRequest p rep.mode = s := by
    unfold State.removeUnitRequest
    rw [found]
    exact if_neg fun both => both.2 (stays both.1)
  have tested {u : State} {q' : Queue} {y : Request} (h : u.requestOf p = some (q', y)) :
      u.filingTest p pr rep.mode false = u := by
    unfold State.filingTest
    dsimp only
    rw [h]
    exact if_pos (by simp)
  unfold State.filing
  dsimp only
  rw [kept, profile]
  dsimp only
  unfold State.upgradeForced
  rw [found]
  dsimp only
  by_cases due : (s.trailer p).forcedDue pr s.now = true
  · rw [if_pos due]
    by_cases forced : x.cls = .forced
    · rw [if_neg fun both => both.1 forced, tested found]
      rw [← forced]
      exact holds_of_request law found
    · rw [if_pos ⟨forced, due⟩]
      have upgrades := upgrades_upgradeRequest found .forced
      rw [tested upgrades.request]
      have lawful := law.upgrade p .forced
      have changes := upgrades.changes
      have request := upgrades.request
      generalize s.upgradeRequest p .forced = u at *
      have holds := holds_of_request lawful request
      have same : u.now = s.now ∧ u.trailer p = s.trailer p := by
        rw [changes]
        exact ⟨rfl, rfl⟩
      rw [same.1, same.2] at holds
      exact holds
  · rw [if_neg due, if_neg fun both => due both.2, tested found]
    exact holds_of_request law found

end

/-! ## The state of the filing -/

/-- What the filing reads of a record beside F. -/
def TrailerRecord.filedBy (t : TrailerRecord) : RecordState × Option ProfileId × Bool × Option Time × Option Time × Option Time :=
  (t.state, t.profile, t.inhibit, t.deferral, t.arrival, t.lastDefrostEnd)

theorem Watches.filedBy {p : Post} {rep : StatusReport} {before : AtArrival} {pr : Profile} {s s₁ s₂ s₃ s₄ t : State}
    (h : Watches p rep before pr s s₁ s₂ s₃ s₄ t) : (t.trailer p).filedBy = (s.trailer p).filedBy :=
  calc (t.trailer p).filedBy
    _ = (s₄.trailer p).filedBy := h.ajar.leaves.field TrailerRecord.filedBy fun _ => rfl
    _ = (s₃.trailer p).filedBy := h.reports.leaves.field TrailerRecord.filedBy fun _ => rfl
    _ = (s₂.trailer p).filedBy := h.fuel.field TrailerRecord.filedBy fun _ => rfl
    _ = (s₁.trailer p).filedBy := h.frosts.field TrailerRecord.filedBy fun _ => rfl
    _ = (s.trailer p).filedBy := h.senses.leaves.field TrailerRecord.filedBy fun _ => rfl

/-- What the law of the grants reads stands, but for the state of one record. -/
structure SharesGrants (p : Post) (s t : State) : Prop where
  state : ∀ q, q ≠ p → (t.trailer q).state = (s.trailer q).state
  share : ∀ q, (t.trailer q).share = (s.trailer q).share
  shrinks : Shrinks s t
  committed : t.committed = s.committed

theorem KeepsGrants.shares {s t : State} (h : KeepsGrants s t) (p : Post) : SharesGrants p s t :=
  ⟨fun q _ => h.state q, h.share, h.shrinks, h.committed⟩

theorem SharesGrants.keeps {p : Post} {s t : State} (h : SharesGrants p s t) (state : (t.trailer p).state = (s.trailer p).state) :
    KeepsGrants s t where
  state q := by
    by_cases here : q = p
    · rw [here]
      exact state
    · exact h.state q here
  share := h.share
  shrinks := h.shrinks
  committed := h.committed

/-- What the law of the grants reads, through the owners before Run Control, as a kit. -/
def StageKit.grants (p : Post) : StageKit p where
  rel t s := SharesGrants p s t
  refl s := (KeepsGrants.of_same rfl rfl rfl : KeepsGrants s s).shares p
  after x y := ⟨fun q hq => (x.state q hq).trans (y.state q hq), fun q => (x.share q).trans (y.share q),
    fun q => (x.shrinks q).trans (y.shrinks q), x.committed.trans y.committed⟩
  edit s f same := by
    refine ⟨fun q hq => by rw [State.trailer_editTrailer_other _ _ _ _ hq], ?_, fun q => ?_, State.editTrailer_committed s p f⟩
    · refine State.field_editTrailer s p f TrailerRecord.share (fun _ => rfl) ?_
      unfold TrailerRecord.share
      rw [same.run]
    · unfold State.queue
      rw [State.editTrailer_queues]
  produce s c d k _ := (keepsGrants_produce s p c d k).shares p
  clear s c b _ := (keepsGrants_clearFinding s p c b).shares p
  item s b := (keepsGrants_item s p b).shares p

/-- The state in which a trailer with no run is filed for. -/
structure FilesFrom (p : Post) (pr : Profile) (s w : State) : Prop where
  law : w.GrantLaw
  idle : w.run p = none
  filedBy : (w.trailer p).filedBy = (s.trailer p).filedBy
  profile : w.profileOf (w.trailer p) = some pr
  now : w.now = s.now
  undisturbed : Undisturbed p s w

theorem filesFrom_watchedFrom {s : State} {l : Line} {p : Post} {rep : StatusReport} {pr : Profile} (law : s.GrantLaw)
    (profile : s.profileOf (s.trailer p) = some pr) (idle : s.run p = none) (gentle : s.Gentle p) :
    FilesFrom p pr s (s.watchedFrom l p rep).1 := by
  obtain ⟨-, watched⟩ := undisturbed_watchedFrom gentle (.inl idle) l rep
  have leaves := leaves_hearPost s l p
  have seenLeaves := leaves_seenAt (s.hearPost l p) p rep
  obtain ⟨s₁, s₂, s₃, s₄, watches, -⟩ := watches_watched (profile_evaluatedFrom (l := l) (rep := rep) profile) rep
    ((s.hearPost l p).trailer p).atArrival
  have heardLaw : (s.hearPost l p).GrantLaw := StepKit.grants.lines.hearPost s l p law
  unfold State.watchedFrom State.evaluatedFrom at *
  generalize s.hearPost l p = a at *
  have seenShares : SharesGrants p a (a.seenAt p rep) := (StageKit.grants p).seenAt a rep
  generalize a.seenAt p rep = b at *
  have watchedShares : SharesGrants p b (b.watched p rep (a.trailer p).atArrival).1 := (StageKit.grants p).watched b rep _
  generalize (b.watched p rep (a.trailer p).atArrival).1 = w at *
  have heardAs : (a.trailer p).filedBy = (s.trailer p).filedBy := leaves.field TrailerRecord.filedBy fun _ => rfl
  have seenAs : (b.trailer p).filedBy = (a.trailer p).filedBy := seenLeaves.field TrailerRecord.filedBy fun _ => rfl
  have filedBy := watches.filedBy.trans (seenAs.trans heardAs)
  have seenLaw := heardLaw.of_keeps (seenShares.keeps (congrArg Prod.fst seenAs))
  have lawful := seenLaw.of_keeps (watchedShares.keeps (congrArg Prod.fst watches.filedBy))
  refine ⟨lawful, watched.run.trans idle, filedBy, ?_, (leaves.reads.trans (seenLeaves.reads.trans watches.reads)).now, watched⟩
  have bound : (w.trailer p).profile = (s.trailer p).profile := congrArg (fun x => x.2.1) filedBy
  unfold State.profileOf at profile ⊢
  rw [bound, watched.config]
  exact profile

/-- What is filed stands, or runs, as the exchange has ended. -/
theorem holds_exchangeGood {s : State} {l : Line} {bytes : List Byte} {r : Round} {rep : StatusReport} {pr : Profile}
    (h : s.Evaluates l bytes r rep pr) {p : Post} (hp : r.exchange.post = p) (files : FilesFrom p pr s (s.watchedFrom l p rep).1)
    (quiet : (s.tableEntry .outputMismatch).action ≠ .inhibitDefrost) {a : Option Ask} {time : Time} {frost : Nat}
    (filed : ((s.watchedFrom l p rep).1.filing p rep false).Holds p a time frost) :
    (s.exchangeGood l r rep).Holds p a time frost := by
  have ran : s.ranFrom l p rep = ((s.watchedFrom l p rep).1, false) := runEvaluation_of_idle files.idle _ _ _
  have result := goodResult_of_evaluates h
  refine State.Holds.exchangeGood h.toHears ?_
  rw [result, hp, ran]
  dsimp only
  have config : ((s.watchedFrom l p rep).1.filing p rep false).config = s.config :=
    (leaves_filing _ p rep false).config.trans files.undisturbed.config
  have closed : ((s.watchedFrom l p rep).1.closes p rep false).Holds p a time frost ∧
      ((s.watchedFrom l p rep).1.closes p rep false).config = s.config := by
    unfold State.closes
    generalize (s.watchedFrom l p rep).1.filing p rep false = w at *
    split
    · refine ⟨?_, (leaves_walkForHours w p).config.trans config⟩
      unfold State.walkForHours
      split
      · exact filed.walk _
      · exact filed
    · exact ⟨filed, config⟩
  obtain ⟨holds, same⟩ := closed
  generalize (s.watchedFrom l p rep).1.closes p rep false = w at *
  refine (holds.settlePlugged p rep).outputAtGood ?_ _ _
  have plugged := (leaves_settlePlugged w p p rep).config.trans same
  unfold State.tableEntry at quiet ⊢
  rw [plugged]
  exact quiet

/-- Settles O39: the filing's outcome, as it stands through the walks and the findings that follow it. -/
theorem statusFilesARequest : Obligations.StatusFilesARequest := by
  intro l bytes s r rep pr
  dsimp only
  intro h run law table
  generalize hp : r.exchange.post = p at *
  have profile : s.profileOf (s.trailer p) = some pr := hp ▸ h.profile
  have enrolled : (s.trailer p).state = .enrolled := hp ▸ h.enrolled
  have idle : s.run p = none := run
  have files := filesFrom_watchedFrom (l := l) (rep := rep) law profile idle ⟨table, .inl idle⟩
  have holds {a : Option Ask} {time : Time} {frost : Nat} :=
    holds_exchangeGood h hp files (table .outputMismatch nofun) (a := a) (time := time) (frost := frost)
  have ran : s.ranFrom l p rep = ((s.watchedFrom l p rep).1, false) := runEvaluation_of_idle files.idle _ _ _
  have f : ((s.exchangeGood l r rep).trailer p).f = ((s.watchedFrom l p rep).1.trailer p).f := by
    have closes := leaves_ran h
    rw [hp, ran] at closes
    have state := (closes.field TrailerRecord.state fun _ => rfl).trans ((congrArg Prod.fst files.filedBy).trans enrolled)
    exact (TrailerRecord.field_of_offRun ((finishes_exchangeGood h.toHears).offRun p (.inl (by rw [state]; nofun)))
      (fun t => t.f) fun _ => rfl).trans (closes.field (fun t => t.f) fun _ => rfl)
  refine ⟨_, h.exec, ?_⟩
  generalize s.exchangeGood l r rep = u at *
  generalize (s.watchedFrom l p rep).1 = w at *
  obtain ⟨lawful, unrun, filedBy, held, now, undisturbed⟩ := files
  simp only [TrailerRecord.filedBy, Prod.mk.injEq] at filedBy
  obtain ⟨state, -, inhibit, deferral, arrival, last⟩ := filedBy
  have forced : (w.trailer p).forcedDue pr s.now = true ↔ ∃ since, ((s.trailer p).lastDefrostEnd.or (s.trailer p).arrival) = some since ∧
      (pr.maxInterval : Int) ≤ s.now - since := by rw [forcedDue_iff, last, arrival]
  have threshold : (w.trailer p).thresholdMet pr s.now = true ↔ pr.fth ≤ (u.trailer p).f ∧
      ∀ e, (s.trailer p).lastDefrostEnd = some e → (pr.minInterval : Int) ≤ s.now - e := by rw [thresholdMet_iff, f, last]
  rw [← undisturbed.requestOf p, ← forced, ← threshold]
  refine ⟨fun free => ?_, fun q x found stays => ?_⟩
  · obtain ⟨k, lawful, unfiled, changes, filing⟩ := filing_of_free lawful held free
    rw [filing] at holds
    have trailer : k.trailer p = w.trailer p := by
      rw [changes]
      rfl
    have config : k.config = s.config := by
      rw [changes]
      exact undisturbed.config
    have queueOf : k.queueOf p = s.queueOf p := by
      unfold State.queueOf
      rw [config]
    have now : k.now = s.now := by
      rw [changes]
      exact now
    have forbidden : (k.inForce p).inhibit = (s.inForce p).inhibit := by
      rw [changes]
      exact undisturbed.inhibit
    have blocked : k.Blocked p ↔ (s.trailer p).inhibit = true ∨ (∃ d, (s.trailer p).deferral = some d ∧ s.now < d) ∨
        ((s.inForce p).inhibit).isSome := by
      unfold State.Blocked
      rw [trailer, inhibit, deferral, now, forbidden]
    have enrolled : (k.trailer p).state = .enrolled := by
      rw [trailer, state]
      exact enrolled
    have idle : k.run p = none := (run_of_trailer trailer).trans unrun
    rw [← trailer, ← blocked, ← queueOf]
    rw [← trailer] at forced threshold
    have due {c : RequestClass} (clear : ¬ k.Blocked p) (is : (k.trailer p).filingClass pr rep.mode s.now = some c) :
        u.Holds p (some { queue := k.queueOf p, cls := c, filed := s.now, load := pr.load }) s.now (k.trailer p).f := by
      rw [← now] at is ⊢
      exact holds (holds_filingTest_of_due lawful enrolled unfiled idle pr rep.mode clear is)
    have none (is : (k.trailer p).filingClass pr rep.mode s.now = none) : u.requestOf p = none ∧ u.run p = none := by
      rw [← now] at is
      exact (holds (holds_filingTest_of_none lawful enrolled unfiled idle pr rep.mode is)).idle
    refine ⟨fun bars => (holds (holds_filingTest_of_blocked lawful enrolled unfiled idle pr rep.mode bars)).idle,
      fun clear asks => (due (c := .forced) clear ?_).stands_or_runs,
      fun clear asksNot heats => (due (c := .unit) clear ?_).stands_or_runs,
      fun clear asksNot cools reached => (due (c := .threshold) clear ?_).stands_or_runs,
      fun asksNot cools under => none ?_⟩
    all_goals unfold TrailerRecord.filingClass
    · rw [if_pos asks]
    · rw [if_neg asksNot, if_pos heats]
    · rw [if_neg asksNot, if_neg cools, if_pos reached]
    · rw [if_neg asksNot, if_neg cools, if_neg under]
  · have kept := holds (holds_filing_of_request lawful held found stays)
    rw [now] at kept
    refine ⟨fun asks => ?_, fun asksNot => ?_⟩
    · rw [if_pos asks] at kept
      exact kept.stands_or_runs
    · rw [if_neg asksNot] at kept
      exact kept.stands_or_runs

end Sys2Proof.Machine


/-! # From the lifecycle step to the exchange's end (R26, R28, R41, R48) -/

namespace Sys2Proof.Machine

/-! ## A first evaluation (R48, R49) -/

/-- What an evaluation that is a trailer's first leaves of its record: all but temperatures, fuel, door and custody. -/
def TrailerRecord.binding (t : TrailerRecord) : TrailerRecord :=
  { TrailerRecord.vacant with
    state := t.state, serial := t.serial, model := t.model, profile := t.profile, arrival := t.arrival
    lastStatus := t.lastStatus, unitAbsent := t.unitAbsent, f := t.f, r := t.r, lastDefrostEnd := t.lastDefrostEnd
    inhibit := t.inhibit, deferral := t.deferral, mask := t.mask }

/-- The classes that an evaluation of a trailer with no run can produce or clear. -/
def evaluationClasses : List FindingClass :=
  [.sensor, .senderFault, .fuelLoss, .lowFuel, .doorSensor, .custodyBreak, .doorAjar, .defrostAborted]

/-- Whether a door report opens the held state (R137). -/
def DoorReport.Opens (rep : DoorReport) (d : DoorGroup) : Prop := rep = .opened ∧ d.held ≠ some .opened

/-- A trailer with no run, evaluated for the first time. -/
structure FirstEvaluated (p : Post) (rep : StatusReport) (w v : State) : Prop where
  leaves : Leaves p evaluationClasses (v.trailer p) w v
  binding : (v.trailer p).binding = (w.trailer p).binding
  lastEval : (v.trailer p).lastEval = some w.now
  custody : (∀ tag, (w.trailer p).custody ≠ .closed tag) ∨ ¬ rep.door.Opens (w.trailer p).door →
    (v.trailer p).custody = (w.trailer p).custody
  door : ¬ rep.door.Opens (w.trailer p).door →
    (v.trailer p).door.history = (w.trailer p).door.history ∧ (v.trailer p).door.pn = (w.trailer p).door.pn

section
variable {p : Post} {rep : StatusReport} {before : AtArrival} {pr : Profile} {s s₁ s₂ s₃ s₄ t : State}
  (h : Watches p rep before pr s s₁ s₂ s₃ s₄ t)
include h

theorem Watches.leaves : Leaves p evaluationClasses (t.trailer p) s t := by
  have whole := (((h.senses.leaves.trans h.frosts).trans h.fuel).trans h.reports.leaves).trans h.ajar.leaves
  exact (whole.as whole.rest.symm).mono (by decide)

/-- The frost step of a first evaluation leaves the account (R49). -/
theorem Watches.binding_of_first (first : (s.trailer p).lastEval = none) : (t.trailer p).binding = (s.trailer p).binding := by
  have unread : (s₁.trailer p).lastEval = none := (h.senses.leaves.field TrailerRecord.lastEval fun _ => rfl).trans first
  have frosts := h.frosts
  rw [frosted_of_first s₁ rep before unread] at frosts
  calc (t.trailer p).binding
    _ = (s₄.trailer p).binding := h.ajar.leaves.field TrailerRecord.binding fun _ => rfl
    _ = (s₃.trailer p).binding := h.reports.leaves.field TrailerRecord.binding fun _ => rfl
    _ = (s₂.trailer p).binding := h.fuel.field TrailerRecord.binding fun _ => rfl
    _ = (s₁.trailer p).binding := frosts.field TrailerRecord.binding fun _ => rfl
    _ = (s.trailer p).binding := h.senses.leaves.field TrailerRecord.binding fun _ => rfl

theorem Watches.lastEval : (t.trailer p).lastEval = some s.now :=
  calc (t.trailer p).lastEval
    _ = (s₄.trailer p).lastEval := h.ajar.leaves.field TrailerRecord.lastEval fun _ => rfl
    _ = (s₃.trailer p).lastEval := h.reports.leaves.field TrailerRecord.lastEval fun _ => rfl
    _ = (s₂.trailer p).lastEval := h.fuel.field TrailerRecord.lastEval fun _ => rfl
    _ = some s₁.now := h.frosts.field TrailerRecord.lastEval fun _ => rfl
    _ = some s.now := by rw [h.senses.leaves.now]

theorem Watches.custody (kept : (∀ tag, (s.trailer p).custody ≠ .closed tag) ∨ ¬ rep.door.Opens (s.trailer p).door) :
    (t.trailer p).custody = (s.trailer p).custody := by
  have before : (s₃.trailer p).custody = (s.trailer p).custody :=
    (h.fuel.field TrailerRecord.custody fun _ => rfl).trans ((h.frosts.field TrailerRecord.custody fun _ => rfl).trans
      (h.senses.leaves.field TrailerRecord.custody fun _ => rfl))
  have reported : (s₄.trailer p).custody = (s₃.trailer p).custody := by
    refine (h.reports.leaves.field TrailerRecord.custody fun _ => rfl).trans ?_
    unfold TrailerRecord.doorAfter
    dsimp only
    rw [before, h.door]
    split
    · rename_i opens
      exact atOpening_of_undeclared (kept.resolve_right fun shut => shut opens)
    · rfl
  exact (h.ajar.leaves.field TrailerRecord.custody fun _ => rfl).trans (reported.trans before)

theorem Watches.doorMarks (shut : ¬ rep.door.Opens (s.trailer p).door) :
    (t.trailer p).door.history = (s.trailer p).door.history ∧ (t.trailer p).door.pn = (s.trailer p).door.pn := by
  have marks : ((s₄.trailer p).door.history, (s₄.trailer p).door.pn)
      = ((s₃.trailer p).door.history, (s₃.trailer p).door.pn) := by
    have reported := h.reports.leaves.field TrailerRecord.door fun _ => rfl
    rw [reported]
    unfold TrailerRecord.doorAfter DoorGroup.after
    dsimp only
    rw [← h.door] at shut
    unfold DoorReport.Opens at shut
    cases door : rep.door with
    | unknown => rfl
    | closed => rfl
    | opened =>
      dsimp only
      rw [if_pos (by by_contra no; exact shut ⟨door, no⟩)]
  have ajar : ((t.trailer p).door.history, (t.trailer p).door.pn) = ((s₄.trailer p).door.history, (s₄.trailer p).door.pn) :=
    h.ajar.leaves.field (fun x => (x.door.history, x.door.pn)) fun _ => rfl
  rw [h.door] at marks
  exact Prod.mk.inj (ajar.trans marks)

end

theorem firstEvaluated_evaluate {a : Arrival} {p : Post} {pr : Profile} (idle : a.s.run p = none)
    (first : (a.s.trailer p).lastEval = none) (profile : a.s.profileOf (a.s.trailer p) = some pr) (rep : StatusReport) (b : Bool) :
    FirstEvaluated p rep a.s (a.evaluate p rep b) := by
  obtain ⟨s₁, s₂, s₃, s₄, watches, -⟩ := watches_watched profile rep a.before
  have unrun := (StageKit.unrun p).watched a.s rep a.before idle
  rw [evaluate_eq, runEvaluation_of_idle unrun]
  dsimp only
  have whole := watches.leaves
  have binding := watches.binding_of_first first
  have lastEval := watches.lastEval
  have custody := watches.custody
  have marks := watches.doorMarks
  clear watches
  generalize (a.s.watched p rep a.before).1 = w at *
  have closes := leaves_closes w p rep (a.ended || false)
  refine ⟨?_, ?_, ?_, fun kept => ?_, fun shut => ?_⟩
  · have all := whole.calm closes
    rw [List.append_nil] at all
    exact all.as (closes.rest.symm)
  · exact (closes.field TrailerRecord.binding fun _ => rfl).trans binding
  · exact (closes.field TrailerRecord.lastEval fun _ => rfl).trans lastEval
  · exact (closes.field TrailerRecord.custody fun _ => rfl).trans (custody kept)
  · obtain ⟨history, pn⟩ := marks shut
    have door := closes.field TrailerRecord.door fun _ => rfl
    rw [door]
    exact ⟨history, pn⟩

end Sys2Proof.Machine


/-! # From the lifecycle step to the exchange's end (R26, R28, R41) -/

namespace Sys2Proof.Machine

/-! ## The rest of the status at the table -/

/-- The classes that a status can still change once its lifecycle step has been taken and its trailer has no run. -/
def tabledClasses : List FindingClass := .recordRebuilt :: evaluationClasses

/-- What a status at the table makes of what its lifecycle step has left. -/
structure Tabled (p : Post) (rep : StatusReport) (rebuilt : Option Nat) (w v : State) : Prop where
  leaves : Leaves p tabledClasses (v.trailer p) w v
  binding : (v.trailer p).binding = { (w.trailer p).binding with lastStatus := some w.now }
  unevaluated : (w.trailer p).state ≠ .enrolled ∨ rep.unit ≠ .unit →
    (v.trailer p).rest = { (w.trailer p).rest with lastStatus := some w.now }
  lastEval : (w.trailer p).state = .enrolled → rep.unit = .unit → (v.trailer p).lastEval = some w.now
  custody : (∀ tag, (w.trailer p).custody ≠ .closed tag) ∨ ¬ rep.door.Opens (w.trailer p).door →
    (v.trailer p).custody = (w.trailer p).custody
  door : ¬ rep.door.Opens (w.trailer p).door →
    (v.trailer p).door.history = (w.trailer p).door.history ∧ (v.trailer p).door.pn = (w.trailer p).door.pn
  raises : rebuilt.isSome = true → w.running = true → (v.trailer p).stands .recordRebuilt = true
  frame : ∀ f : Framed, f.rel v w
  put : ∀ k : PutKit, k.rel v w
  side : ∀ q, p ≠ q → ∀ k : SideKit q, k.rel v w

theorem leaves_stampStatus {w : State} {p : Post} (present : (w.trailer p).state ≠ .vacant) :
    Leaves p [] { w.trailer p with lastStatus := some w.now } w (w.stampStatus p) := by
  unfold State.stampStatus
  rw [if_neg present]
  exact leaves_edit w p (fun t => { t with lastStatus := some w.now }) rfl rfl

theorem SideKit.stampStatus {q : Post} (h : SideKit q) (s : State) {p : Post} (hp : p ≠ q) : h.rel (s.stampStatus p) s := by
  unfold State.stampStatus
  split
  · exact h.refl s
  · obtain e | ⟨e, -⟩ := State.editTrailer_cases s p fun t => { t with lastStatus := some s.now }
    · rw [e]
      exact h.put s p _ hp
    · rw [e]
      exact h.refl s

/-- RECORD-REBUILT follows the rest (R28). -/
theorem Tabled.rebuild {p : Post} {rep : StatusReport} {w v : State} (h : Tabled p rep none w v) (n : Nat) :
    Tabled p rep (some n) w (v.produce p .recordRebuilt n 0) := by
  have produced := leaves_produce v p .recordRebuilt n 0
  have whole := (h.leaves.calm produced).mono (ds := tabledClasses) (by decide)
  refine ⟨whole.as whole.rest.symm |>.as (by rw [produced.rest]), ?_, fun apart => produced.rest.trans (h.unevaluated apart),
    fun enrolled unit => (produced.field TrailerRecord.lastEval fun _ => rfl).trans (h.lastEval enrolled unit),
    fun kept => (produced.field TrailerRecord.custody fun _ => rfl).trans (h.custody kept), fun shut => ?_, fun _ on => ?_,
    fun f => (f.produce v p .recordRebuilt n 0).trans (h.frame f),
    fun k => (k.kit.produce v (p := p) trivial .recordRebuilt n 0).trans (h.put k),
    fun q hq k => k.after (k.produce v hq .recordRebuilt n 0) (h.side q hq k)⟩
  · exact (produced.field TrailerRecord.binding fun _ => rfl).trans h.binding
  · rw [produced.field TrailerRecord.door fun _ => rfl]
    exact h.door shut
  · exact (stands_produce v p .recordRebuilt n 0).2 (h.leaves.running.trans on)

/-- A record that is evaluated by a status has no run, has not been evaluated and has its profile. -/
structure State.Unevaluated (w : State) (p : Post) (pr : Profile) : Prop where
  idle : w.run p = none
  first : (w.trailer p).lastEval = none
  profile : w.profileOf (w.trailer p) = some pr

theorem tabled_handled {a : Arrival} {p : Post} {rep : StatusReport} (present : (a.s.trailer p).state ≠ .vacant)
    (first : (a.s.trailer p).state = .enrolled → rep.unit = .unit → ∃ pr, a.s.Unevaluated p pr) (b : Bool) :
    Tabled p rep none a.s ((a.on fun u => u.stampStatus p).handled p rep b) := by
  obtain ⟨w, before, rebuilt, ended⟩ := a
  unfold Arrival.on
  dsimp only at *
  have stamp := leaves_stampStatus present
  have run : (w.stampStatus p).run p = w.run p := by
    unfold State.stampStatus
    rw [if_neg present]
    exact State.field_editTrailer_self w p (fun t => { t with lastStatus := some w.now }) TrailerRecord.run fun _ => rfl
  have stampFrame (f : Framed) := f.stampStatus w p
  have stampPut (k : PutKit) := k.stampStatus w p
  have stampSide (q : Post) (hq : p ≠ q) (k : SideKit q) := k.stampStatus w hq
  generalize w.stampStatus p = x at *
  have state : (x.trailer p).state = (w.trailer p).state := stamp.field TrailerRecord.state fun _ => rfl
  have custody : (x.trailer p).custody = (w.trailer p).custody := stamp.field TrailerRecord.custody fun _ => rfl
  have door : (x.trailer p).door = (w.trailer p).door := stamp.field TrailerRecord.door fun _ => rfl
  have binding : (x.trailer p).binding = { (w.trailer p).binding with lastStatus := some w.now } :=
    stamp.field TrailerRecord.binding fun _ => rfl
  unfold Arrival.handled
  dsimp only
  split
  · rename_i both
    obtain ⟨pr, idle, unread, profile⟩ := first (state.symm.trans both.1) both.2
    have held : x.profileOf (x.trailer p) = some pr := by
      rw [stamp.profileOf]
      unfold State.profileOf at profile ⊢
      rw [stamp.field TrailerRecord.profile fun _ => rfl]
      exact profile
    have evaluated := firstEvaluated_evaluate (a := Arrival.mk x before rebuilt ended) (run.trans idle)
      ((stamp.field TrailerRecord.lastEval fun _ => rfl).trans unread) held rep b
    have frame (f : Framed) := f.evaluate (Arrival.mk x before rebuilt ended) p rep b
    have put (k : PutKit) := k.kit.evaluate (p := p) trivial (Arrival.mk x before rebuilt ended) rep b both.1
    have side (q : Post) (hq : p ≠ q) (k : SideKit q) := k.evaluate hq (Arrival.mk x before rebuilt ended) rep b both.1
    generalize (Arrival.mk x before rebuilt ended).evaluate p rep b = v at *
    dsimp only at evaluated
    refine ⟨?_, evaluated.binding.trans binding, fun apart => ?_, fun _ _ => evaluated.lastEval.trans (by rw [stamp.now]),
      fun kept => ?_, fun shut => ?_, nofun, fun f => (frame f).trans (stampFrame f), fun k => (put k).trans (stampPut k),
      fun q hq k => k.after (side q hq k) (stampSide q hq k)⟩
    · exact (stamp.trans evaluated.leaves).mono (by decide)
    · exact absurd both.1 (fun enrolled => apart.elim (fun no => no (state.symm.trans enrolled)) fun no => no both.2)
    · rw [← custody, ← door] at kept
      exact (evaluated.custody kept).trans custody
    · rw [← door] at shut ⊢
      exact evaluated.door shut
  · rename_i apart
    refine ⟨(stamp.as stamp.rest.symm).mono nofun, binding, fun _ => stamp.rest, fun enrolled unit => ?_, fun _ => custody,
      fun _ => by rw [door]; exact ⟨rfl, rfl⟩, nofun, stampFrame, stampPut, stampSide⟩
    exact absurd ⟨state.trans enrolled, unit⟩ apart

theorem tabled_statusAtTable {s : State} {p : Post} {rep : StatusReport} {a : Arrival}
    (step : (s.verifyAt p).lifecycle p rep = a) (present : (a.s.trailer p).state ≠ .vacant)
    (first : (a.s.trailer p).state = .enrolled → rep.unit = .unit → ∃ pr, a.s.Unevaluated p pr) (b : Bool) :
    Tabled p rep a.rebuilt a.s (s.statusAtTable p rep b) := by
  have stamped : s.stamped p rep = a.on fun u => u.stampStatus p := by
    unfold State.stamped
    rw [step]
  have handled := tabled_handled present first b
  have rebuilt : (a.on fun u => u.stampStatus p).rebuilt = a.rebuilt := rfl
  rw [State.statusAtTable_eq, stamped, rebuilt]
  generalize (a.on fun u => u.stampStatus p).handled p rep b = v at *
  cases a.rebuilt with
  | none => exact handled
  | some n =>
    dsimp only
    rw [if_neg fun vacant => present ?_]
    · exact handled.rebuild n
    · exact (congrArg TrailerRecord.state handled.binding).symm.trans vacant

end Sys2Proof.Machine


/-! # From the table to the exchange's end (R11, R29, R41, R173) -/

namespace Sys2Proof.Machine

/-! ## The last rebuild recorded (R29) -/

def State.RebuiltNow (s : State) : Prop := s.rebuilds.getLast? = some s.now

theorem State.RebuiltNow.of_same {s t : State} (h : s.RebuiltNow) (rebuilds : t.rebuilds = s.rebuilds) (now : t.now = s.now) :
    t.RebuiltNow := by
  unfold State.RebuiltNow at h ⊢
  rw [rebuilds, now]
  exact h

theorem rebuiltNow_recordRebuild (s : State) : s.recordRebuild.RebuiltNow := by
  have last (l : List Time) : (l ++ [s.now]).getLast? = some s.now := List.getLast?_concat
  unfold State.recordRebuild
  dsimp only
  split
  · split <;> exact last _
  · exact last _

theorem State.RebuiltNow.takeCause {v : State} (h : v.RebuiltNow) : (v.takeCause .tableFault).RebuiltNow := by
  have flushed (u : State) (hu : u.RebuiltNow) : u.beginFlush.RebuiltNow := by
    unfold State.beginFlush
    dsimp only
    exact forEach_keeps State.RebuiltNow (f := fun s' _ => s'.recordRebuild) (fun w _ _ => rebuiltNow_recordRebuild w) _ u hu
  unfold State.takeCause
  split
  · have stopped : (v.flushedFor .tableFault).RebuiltNow := by
      have changes := flushedFor_changes v .tableFault
      generalize v.flushedFor .tableFault = w at *
      refine h.of_same ?_ ?_
      · rw [changes]
        rfl
      · rw [changes]
        rfl
    rw [beginRestart_of_other v (r := .tableFault) nofun]
    split
    · exact flushed _ stopped
    · exact stopped
  iterate 3
    unfold State.pendingCause
    rw [if_neg fun h => absurd h.1 nofun]
    exact h
  · exact h
  · exact h

theorem State.RebuiltNow.settleCauses {v : State} (h : v.RebuiltNow) (only : ∀ c ∈ v.heldCauses, c = .tableFault) :
    v.settleCauses.RebuiltNow := by
  have ordered : ∀ c ∈ orderedCauses v.heldCauses, c = .tableFault := fun c hc => by
    unfold orderedCauses at hc
    obtain ⟨_, -, hc⟩ := List.mem_flatMap.mp hc
    exact only c (List.mem_filter.mp hc).1
  have folds : ∀ (cs : List Reason) (w : State), w.RebuiltNow → (∀ c ∈ cs, c = .tableFault) → (cs.foldl State.takeCause w).RebuiltNow := by
    intro cs
    induction cs with
    | nil => exact fun w hw _ => hw
    | cons c cs ih =>
      intro w hw hc
      refine ih (w.takeCause c) ?_ fun x hx => hc x (List.mem_cons_of_mem _ hx)
      rw [hc c List.mem_cons_self]
      exact hw.takeCause
  exact folds _ { v with heldCauses := [] } h ordered

/-! ## The next address, or the round's end -/

/-- The exchange's end discards no RESTORED record (R41). -/
def Round.Spares (r : Round) (c : LineController) : Prop := r.remaining ≠ [] ∨ c.sinceUp ≠ some 4

/-- What the exchange's end leaves of the records beside their runs and of the directory. -/
structure EndsExchange (spares : Prop) (v u : State) : Prop where
  offRun : ∀ q, ((v.trailer q).state ≠ .restored ∨ spares) → (u.trailer q).offRun = (v.trailer q).offRun
  kept : ∀ d ∈ v.directory, ((v.trailer d.2).state ≠ .restored ∨ spares) → d ∈ u.directory
  known : ∀ d ∈ u.directory, d ∈ v.directory

theorem EndsExchange.of_same {spares : Prop} {v u : State} (records : u.records = v.records) (directory : u.directory = v.directory) :
    EndsExchange spares v u := by
  refine ⟨fun q _ => ?_, fun d hd _ => directory ▸ hd, fun d hd => directory ▸ hd⟩
  unfold State.trailer
  rw [records]

theorem sinceUp_of_ended {c : LineController} {r : Round} (h : (c.ended r).sinceUp = some 5) :
    c.sinceUp = some 4 := by
  have advanced : c.ended r = (c.judgedAt r).advanceUp := rfl
  have same : (c.judgedAt r).sinceUp = c.sinceUp := by rw [judgedAt_changes]
  rw [advanced] at h
  unfold LineController.advanceUp at h
  rw [same] at h
  cases since : c.sinceUp with
  | none =>
    rw [since] at h
    dsimp only at h
    split at h
    · cases h
    · rw [same, since] at h
      cases h
  | some n =>
    rw [since] at h
    have five : min 255 (n + 1) = 5 := Option.some.inj h
    exact congrArg some (by omega)

theorem endsExchange_discardRestored (s : State) (l : Line) : EndsExchange False s (s.discardRestored l) := by
  have restored {f : State → Post → State} (hf : f = fun s' p => if (s'.trailer p).state = .restored then s'.depart p else s') :
      ∀ posts : List Post, (∀ d ∈ s.directory, (s.trailer d.2).state ≠ .restored →
          d ∈ (s.forEach posts f).directory ∧ ((s.forEach posts f).trailer d.2).state ≠ .restored) ∧
        ∀ d ∈ (s.forEach posts f).directory, d ∈ s.directory := fun posts => by
    refine forEach_keeps (fun u => (∀ d ∈ s.directory, (s.trailer d.2).state ≠ .restored →
      d ∈ u.directory ∧ (u.trailer d.2).state ≠ .restored) ∧ ∀ d ∈ u.directory, d ∈ s.directory) (fun u q hu => ?_) posts s
      ⟨fun d hd away => ⟨hd, away⟩, fun d hd => hd⟩
    rw [hf]
    dsimp only
    split
    · rename_i here
      obtain ⟨kept, known⟩ := hu
      have vacated := vacated_depart u q
      refine ⟨fun d hd away => ?_, fun d hd => ?_⟩
      · obtain ⟨mem, still⟩ := kept d hd away
        have apart : d.2 ≠ q := fun e => still (e ▸ here)
        rw [vacated.directory, (vacated.others d.2 apart).1]
        exact ⟨List.mem_filter.mpr ⟨mem, decide_eq_true apart⟩, still⟩
      · rw [vacated.directory] at hd
        exact known d (List.mem_filter.mp hd).1
    · exact hu
  obtain ⟨kept, known⟩ := restored rfl (postsOn l)
  exact ⟨fun q away => (SideKit.offRun q).discardRestored s l fun _ => away.resolve_right id,
    fun d hd away => (kept d hd (away.resolve_right id)).1, known⟩

theorem endsExchange_nextAddress {s : State} {l : Line} {r : Round} (round : (s.line l).round = some r ∨ (s.line l).round = none) :
    EndsExchange (r.Spares (s.line l)) s (s.nextAddress l) := by
  obtain round | none := round
  · cases more : r.remaining with
    | nil =>
      rw [nextAddress_of_last round more, endRound_eq]
      have records (q : Post) : ((s.roundJudged l r).trailer q).offRun = (s.trailer q).offRun :=
        (ChangeKit.offRun q).changeLine s l _
      have directory : (s.roundJudged l r).directory = s.directory := by
        refine (arbiterAlone_changeLine s l _).directory.trans ?_
        rw [State.putLine_changes]
      generalize s.roundJudged l r = v at *
      split
      · rename_i fifth
        have four := sinceUp_of_ended fifth.1
        have discarded := endsExchange_discardRestored v l
        have state (q : Post) : (v.trailer q).state = (s.trailer q).state :=
          TrailerRecord.field_of_offRun (records q) TrailerRecord.state fun _ => rfl
        have away {q : Post} (h : (s.trailer q).state ≠ .restored ∨ r.Spares (s.line l)) :
            (v.trailer q).state ≠ .restored ∨ False := by
          rw [state]
          exact .inl (h.resolve_right fun spares => spares.elim (fun some => some more) fun no => no four)
        refine ⟨fun q stays => (discarded.offRun q (away stays)).trans (records q), fun d hd stays => ?_, fun d hd => ?_⟩
        · exact discarded.kept d (directory ▸ hd) (away stays)
        · rw [← directory]
          exact discarded.known d hd
      · exact ⟨fun q _ => records q, fun d hd _ => directory ▸ hd, fun d hd => directory ▸ hd⟩
    | cons q rest =>
      rw [nextAddress_of_more round more]
      have polls := polls_beginExchange s l q false { r with remaining := rest }
      generalize s.beginExchange l q false { r with remaining := rest } = u at *
      exact .of_same (by rw [polls.changes]) (by rw [polls.changes])
  · rw [nextAddress_of_none none]
    exact .of_same rfl rfl

/-! ## From the table to the end -/

/-- What a GOOD exchange leaves of what the table has made of its status. -/
structure Lands (p : Post) (spares : Prop) (w u : State) : Prop where
  rest : ((w.trailer p).state ≠ .restored ∨ spares) → (u.trailer p).rest = (w.trailer p).rest
  stands : ∀ c, c ≠ .outputMismatch → c ≠ .defrostAborted → ((w.trailer p).state ≠ .restored ∨ spares) →
    (u.trailer p).stands c = (w.trailer p).stands c
  others : ∀ q, q ≠ p → ((w.trailer q).state ≠ .restored ∨ spares) → (u.trailer q).offRun = (w.trailer q).offRun
  kept : ∀ d ∈ w.directory, ((w.trailer d.2).state ≠ .restored ∨ spares) → d ∈ u.directory
  known : ∀ d ∈ u.directory, d ∈ w.directory
  rebuilt : w.RebuiltNow → u.RebuiltNow
  verifies : ∀ q, (w.trailer q).verifies = true → (u.trailer q).verifies = true

theorem State.RebuiltNow.of_framed {s t : State} (h : s.RebuiltNow) (frame : ∀ f : Framed, f.rel t s) : t.RebuiltNow :=
  h.of_same (State.of_framed frame State.rebuilds fun _ => rfl) (State.of_framed frame State.now fun _ => rfl)

theorem State.RebuiltNow.nextAddress {s : State} (h : s.RebuiltNow) {l : Line} {r : Round}
    (round : (s.line l).round = some r ∨ (s.line l).round = none) : (s.nextAddress l).RebuiltNow := by
  obtain round | none := round
  · cases more : r.remaining with
    | nil =>
      have judged : (s.roundJudged l r).RebuiltNow := by
        have alone := arbiterAlone_changeLine s l ((s.line l).ended r)
        unfold ArbiterAlone at alone
        refine h.of_same ?_ ?_
        · unfold State.roundJudged
          rw [alone, State.putLine_changes]
        · unfold State.roundJudged
          rw [alone, State.putLine_changes]
          rfl
      rw [nextAddress_of_last round more]
      exact endRound_of (P := State.RebuiltNow) s l r judged (judged.of_framed (framed_discardRestored _ l))
    | cons q rest =>
      rw [nextAddress_of_more round more]
      have polls := polls_beginExchange s l q false { r with remaining := rest }
      generalize s.beginExchange l q false { r with remaining := rest } = u at *
      refine h.of_same ?_ ?_
      · rw [polls.changes]
      · rw [polls.changes]
        rfl
  · rw [nextAddress_of_none none]
    exact h

theorem lands_exchangeGood {s : State} {l : Line} {bytes : List Byte} {r : Round} {rep : StatusReport}
    (h : s.Hears l bytes r rep) :
    Lands r.exchange.post (r.Spares (s.line l)) (s.atTable l r.exchange rep) (s.exchangeGood l r rep) := by
  obtain ⟨heard, takes, round⟩ := settled_goodResult h
  have plugged := leaves_settlePlugged (s.atTable l r.exchange rep) r.exchange.post r.exchange.post rep
  have output := plugged.calm (leaves_outputAtGood ((s.atTable l r.exchange rep).settlePlugged r.exchange.post rep) r.exchange.post
    r.exchange.levels rep.actual)
  have rebuilt (now : (s.atTable l r.exchange rep).RebuiltNow) : (s.goodResult l r.exchange rep).RebuiltNow := by
    have kept := now.of_same (heldCauses_settlePlugged _ r.exchange.post rep).2.2 plugged.now
    rw [goodResult_eq]
    exact kept.of_framed fun f => f.outputAtGood _ _ _ _
  have verified (q : Post) (h : ((s.atTable l r.exchange rep).trailer q).verifies = true) :
      ((s.goodResult l r.exchange rep).trailer q).verifies = true := by
    have kept : (((s.atTable l r.exchange rep).settlePlugged r.exchange.post rep).trailer q).verifies = true := by
      unfold State.trailer at h ⊢
      rw [(heldCauses_settlePlugged _ r.exchange.post rep).2.1]
      exact h
    rw [goodResult_eq]
    exact TableKit.verifies.kit.outputAtGood _ (p := r.exchange.post) trivial _ _ q kept
  rw [← goodResult_eq] at output
  have only := heard.causes h.noCause
  have since : (((s.goodResult l r.exchange rep).settleCauses).line l).sinceUp = (s.line l).sinceUp := by
    rw [takes.line, heard.line, good_changes]
  have ends := endsExchange_nextAddress round
  have spares : { r with hadGood := true }.Spares ((s.goodResult l r.exchange rep).settleCauses.line l) ↔ r.Spares (s.line l) := by
    unfold Round.Spares
    rw [since]
  have verifies (q : Post) := LineKit.verifies.nextAddress (s.goodResult l r.exchange rep).settleCauses l q
  rw [spares] at ends
  rw [exchangeGood_eq]
  clear heard since spares plugged
  generalize s.atTable l r.exchange rep = w at *
  generalize s.goodResult l r.exchange rep = v at *
  have last (now : v.RebuiltNow) := (now.settleCauses only).nextAddress round
  have same (q : Post) : v.settleCauses.trailer q = v.trailer q := by
    rw [takes.changes]
    rfl
  have directory : v.settleCauses.directory = w.directory := by
    rw [takes.changes]
    exact output.directory
  clear takes round
  generalize v.settleCauses = x at *
  generalize x.nextAddress l = u at *
  have stays {q : Post} (h : (w.trailer q).state ≠ .restored ∨ r.Spares (s.line l)) :
      (x.trailer q).state ≠ .restored ∨ r.Spares (s.line l) := by
    have state : (v.trailer q).state = (w.trailer q).state := by
      by_cases here : q = r.exchange.post
      · rw [here]
        exact output.field TrailerRecord.state fun _ => rfl
      · exact TrailerRecord.field_of_offRun (output.others q here) TrailerRecord.state fun _ => rfl
    rw [same, state]
    exact h
  refine ⟨fun h => ?_, fun c mismatch aborted h => ?_, fun q hq h => ?_, fun d hd h => ends.kept d (directory ▸ hd) (stays h),
    fun d hd => directory ▸ ends.known d hd, fun now => last (rebuilt now), fun q hq => verifies q ?_⟩
  · have ended := ends.offRun _ (stays h)
    rw [same] at ended
    exact (TrailerRecord.field_of_offRun ended TrailerRecord.rest fun _ => rfl).trans output.rest
  · have ended := ends.offRun _ (stays h)
    rw [same] at ended
    exact (TrailerRecord.field_of_offRun ended (fun t => t.stands c) fun _ => rfl).trans
      (output.stands (by simp [mismatch, aborted]))
  · have ended := ends.offRun q (stays h)
    rw [same] at ended
    exact ended.trans (output.others q hq)
  · rw [same]
    exact verified q hq

end Sys2Proof.Machine


/-! # The arrival of a unit (R24, R28, R32 to R34) -/

namespace Sys2Proof.Machine

/-! ## The model-code match (R34) -/

theorem matching_of_reads {s t : State} (reads : SameReads s t) (m : Word16) : t.matching m = s.matching m := by
  unfold State.matching
  rw [reads.config]

theorem profile_of_matching {s : State} {m : Word16} {i : ProfileId} {pr : Profile} (h : s.matching m = some (i, pr)) :
    s.config.profiles.get i = some pr := by
  unfold State.matching at h
  split at h
  · cases h
  · obtain ⟨j, -, found⟩ := List.exists_of_findSome?_eq_some h
    cases stored : s.config.profiles.get j with
    | none =>
      rw [stored] at found
      cases found
    | some x =>
      rw [stored] at found
      dsimp only at found
      split at found
      · cases found
        exact stored
      · cases found

theorem profileOf_of_matching {s t : State} (reads : SameReads s t) {m : Word16} {i : ProfileId} {pr : Profile}
    (h : s.matching m = some (i, pr)) {x : TrailerRecord} (bound : x.profile = some i) : t.profileOf x = some pr := by
  unfold State.profileOf
  rw [bound, reads.config]
  exact profile_of_matching h

/-! ## A match tried (R33, R34) -/

theorem unrun_announceEnrolment {s : State} {p : Post} (idle : s.run p = none) (i : ProfileId) :
    (s.announceEnrolment p i).run p = none := by
  have item := FindingKit.unrun.item s p (.enrolled i) trivial p idle
  exact FindingKit.unrun.clearFinding _ (p := p) trivial .unknownModel false p item

/-- A trailer that a match enrols with the enrolment values (R34). -/
structure Enrols (p : Post) (i : ProfileId) (pr : Profile) (w t : State) : Prop where
  leaves : Leaves p [.unknownModel] ((w.trailer p).enrolled i pr) w t
  unevaluated : t.Unevaluated p pr
  clears : (w.trailer p).InOneSet .unknownModel → (t.trailer p).stands .unknownModel = false

theorem enrols_tryMatch {w : State} {p : Post} {i : ProfileId} {pr : Profile} (idle : w.run p = none)
    (found : w.matching (w.trailer p).model = some (i, pr)) : Enrols p i pr w (w.tryMatch p false) := by
  have enrolled : w.tryMatch p false = w.enrol p i pr := by
    unfold State.tryMatch
    rw [found]
    rfl
  have leaves := leaves_enrol w p i pr
  have edited := leaves_edit w p (fun t => t.enrolled i pr) rfl rfl
  have run : (w.editTrailer p fun t => t.enrolled i pr).run p = none :=
    (State.field_editTrailer_self w p (fun t => t.enrolled i pr) TrailerRecord.run fun _ => rfl).trans idle
  rw [enrolled]
  refine ⟨leaves, ⟨unrun_announceEnrolment run i, leaves.field TrailerRecord.lastEval fun _ => rfl,
    profileOf_of_matching leaves.reads found (leaves.field TrailerRecord.profile fun _ => rfl)⟩, fun one => ?_⟩
  have item := edited.calm (leaves_item _ p p (.enrolled i))
  exact (clears_clearFinding _ p .unknownModel false).not_stands (item.inOneSet (by nofun) one)

/-- A match tried in vain leaves the record, and UNKNOWN-MODEL stands (R33). -/
theorem tryMatch_of_none {w : State} {p : Post} (none : w.matching (w.trailer p).model = none) (b : Bool) :
    w.tryMatch p b = w.produce p .unknownModel (w.trailer p).model.toNat 0 := by
  unfold State.tryMatch
  rw [none]

/-! ## A fresh record (R24, R33) -/

/-- The state in which a record with the fresh values, listed and with empty sets, awaits its match. -/
structure Fresh (p : Post) (rep : StatusReport) (s w : State) : Prop where
  record : w.trailer p = (TrailerRecord.fresh rep.serial rep.model s.now).sealed
  reads : SameReads s w
  directory : (rep.serial, p) ∈ w.directory

theorem fresh_put {s b : State} (reads : SameReads s b) (p : Post) (rep : StatusReport) :
    Fresh p rep s ((b.putTrailer p (.fresh rep.serial rep.model b.now)).dirInsert rep.serial p) := by
  refine ⟨?_, reads.trans ⟨rfl, rfl, rfl, rfl⟩, mem_insertEntry.mpr (.inl rfl)⟩
  have put := State.trailer_putTrailer_self b p (.fresh rep.serial rep.model b.now)
  rw [reads.now] at put ⊢
  exact put

theorem Fresh.item {p : Post} {rep : StatusReport} {s w : State} (h : Fresh p rep s w) (b : ItemBody) :
    Fresh p rep s (w.item p b) := by
  refine ⟨(State.item_trailer w p p b).trans h.record, h.reads.trans (.of_framed fun f => f.item w p b), ?_⟩
  rw [State.item_directory]
  exact h.directory

/-- What the lifecycle makes of a fresh record. -/
structure Arrives (p : Post) (rep : StatusReport) (s t : State) : Prop where
  reads : SameReads s t
  directory : (rep.serial, p) ∈ t.directory
  verifies : (t.trailer p).verifies = true
  unheld : (t.trailer p).stands .duplicateUnit = false
  known : ∀ i pr, s.matching rep.model = some (i, pr) →
    (t.trailer p).rest = ((TrailerRecord.fresh rep.serial rep.model s.now).enrolled i pr).rest ∧ t.Unevaluated p pr
  unknown : s.matching rep.model = none →
    (t.trailer p).rest = (TrailerRecord.fresh rep.serial rep.model s.now).rest ∧
    (s.running = true → (t.trailer p).stands .unknownModel = true)

theorem Fresh.arrives {p : Post} {rep : StatusReport} {s w : State} (h : Fresh p rep s w) :
    Arrives p rep s (w.tryMatch p false) := by
  have tried := leaves_tryMatch w p false
  have model : (w.trailer p).model = rep.model := by
    rw [h.record]
    rfl
  have idle : w.run p = none := by
    unfold State.run
    rw [h.record]
    rfl
  have none : (w.trailer p).stands .duplicateUnit = false := by
    rw [h.record]
    rfl
  have rest : (w.trailer p).rest = (TrailerRecord.fresh rep.serial rep.model s.now).rest := by
    rw [h.record]
    rfl
  have matching := matching_of_reads h.reads rep.model
  refine ⟨h.reads.trans tried.reads, ?_, ?_, (tried.stands (by decide)).trans none, fun i pr found => ?_, fun no => ?_⟩
  · rw [tried.directory]
    exact h.directory
  · refine TableKit.verifies.tryMatch w p false p ?_
    rw [h.record]
    rfl
  · have enrols := enrols_tryMatch idle (by rw [model, matching]; exact found)
    refine ⟨enrols.leaves.rest.trans ?_, enrols.unevaluated⟩
    rw [h.record]
    rfl
  · have vain := tryMatch_of_none (w := w) (p := p) (by rw [model, matching]; exact no) false
    have produced := leaves_produce w p .unknownModel (w.trailer p).model.toNat 0
    rw [← vain] at produced
    refine ⟨produced.rest.trans rest, fun on => ?_⟩
    rw [vain]
    refine (stands_produce w p .unknownModel _ 0).2 ?_
    unfold State.running at on ⊢
    rw [h.reads.phase]
    exact on

/-! ## A post that no walk reaches -/

/-- A post with no request stands apart from the owners' work at other posts, with records put and the directory changed there. -/
def SideKit.apart (q : Post) : SideKit q where
  toKit := Kit.apart q
  put s p r hp h := ⟨h, State.trailer_putTrailer_other s p q r hp.symm, rfl, rfl⟩
  directory _ _ h := ⟨h, rfl, rfl, rfl⟩

/-- A post that is not LIVE, or that has no request: no walk grants there. -/
def State.Off (s : State) (q : Post) : Prop := (s.entry q).map (·.state) ≠ some .live ∨ s.Unfiled q

/-- Such a post, its record as it stood. -/
structure Fixed (q : Post) (s t : State) : Prop where
  trailer : t.trailer q = s.trailer q
  off : t.Off q

theorem Fixed.refl {q : Post} {s : State} (h : s.Off q) : Fixed q s s := ⟨rfl, h⟩

theorem Fixed.trans {q : Post} {s t u : State} (h : Fixed q s t) (k : Fixed q t u) : Fixed q s u :=
  ⟨k.trailer.trans h.trailer, k.off⟩

theorem State.Off.fixed {q : Post} {s t : State} (h : s.Off q) (side : ∀ k : SideKit q, k.rel t s) : Fixed q s t := by
  obtain away | unfiled := h
  · have stands := side (SideKit.barred q) (.inr away)
    exact ⟨stands.trailer, .inl (stands.entry ▸ away)⟩
  · have apart := side (SideKit.apart q) unfiled
    exact ⟨apart.trailer, .inr apart.unfiled⟩

theorem fixed_hearPost {s : State} {p q : Post} (h : s.Off q) (hp : p ≠ q) (l : Line) : Fixed q s (s.hearPost l p) := by
  have put : Fixed q s (s.putEntry p ((s.entry p).map fun e => e.good s.now)) := by
    refine ⟨rfl, h.imp (fun away => ?_) id⟩
    rw [State.entry_putEntry_other _ _ _ _ hp.symm]
    exact away
  have heard : Fixed q s (s.heardAt p) := by
    unfold State.heardAt
    dsimp only
    generalize s.putEntry p ((s.entry p).map fun e => e.good s.now) = u at *
    split
    · exact put.trans (put.off.fixed fun k => (k.clearLinkLost _ hp 1).trans (k.causeLeaves u hp .post))
    · exact put.trans (put.off.fixed fun k => k.clearLinkLost u hp 1)
  rw [hearPost_eq]
  refine ⟨(trailer_putLine _ l _ q).trans heard.trailer, heard.off.imp (fun away => ?_) fun unfiled => ?_⟩
  · cases l <;> exact away
  · cases l <;> exact unfiled

/-! ## The state that a serial arrives in (R26, R30, R32) -/

theorem trailer_recordRebuild (s : State) (q : Post) : (s.recordRebuild).trailer q = s.trailer q := by
  rw [recordRebuild_changes]
  rfl

theorem reads_recordRebuild (s : State) : SameReads s s.recordRebuild := by
  rw [recordRebuild_changes]
  exact ⟨rfl, rfl, rfl, rfl⟩

theorem dirLookup_filter {s b : State} {p : Post} (h : b.directory = s.directory.filter fun e => decide (e.2 ≠ p)) {u : Word32}
    (apart : s.dirLookup u ≠ some p) : b.dirLookup u = s.dirLookup u := by
  unfold State.dirLookup at apart ⊢
  rw [h]
  generalize s.directory = d at *
  clear h
  induction d with
  | nil => rfl
  | cons e l ih =>
    have stays (away : e.2 ≠ p) : (e :: l).filter (fun e => decide (e.2 ≠ p)) = e :: l.filter fun e => decide (e.2 ≠ p) :=
      List.filter_cons_of_pos (decide_eq_true away)
    by_cases same : e.1 = u
    · have found (k : List (Word32 × Post)) : (e :: k).find? (fun e => decide (e.1 = u)) = some e :=
        List.find?_cons_of_pos (decide_eq_true same)
      rw [found] at apart
      have away : e.2 ≠ p := fun here => apart (congrArg some here)
      rw [stays away, found, found]
    · have passed (k : List (Word32 × Post)) : (e :: k).find? (fun e => decide (e.1 = u)) = k.find? fun e => decide (e.1 = u) :=
        List.find?_cons_of_neg (by simpa using same)
      rw [passed] at apart
      rw [passed, ← ih apart]
      by_cases away : e.2 = p
      · rw [List.filter_cons_of_neg (by simpa using away)]
      · rw [stays away, passed]

/-- What stands, of the other posts and of what is read, as a serial reaches the record of a post. -/
structure Reaches (p : Post) (s b : State) : Prop where
  reads : SameReads s b
  lookup : ∀ u, s.dirLookup u ≠ some p → b.dirLookup u = s.dirLookup u
  entry : ∀ q, q ≠ p → b.entry q = s.entry q
  others : ∀ q, q ≠ p → (b.trailer q).offRun = (s.trailer q).offRun
  law : s.GrantLaw → b.GrantLaw
  listing : s.DirectoryLaw → b.DirectoryLaw
  fixed : ∀ q, q ≠ p → s.Off q → Fixed q s b

namespace Reaches

variable {p : Post} {s b c : State}

theorem refl (p : Post) (s : State) : Reaches p s s := ⟨.refl s, fun _ _ => rfl, fun _ _ => rfl, fun _ _ => rfl, id, id, fun _ _ => .refl⟩

theorem trans (h : Reaches p s b) (k : Reaches p b c) : Reaches p s c where
  reads := h.reads.trans k.reads
  lookup u apart := by
    have first := h.lookup u apart
    exact (k.lookup u (first ▸ apart)).trans first
  entry q hq := (k.entry q hq).trans (h.entry q hq)
  others q hq := (k.others q hq).trans (h.others q hq)
  law := k.law ∘ h.law
  listing := k.listing ∘ h.listing
  fixed q hq off := (h.fixed q hq off).trans (k.fixed q hq (h.fixed q hq off).off)

end Reaches

theorem entry_hearPost_other (s : State) (l : Line) {p q : Post} (h : q ≠ p) : (s.hearPost l p).entry q = s.entry q := by
  have put : ((s.heardAt p).putLine l (s.line l).good).entry q = (s.heardAt p).entry q := by cases l <;> rfl
  rw [hearPost_eq, put, entry_of_framed (heardAt_frame s p), State.entry_putEntry_other _ _ _ _ h]

theorem reaches_hearPost (s : State) (l : Line) (p : Post) : Reaches p s (s.hearPost l p) where
  reads := (leaves_hearPost s l p).reads
  lookup u _ := by
    unfold State.dirLookup
    rw [(leaves_hearPost s l p).directory]
  entry _ hq := entry_hearPost_other s l hq
  others := (leaves_hearPost s l p).others
  law := StepKit.grants.lines.hearPost s l p
  listing := StepKit.directory.lines.hearPost s l p
  fixed _ hq off := fixed_hearPost off hq.symm l

theorem reaches_depart (s : State) (p : Post) : Reaches p s (s.depart p) where
  reads := .of_framed fun f => f.depart s p
  lookup _ apart := dirLookup_filter (vacated_depart s p).directory apart
  entry q _ := entry_of_framed (fun f => f.depart s p) q
  others q hq := (SideKit.offRun q).depart s hq.symm
  law := fun law => law.depart p
  listing := fun law => law.vacated (vacated_depart s p)
  fixed _ hq off := off.fixed fun k => k.depart s hq.symm

/-- A VACANT record that does not verify takes the vacant values anew (R28). -/
theorem reaches_vacant {s : State} {p : Post} (vacant : (s.trailer p).state = .vacant) :
    Reaches p s (s.putTrailer p .vacant).recordRebuild where
  reads := SameReads.trans (t := s.putTrailer p .vacant) ⟨rfl, rfl, rfl, rfl⟩ (reads_recordRebuild _)
  lookup u _ := by
    unfold State.dirLookup
    rw [recordRebuild_changes]
    rfl
  entry q _ := by
    rw [recordRebuild_changes]
    rfl
  others q hq := by rw [trailer_recordRebuild, State.trailer_putTrailer_other _ _ _ _ hq]
  law law := (law.put (law.idle_of_not_enrolled (by rw [vacant]; nofun)) (r := .vacant) rfl).of_keeps (keepsGrants_recordRebuild _)
  fixed q hq off := by
    refine ⟨?_, off.imp (fun away => ?_) fun unfiled => ?_⟩
    · rw [trailer_recordRebuild, State.trailer_putTrailer_other _ _ _ _ hq]
    · rw [recordRebuild_changes]
      exact away
    · rw [recordRebuild_changes]
      exact unfiled
  listing law := by
    have unlisted : (s.trailer p).state.listed = false := by
      rw [vacant]
      rfl
    have put : SameListing s (s.putTrailer p .vacant) := by
      refine ⟨rfl, fun q => ?_, fun q hq => ?_⟩
      · by_cases here : q = p
        · rw [here, State.trailer_putTrailer_self, unlisted]
          rfl
        · rw [State.trailer_putTrailer_other _ _ _ _ here]
      · have here : q ≠ p := by
          rintro rfl
          rw [unlisted] at hq
          cases hq
        rw [State.trailer_putTrailer_other _ _ _ _ here]
    exact (law.of_listing put).of_identity (identity_recordRebuild _)

/-- A serial that its post's record does not hold arrives there, the record VACANT (R32, R33). -/
theorem lifecycle_of_takes {s : State} {p : Post} {rep : StatusReport} (unit : rep.unit = .unit)
    (takes : (s.trailer p).state = .vacant ∨ ((s.trailer p).verifies = true ∧ (s.trailer p).serial ≠ rep.serial)) :
    ∃ b before, Reaches p s b ∧ (b.trailer p).state = .vacant ∧
      (s.verifyAt p).lifecycle p rep = (Arrival.mk b before none false).arrive p rep := by
  have arrives {b : State} {before : AtArrival} (vacant : (b.trailer p).state = .vacant) :
      (Arrival.mk b before none false).lifecycle p rep = (Arrival.mk b before none false).arrive p rep := by
    unfold Arrival.lifecycle
    dsimp only
    rw [unit]
    dsimp only
    rw [if_pos vacant]
  by_cases verifies : (s.trailer p).verifies = true
  · have verified : s.verifyAt p = { s := s, before := (s.trailer p).atArrival, rebuilt := none, ended := false } := by
      unfold State.verifyAt
      dsimp only
      rw [if_pos verifies]
    by_cases vacant : (s.trailer p).state = .vacant
    · exact ⟨s, _, .refl p s, vacant, by rw [verified, arrives vacant]⟩
    · have other := (takes.resolve_left vacant).2
      refine ⟨s.depart p, TrailerRecord.vacant.atArrival, reaches_depart s p, (vacated_depart s p).vacant, ?_⟩
      rw [verified]
      unfold Arrival.lifecycle
      dsimp only
      rw [unit]
      dsimp only
      rw [if_neg vacant, if_neg other]
  · have vacant := takes.resolve_right fun both => verifies both.1
    have record : (((s.putTrailer p .vacant).recordRebuild).trailer p).state = .vacant := by
      rw [trailer_recordRebuild, State.trailer_putTrailer_self]
      rfl
    refine ⟨_, TrailerRecord.vacant.atArrival, reaches_vacant vacant, record, ?_⟩
    have verified : s.verifyAt p
        = Arrival.mk ((s.putTrailer p .vacant).recordRebuild) TrailerRecord.vacant.atArrival none false := by
      unfold State.verifyAt
      dsimp only
      rw [if_neg verifies, if_pos vacant]
    rw [verified, arrives record]

end Sys2Proof.Machine


/-! # What a GOOD exchange leaves of what the lifecycle step has made (R26 to R41) -/

namespace Sys2Proof.Machine

theorem TrailerRecord.field_of_binding {t u : TrailerRecord} (h : t.binding = u) {α : Type} (π : TrailerRecord → α)
    (hπ : ∀ x, π x.binding = π x) : π t = π u := by rw [← hπ t, h]

/-- What the rest of a GOOD exchange makes of what its lifecycle step has left at the post. -/
structure Concludes (p : Post) (rep : StatusReport) (rebuilt : Option Nat) (spares : Prop) (t u : State) : Prop where
  binding : (u.trailer p).binding = { (t.trailer p).binding with lastStatus := some t.now }
  unevaluated : (t.trailer p).state ≠ .enrolled ∨ rep.unit ≠ .unit →
    (u.trailer p).rest = { (t.trailer p).rest with lastStatus := some t.now }
  lastEval : (t.trailer p).state = .enrolled → rep.unit = .unit → (u.trailer p).lastEval = some t.now
  custody : (∀ tag, (t.trailer p).custody ≠ .closed tag) ∨ ¬ rep.door.Opens (t.trailer p).door →
    (u.trailer p).custody = (t.trailer p).custody
  door : ¬ rep.door.Opens (t.trailer p).door →
    (u.trailer p).door.history = (t.trailer p).door.history ∧ (u.trailer p).door.pn = (t.trailer p).door.pn
  stands : ∀ c, c ∉ FindingClass.outputMismatch :: tabledClasses → (u.trailer p).stands c = (t.trailer p).stands c
  raises : rebuilt.isSome = true → t.running = true → (u.trailer p).stands .recordRebuilt = true
  others : ∀ q, q ≠ p → ((t.trailer q).state ≠ .restored ∨ spares) → (u.trailer q).offRun = (t.trailer q).offRun
  kept : ∀ d ∈ t.directory, ((t.trailer d.2).state ≠ .restored ∨ spares) → d ∈ u.directory
  known : ∀ d ∈ u.directory, d ∈ t.directory
  last : t.RebuiltNow → u.RebuiltNow
  verifies : ∀ q, (t.trailer q).verifies = true → (u.trailer q).verifies = true

theorem concludes_exchangeGood {s : State} {l : Line} {bytes : List Byte} {r : Round} {rep : StatusReport}
    (h : s.Hears l bytes r rep) {p : Post} (hp : r.exchange.post = p) {a : Arrival}
    (step : ((s.hearPost l p).verifyAt p).lifecycle p rep = a) (present : (a.s.trailer p).state ≠ .vacant)
    (stays : (a.s.trailer p).state ≠ .restored ∨ r.Spares (s.line l))
    (first : (a.s.trailer p).state = .enrolled → rep.unit = .unit → ∃ pr, a.s.Unevaluated p pr) :
    Concludes p rep a.rebuilt (r.Spares (s.line l)) a.s (s.exchangeGood l r rep) := by
  have tabled := tabled_statusAtTable step present first (s.trailer p).atArrival.runHeating
  have lands := lands_exchangeGood h
  unfold State.atTable at lands
  rw [hp] at lands
  generalize (s.hearPost l p).statusAtTable p rep (s.trailer p).atArrival.runHeating = w at *
  generalize s.exchangeGood l r rep = u at *
  have state : (w.trailer p).state = (a.s.trailer p).state :=
    TrailerRecord.field_of_binding tabled.binding TrailerRecord.state fun _ => rfl
  have ended : (w.trailer p).state ≠ .restored ∨ r.Spares (s.line l) := state ▸ stays
  have rest := lands.rest ended
  have field {α : Type} (π : TrailerRecord → α) (hπ : ∀ x, π x.rest = π x) : π (u.trailer p) = π (w.trailer p) :=
    TrailerRecord.field_of_rest rest π hπ
  have others (q : Post) (stays : (a.s.trailer q).state ≠ .restored ∨ r.Spares (s.line l)) :
      (w.trailer q).state ≠ .restored ∨ r.Spares (s.line l) := by
    by_cases here : q = p
    · exact here ▸ ended
    · rw [TrailerRecord.field_of_offRun (tabled.leaves.others q here) TrailerRecord.state fun _ => rfl]
      exact stays
  refine ⟨(field TrailerRecord.binding fun _ => rfl).trans tabled.binding, fun apart => rest.trans (tabled.unevaluated apart),
    fun enrolled unit => (field TrailerRecord.lastEval fun _ => rfl).trans (tabled.lastEval enrolled unit),
    fun kept => (field TrailerRecord.custody fun _ => rfl).trans (tabled.custody kept), fun shut => ?_, fun c hc => ?_,
    fun some on => ?_, fun q hq stays => (lands.others q hq (others q stays)).trans (tabled.leaves.others q hq),
    fun d hd stays => lands.kept d (tabled.leaves.directory ▸ hd) (others d.2 stays),
    fun d hd => tabled.leaves.directory ▸ lands.known d hd, fun now => lands.rebuilt (now.of_framed tabled.frame),
    fun q hq => lands.verifies q (tabled.put TableKit.verifies.toPutKit q hq)⟩
  · rw [field TrailerRecord.door fun _ => rfl]
    exact tabled.door shut
  · obtain ⟨mismatch, other⟩ := not_or.mp (mt List.mem_cons.mpr hc)
    refine (lands.stands c mismatch ?_ ended).trans (tabled.leaves.stands other)
    rintro rfl
    exact other (by decide)
  · exact (lands.stands .recordRebuilt nofun nofun ended).trans (tabled.raises some on)

end Sys2Proof.Machine


/-! # A GOOD status of a unit that arrives, or that is held (O41) -/

namespace Sys2Proof.Machine

/-! ## The lifecycle steps -/

theorem verifyAt_of_verifies {s : State} {p : Post} (verifies : (s.trailer p).verifies = true) :
    s.verifyAt p = Arrival.mk s (s.trailer p).atArrival none false := by
  unfold State.verifyAt
  dsimp only
  rw [if_pos verifies]

section
variable {s b : State} {p : Post} {rep : StatusReport} (reads : SameReads s b)
include reads

theorem arrives_arriveUnknown : Arrives p rep s (b.arriveUnknown p rep) :=
  ((fresh_put reads p rep).item (.arrived rep.serial rep.model)).arrives

/-- An unknown serial arrives at a VACANT record (R33). -/
theorem arrive_of_unknown (lookup : b.dirLookup rep.serial = none) (before : AtArrival) :
    ∃ a, (Arrival.mk b before none false).arrive p rep = a ∧ Arrives p rep s a.s ∧ a.rebuilt = none := by
  refine ⟨_, rfl, ?_⟩
  unfold Arrival.arrive Arrival.on
  dsimp only
  rw [lookup]
  exact ⟨arrives_arriveUnknown reads, rfl⟩

/-- A HELD record whose serial has left the directory arrives (R38). -/
theorem retryHeld_of_unknown (lookup : b.dirLookup rep.serial = none) (before : AtArrival) :
    ∃ a, (Arrival.mk b before none false).retryHeld p rep = a ∧ Arrives p rep s a.s ∧ a.rebuilt = none := by
  refine ⟨_, rfl, ?_⟩
  unfold Arrival.retryHeld Arrival.on
  dsimp only
  rw [lookup]
  have item := leaves_item b p p (.arrived rep.serial rep.model)
  have cleared := item.calm (leaves_clearFinding _ p .duplicateUnit false)
  generalize (b.item p (.arrived rep.serial rep.model)).clearFinding p .duplicateUnit false = c at *
  have emptied : SameReads c (c.emptySets p) := .of_framed fun f => f.emptySets c p
  have now : (c.emptySets p).now = b.now := emptied.now.trans cleared.now
  dsimp only
  rw [← now]
  exact ⟨(fresh_put ((reads.trans cleared.reads).trans emptied) p rep).arrives, rfl⟩

end

theorem lifecycle_of_held {s : State} {p : Post} {rep : StatusReport} (unit : rep.unit = .unit)
    (verifies : (s.trailer p).verifies = true) (held : (s.trailer p).state = .held) (serial : (s.trailer p).serial = rep.serial) :
    (s.verifyAt p).lifecycle p rep = (Arrival.mk s (s.trailer p).atArrival none false).retryHeld p rep := by
  rw [verifyAt_of_verifies verifies]
  unfold Arrival.lifecycle Arrival.same
  dsimp only
  rw [unit]
  dsimp only
  rw [if_neg (by rw [held]; nofun), if_pos serial, held]

/-! ## A serial that arrives (R33, R34) -/

section
variable {s : State} {l : Line} {bytes : List Byte} {r : Round} {rep : StatusReport} {p : Post}

/-- The record of a serial that has arrived, as the exchange has ended. -/
theorem arrived_exchangeGood (h : s.Hears l bytes r rep) (hp : r.exchange.post = p) (running : s.phase = .running)
    (law : s.GrantLaw) (unit : rep.unit = .unit) {a : Arrival} (step : ((s.hearPost l p).verifyAt p).lifecycle p rep = a)
    (arrives : Arrives p rep s a.s) {u : State} (hu : s.exchangeGood l r rep = u) :
    let t' := u.trailer p
    (t'.serial = rep.serial ∧ t'.model = rep.model ∧ t'.arrival = some s.now ∧ t'.lastStatus = some s.now ∧
      t'.unitAbsent = 0 ∧ t'.r = 0 ∧ t'.lastDefrostEnd = none ∧ t'.inhibit = false ∧ t'.deferral = none) ∧
    ((rep.serial, p) ∈ u.directory ∧ t'.verifies = true) ∧ t'.stands .duplicateUnit = false ∧
    (∀ i pr, s.matching rep.model = some (i, pr) →
      t'.state = .enrolled ∧ t'.profile = some i ∧ t'.f = pr.fth / 2 ∧ t'.mask = pr.mask ||| 0x8000 ∧
      t'.custody = .none ∧ t'.lastEval = some s.now) ∧
    (s.matching rep.model = none →
      t'.state = .arriving ∧ t'.profile = none ∧ t'.f = 0 ∧ t'.mask = 0xFFFF ∧ t'.custody = .none ∧
      t'.lastEval = none ∧ t'.fuel = .start ∧ t'.door = .vacant ∧ t'.run = none ∧
      t'.stands .unknownModel = true) := by
  dsimp only
  have lawful : u.GrantLaw := hu ▸ StepKit.grants.exchangeGood s l r rep law
  have now := arrives.reads.now
  have concludes {state : RecordState} (is : (a.s.trailer p).state = state) (listed : state = .arriving ∨ state = .enrolled)
      (first : state = .enrolled → ∃ pr, a.s.Unevaluated p pr) :
      Concludes p rep a.rebuilt (r.Spares (s.line l)) a.s u := by
    rw [← hu]
    refine concludes_exchangeGood h hp step ?_ (.inl ?_) fun enrolled _ => first (is.symm.trans enrolled)
    all_goals
      rw [is]
      obtain rfl | rfl := listed <;> nofun
  have keeps {state : RecordState} (is : (a.s.trailer p).state = state) (listed : state = .arriving ∨ state = .enrolled)
      (c : Concludes p rep a.rebuilt (r.Spares (s.line l)) a.s u) :
      ((rep.serial, p) ∈ u.directory ∧ (u.trailer p).verifies = true) ∧ (u.trailer p).stands .duplicateUnit = false := by
    refine ⟨⟨c.kept _ arrives.directory (.inl ?_), c.verifies p arrives.verifies⟩,
      (c.stands .duplicateUnit (by decide)).trans arrives.unheld⟩
    dsimp only
    rw [is]
    obtain rfl | rfl := listed <;> nofun
  cases matched : s.matching rep.model with
  | some e =>
    obtain ⟨i, pr⟩ := e
    obtain ⟨rest, unevaluated⟩ := arrives.known i pr matched
    have state : (a.s.trailer p).state = .enrolled := TrailerRecord.field_of_rest rest TrailerRecord.state fun _ => rfl
    have custody : (a.s.trailer p).custody = .none := TrailerRecord.field_of_rest rest TrailerRecord.custody fun _ => rfl
    have c := concludes state (.inr rfl) fun _ => ⟨pr, unevaluated⟩
    obtain ⟨listed, unheld⟩ := keeps state (.inr rfl) c
    have binding := c.binding
    rw [TrailerRecord.field_of_rest rest TrailerRecord.binding fun _ => rfl, now] at binding
    have field {α : Type} (π : TrailerRecord → α) (hπ : ∀ x, π x.binding = π x) := TrailerRecord.field_of_binding binding π hπ
    refine ⟨⟨field TrailerRecord.serial fun _ => rfl, field TrailerRecord.model fun _ => rfl,
      field TrailerRecord.arrival fun _ => rfl, field TrailerRecord.lastStatus fun _ => rfl,
      field TrailerRecord.unitAbsent fun _ => rfl, field TrailerRecord.r fun _ => rfl,
      field TrailerRecord.lastDefrostEnd fun _ => rfl, field TrailerRecord.inhibit fun _ => rfl,
      field TrailerRecord.deferral fun _ => rfl⟩, listed, unheld, fun i' pr' same => ?_, nofun⟩
    cases same
    exact ⟨field TrailerRecord.state fun _ => rfl, field TrailerRecord.profile fun _ => rfl, field TrailerRecord.f fun _ => rfl,
      field TrailerRecord.mask fun _ => rfl, (c.custody (.inl (by rw [custody]; nofun))).trans custody,
      (c.lastEval state unit).trans (by rw [now])⟩
  | none =>
    obtain ⟨rest, stands⟩ := arrives.unknown matched
    have state : (a.s.trailer p).state = .arriving := TrailerRecord.field_of_rest rest TrailerRecord.state fun _ => rfl
    have c := concludes state (.inl rfl) nofun
    obtain ⟨listed, unheld⟩ := keeps state (.inl rfl) c
    have whole := c.unevaluated (.inl (by rw [state]; nofun))
    rw [rest, now] at whole
    have field {α : Type} (π : TrailerRecord → α) (hπ : ∀ x, π x.rest = π x) : π (u.trailer p) = _ :=
      (hπ (u.trailer p)).symm.trans (congrArg π whole)
    have arriving : (u.trailer p).state = .arriving := field TrailerRecord.state fun _ => rfl
    have idle : u.run p = none :=
      TrailerRecord.run_eq_none_iff.mpr (lawful.idle_of_not_enrolled (by rw [arriving]; nofun)).share
    refine ⟨⟨field TrailerRecord.serial fun _ => rfl, field TrailerRecord.model fun _ => rfl,
      field TrailerRecord.arrival fun _ => rfl, field TrailerRecord.lastStatus fun _ => rfl,
      field TrailerRecord.unitAbsent fun _ => rfl, field TrailerRecord.r fun _ => rfl,
      field TrailerRecord.lastDefrostEnd fun _ => rfl, field TrailerRecord.inhibit fun _ => rfl,
      field TrailerRecord.deferral fun _ => rfl⟩, listed, unheld, nofun, fun _ => ?_⟩
    exact ⟨arriving, field TrailerRecord.profile fun _ => rfl, field TrailerRecord.f fun _ => rfl,
      field TrailerRecord.mask fun _ => rfl, field TrailerRecord.custody fun _ => rfl, field TrailerRecord.lastEval fun _ => rfl,
      field TrailerRecord.fuel fun _ => rfl, field TrailerRecord.door fun _ => rfl, idle,
      (c.stands .unknownModel (by decide)).trans (stands (running_of_phase running))⟩

end

/-! ## A serial that stands elsewhere (R35, R37) -/

theorem gone_eq_false_iff (s : State) (o : Post) : s.gone o = false ↔ s.Present o := by
  unfold State.gone State.Present
  simp
  tauto

theorem State.Present.of_others {s b : State} {o : Post} (h : s.Present o) (entry : b.entry o = s.entry o)
    (offRun : (b.trailer o).offRun = (s.trailer o).offRun) : b.Present o := by
  unfold State.Present at h ⊢
  rw [entry, TrailerRecord.field_of_offRun offRun TrailerRecord.state fun _ => rfl]
  exact h

theorem not_restored_of_present {s : State} {o : Post} (h : s.Present o) : (s.trailer o).state ≠ .restored := by
  obtain ⟨-, arriving | enrolled⟩ := h
  · rw [arriving]
    nofun
  · rw [enrolled]
    nofun

/-- A record held for its serial (R37). -/
structure HeldFor (p : Post) (rep : StatusReport) (b t : State) : Prop where
  rest : (t.trailer p).rest = ({ TrailerRecord.fresh rep.serial rep.model b.now with state := .held } : TrailerRecord).rest
  stands : b.running = true → (t.trailer p).stands .duplicateUnit = true
  others : ∀ q, q ≠ p → (t.trailer q).offRun = (b.trailer q).offRun
  directory : t.directory = b.directory
  now : t.now = b.now

theorem holds_hold (b : State) (o p : Post) (rep : StatusReport) : HeldFor p rep b (b.hold o p rep) := by
  have self := State.trailer_putTrailer_self b p { TrailerRecord.fresh rep.serial rep.model b.now with state := .held }
  have other (q : Post) (hq : q ≠ p) := State.trailer_putTrailer_other b p q
    { TrailerRecord.fresh rep.serial rep.model b.now with state := .held } hq
  have running : (b.putTrailer p { TrailerRecord.fresh rep.serial rep.model b.now with state := .held }).running = b.running := rfl
  have directory : (b.putTrailer p { TrailerRecord.fresh rep.serial rep.model b.now with state := .held }).directory = b.directory :=
    rfl
  have now : (b.putTrailer p { TrailerRecord.fresh rep.serial rep.model b.now with state := .held }).now = b.now := rfl
  unfold State.hold
  generalize b.putTrailer p { TrailerRecord.fresh rep.serial rep.model b.now with state := .held } = w at *
  have produced := leaves_produce w p .duplicateUnit o.val 0
  refine ⟨produced.rest.trans (by rw [self]; rfl), fun on => (stands_produce w p .duplicateUnit _ 0).2 (running.trans on),
    fun q hq => (produced.others q hq).trans (by rw [other q hq]), produced.directory.trans directory, produced.now.trans now⟩

theorem retryHeld_of_present {b : State} {p o : Post} {rep : StatusReport} (found : b.dirLookup rep.serial = some o)
    (present : b.Present o) (before : AtArrival) :
    (Arrival.mk b before none false).retryHeld p rep = Arrival.mk b before none false := by
  unfold Arrival.retryHeld
  dsimp only
  rw [found]
  dsimp only
  rw [(gone_eq_false_iff b o).mpr present]
  rfl

section
variable {s : State} {l : Line} {bytes : List Byte} {r : Round} {rep : StatusReport} {p : Post}

/-- A serial whose trailer stands at another post makes the record HELD (R37). -/
theorem held_exchangeGood (h : s.Hears l bytes r rep) (hp : r.exchange.post = p) (running : s.phase = .running)
    (law : s.GrantLaw) (unit : rep.unit = .unit) {owner : Post}
    (takes : (s.trailer p).state = .vacant ∨ ((s.trailer p).verifies = true ∧ (s.trailer p).serial ≠ rep.serial))
    (lookup : s.dirLookup rep.serial = some owner) (apart : owner ≠ p) (present : s.Present owner) {u : State}
    (hu : s.exchangeGood l r rep = u) :
    let t' := u.trailer p
    (t'.serial = rep.serial ∧ t'.model = rep.model ∧ t'.arrival = some s.now ∧ t'.lastStatus = some s.now ∧
      t'.unitAbsent = 0 ∧ t'.r = 0 ∧ t'.lastDefrostEnd = none ∧ t'.inhibit = false ∧ t'.deferral = none) ∧
    t'.state = .held ∧ t'.profile = none ∧ t'.f = 0 ∧ t'.custody = .none ∧ t'.lastEval = none ∧
    t'.run = none ∧ t'.stands .duplicateUnit = true ∧ (rep.serial, owner) ∈ u.directory ∧
    (u.trailer owner).state = (s.trailer owner).state ∧ (u.trailer owner).serial = (s.trailer owner).serial := by
  dsimp only
  have lawful : u.GrantLaw := hu ▸ StepKit.grants.exchangeGood s l r rep law
  have heard := leaves_hearPost s l p
  have takes : ((s.hearPost l p).trailer p).state = .vacant ∨
      (((s.hearPost l p).trailer p).verifies = true ∧ ((s.hearPost l p).trailer p).serial ≠ rep.serial) := by
    rw [heard.field TrailerRecord.state fun _ => rfl, heard.field TrailerRecord.serial fun _ => rfl]
    exact takes.imp_right fun both => ⟨LineKit.verifies.hearPost s l p p both.1, both.2⟩
  obtain ⟨b, before, reached, -, step⟩ := lifecycle_of_takes unit takes
  have reaches := (reaches_hearPost s l p).trans reached
  have found : b.dirLookup rep.serial = some owner :=
    (reaches.lookup rep.serial (by rw [lookup]; exact fun e => apart (Option.some.inj e))).trans lookup
  have stays : b.Present owner := present.of_others (reaches.entry owner apart) (reaches.others owner apart)
  have arrives : (Arrival.mk b before none false).arrive p rep = Arrival.mk (b.hold owner p rep) before none false := by
    unfold Arrival.arrive Arrival.on
    dsimp only
    rw [found]
    dsimp only
    rw [(gone_eq_false_iff b owner).mpr stays]
    rfl
  rw [arrives] at step
  have holds := holds_hold b owner p rep
  have now : b.now = s.now := reaches.reads.now
  have state : ((b.hold owner p rep).trailer p).state = .held := TrailerRecord.field_of_rest holds.rest TrailerRecord.state fun _ => rfl
  have c := concludes_exchangeGood h hp step (by rw [state]; nofun) (.inl (by rw [state]; nofun))
    fun enrolled _ => absurd (state.symm.trans enrolled) nofun
  rw [hu] at c
  dsimp only at c state
  generalize b.hold owner p rep = t at *
  have whole := c.unevaluated (.inl (by rw [state]; nofun))
  rw [holds.rest, holds.now, now] at whole
  have field {α : Type} (π : TrailerRecord → α) (hπ : ∀ x, π x.rest = π x) : π (u.trailer p) = _ :=
    (hπ (u.trailer p)).symm.trans (congrArg π whole)
  have held : (u.trailer p).state = .held := field TrailerRecord.state fun _ => rfl
  have idle : u.run p = none := TrailerRecord.run_eq_none_iff.mpr (lawful.idle_of_not_enrolled (by rw [held]; nofun)).share
  have owned := (holds.others owner apart).trans (reaches.others owner apart)
  have unrestored : (t.trailer owner).state ≠ .restored := by
    rw [TrailerRecord.field_of_offRun owned TrailerRecord.state fun _ => rfl]
    exact not_restored_of_present present
  have ended := (c.others owner apart (.inl unrestored)).trans owned
  refine ⟨⟨field TrailerRecord.serial fun _ => rfl, field TrailerRecord.model fun _ => rfl,
    field TrailerRecord.arrival fun _ => rfl, field TrailerRecord.lastStatus fun _ => rfl,
    field TrailerRecord.unitAbsent fun _ => rfl, field TrailerRecord.r fun _ => rfl,
    field TrailerRecord.lastDefrostEnd fun _ => rfl, field TrailerRecord.inhibit fun _ => rfl,
    field TrailerRecord.deferral fun _ => rfl⟩, held, field TrailerRecord.profile fun _ => rfl,
    field TrailerRecord.f fun _ => rfl, field TrailerRecord.custody fun _ => rfl, field TrailerRecord.lastEval fun _ => rfl, idle, ?_, ?_,
    TrailerRecord.field_of_offRun ended TrailerRecord.state fun _ => rfl,
    TrailerRecord.field_of_offRun ended TrailerRecord.serial fun _ => rfl⟩
  · refine (c.stands .duplicateUnit (by decide)).trans (holds.stands ?_)
    unfold State.running
    rw [reaches.reads.phase]
    exact running_of_phase running
  · exact c.kept (rep.serial, owner) (holds.directory ▸ State.mem_of_dirLookup found) (.inl unrestored)

/-- A HELD record whose serial still stands at its owner stays (R37). -/
theorem stillHeld_exchangeGood (h : s.Hears l bytes r rep) (hp : r.exchange.post = p) (unit : rep.unit = .unit)
    (verifies : (s.trailer p).verifies = true) (held : (s.trailer p).state = .held) (serial : (s.trailer p).serial = rep.serial)
    {owner : Post} (lookup : s.dirLookup rep.serial = some owner) (apart : owner ≠ p) (present : s.Present owner) {u : State}
    (hu : s.exchangeGood l r rep = u) :
    let t := s.trailer p
    let t' := u.trailer p
    t'.state = .held ∧ t'.serial = t.serial ∧ t'.arrival = t.arrival ∧ t'.lastStatus = some s.now ∧
    t'.stands .duplicateUnit = t.stands .duplicateUnit ∧ (rep.serial, owner) ∈ u.directory := by
  dsimp only
  have heard := leaves_hearPost s l p
  have reaches := reaches_hearPost s l p
  have verified : ((s.hearPost l p).trailer p).verifies = true := LineKit.verifies.hearPost s l p p verifies
  have state := (heard.field TrailerRecord.state fun _ => rfl).trans held
  have step := lifecycle_of_held unit verified state ((heard.field TrailerRecord.serial fun _ => rfl).trans serial)
  have found : (s.hearPost l p).dirLookup rep.serial = some owner :=
    (reaches.lookup rep.serial (by rw [lookup]; exact fun e => apart (Option.some.inj e))).trans lookup
  have stays : (s.hearPost l p).Present owner := present.of_others (reaches.entry owner apart) (reaches.others owner apart)
  rw [retryHeld_of_present found stays] at step
  have unowned := not_restored_of_present stays
  have c := concludes_exchangeGood h hp step (by dsimp only; rw [state]; nofun) (.inl (by dsimp only; rw [state]; nofun))
    fun enrolled _ => absurd (state.symm.trans enrolled) nofun
  rw [hu] at c
  dsimp only at c
  have whole := c.unevaluated (.inl (by rw [state]; nofun))
  rw [heard.rest, reaches.reads.now] at whole
  have field {α : Type} (π : TrailerRecord → α) (hπ : ∀ x, π x.rest = π x) : π (u.trailer p) = _ :=
    (hπ (u.trailer p)).symm.trans (congrArg π whole)
  exact ⟨(field TrailerRecord.state fun _ => rfl).trans held, field TrailerRecord.serial fun _ => rfl,
    field TrailerRecord.arrival fun _ => rfl, field TrailerRecord.lastStatus fun _ => rfl,
    (c.stands .duplicateUnit (by decide)).trans (heard.stands (by decide)),
    c.kept (rep.serial, owner) (State.mem_of_dirLookup found) (.inl unowned)⟩

end

end Sys2Proof.Machine


/-! # A GOOD status of an ARRIVING unit, and of a record that does not verify (O41) -/

namespace Sys2Proof.Machine

/-- The model that an ARRIVING record holds after a status (R39). -/
def TrailerRecord.reported (t : TrailerRecord) (m : Word16) : TrailerRecord := { t with model := if m = 0 then t.model else m }

theorem lifecycle_of_arriving {s : State} {p : Post} {rep : StatusReport} (unit : rep.unit = .unit)
    (verifies : (s.trailer p).verifies = true) (arriving : (s.trailer p).state = .arriving)
    (serial : (s.trailer p).serial = rep.serial) :
    (s.verifyAt p).lifecycle p rep
      = Arrival.mk ((s.editTrailer p fun t => t.reported rep.model).tryMatch p false) (s.trailer p).atArrival none false := by
  rw [verifyAt_of_verifies verifies]
  unfold Arrival.lifecycle Arrival.same
  dsimp only
  rw [unit]
  dsimp only
  rw [if_neg (by rw [arriving]; nofun), if_pos serial, arriving]
  rfl

section
variable {s : State} {l : Line} {bytes : List Byte} {r : Round} {rep : StatusReport} {p : Post}

/-- An ARRIVING record takes the reported model and is matched again (R39). -/
theorem arriving_exchangeGood (h : s.Hears l bytes r rep) (hp : r.exchange.post = p) (running : s.phase = .running)
    (law : s.GrantLaw) (unit : rep.unit = .unit) (verifies : (s.trailer p).verifies = true)
    (arriving : (s.trailer p).state = .arriving) (serial : (s.trailer p).serial = rep.serial) {u : State}
    (hu : s.exchangeGood l r rep = u) :
    let t := s.trailer p
    let t' := u.trailer p
    let model := if rep.model = 0 then t.model else rep.model
    t'.serial = t.serial ∧ t'.model = model ∧ t'.arrival = t.arrival ∧ t'.lastStatus = some s.now ∧
    t'.inhibit = t.inhibit ∧ t'.deferral = t.deferral ∧ t'.verifies = true ∧
    ((rep.serial, p) ∈ s.directory → (rep.serial, p) ∈ u.directory) ∧
    (∀ i pr, s.matching model = some (i, pr) →
      t'.state = .enrolled ∧ t'.profile = some i ∧ t'.f = pr.fth / 2 ∧ t'.r = 0 ∧ t'.mask = pr.mask ||| 0x8000 ∧
      t'.custody = .none ∧ t'.lastDefrostEnd = none ∧ t'.lastEval = some s.now ∧
      (t.InOneSet .unknownModel → t'.stands .unknownModel = false)) ∧
    (s.matching model = none →
      t'.state = .arriving ∧ t'.profile = t.profile ∧ t'.f = t.f ∧ t'.r = t.r ∧ t'.mask = t.mask ∧
      t'.custody = t.custody ∧ t'.door = t.door ∧ t'.fuel = t.fuel ∧ t'.run = none ∧ t'.lastEval = t.lastEval ∧
      t'.stands .unknownModel = true) := by
  dsimp only
  have lawful : u.GrantLaw := hu ▸ StepKit.grants.exchangeGood s l r rep law
  have heard := leaves_hearPost s l p
  have verified : ((s.hearPost l p).trailer p).verifies = true := LineKit.verifies.hearPost s l p p verifies
  have atRest : ((s.hearPost l p).trailer p).state = .arriving := (heard.field TrailerRecord.state fun _ => rfl).trans arriving
  have step := lifecycle_of_arriving unit verified atRest ((heard.field TrailerRecord.serial fun _ => rfl).trans serial)
  have idle : (s.hearPost l p).run p = none :=
    TrailerRecord.run_eq_none_iff.mpr ((StepKit.grants.lines.hearPost s l p law).idle_of_not_enrolled (by rw [atRest]; nofun)).share
  have edited := leaves_edit (s.hearPost l p) p (fun t => t.reported rep.model) rfl rfl
  have editedRun : ((s.hearPost l p).editTrailer p fun t => t.reported rep.model).run p = none :=
    (State.field_editTrailer_self (s.hearPost l p) p (fun t => t.reported rep.model) TrailerRecord.run fun _ => rfl).trans idle
  have editedVerifies : (((s.hearPost l p).editTrailer p fun t => t.reported rep.model).trailer p).verifies = true :=
    TableKit.verifies.toPutKit.edit (s.hearPost l p) p (fun t => t.reported rep.model) id p verified
  have whole := heard.trans edited
  have record : (((s.hearPost l p).editTrailer p fun t => t.reported rep.model).trailer p).rest = ((s.trailer p).reported rep.model).rest := by
    rw [edited.rest]
    have same := congrArg (fun x : TrailerRecord => (x.reported rep.model).rest) heard.rest
    exact same
  clear heard verified atRest idle edited
  generalize (s.hearPost l p).editTrailer p (fun t => t.reported rep.model) = w at *
  have model : (w.trailer p).model = if rep.model = 0 then (s.trailer p).model else rep.model :=
    TrailerRecord.field_of_rest record TrailerRecord.model fun _ => rfl
  have held : ((s.trailer p).reported rep.model).model = (w.trailer p).model :=
    (TrailerRecord.field_of_rest record TrailerRecord.model fun _ => rfl).symm
  rw [model] at held
  have tried := leaves_tryMatch w p false
  have now : (w.tryMatch p false).now = s.now := tried.now.trans whole.now
  have matching := matching_of_reads whole.reads (w.trailer p).model
  rw [model] at matching
  generalize (if rep.model = 0 then (s.trailer p).model else rep.model) = m at *
  have verified : ((w.tryMatch p false).trailer p).verifies = true := TableKit.verifies.tryMatch w p false p editedVerifies
  have concludes {state : RecordState} (is : ((w.tryMatch p false).trailer p).state = state)
      (listed : state = .arriving ∨ state = .enrolled) (first : state = .enrolled → ∃ pr, (w.tryMatch p false).Unevaluated p pr) :
      Concludes p rep none (r.Spares (s.line l)) (w.tryMatch p false) u := by
    rw [← hu]
    refine concludes_exchangeGood h hp step ?_ (.inl ?_) fun enrolled _ => first (is.symm.trans enrolled)
    all_goals
      dsimp only
      rw [is]
      obtain rfl | rfl := listed <;> nofun
  have keeps {state : RecordState} (is : ((w.tryMatch p false).trailer p).state = state)
      (listed : state = .arriving ∨ state = .enrolled) (c : Concludes p rep none (r.Spares (s.line l)) (w.tryMatch p false) u)
      (entry : (rep.serial, p) ∈ s.directory) : (rep.serial, p) ∈ u.directory := by
    refine c.kept _ ?_ (.inl ?_)
    · rw [tried.directory, whole.directory]
      exact entry
    · dsimp only
      rw [is]
      obtain rfl | rfl := listed <;> nofun
  cases matched : s.matching m with
  | some e =>
    obtain ⟨i, pr⟩ := e
    have enrols := enrols_tryMatch editedRun (by rw [model, matching]; exact matched)
    have rest : ((w.tryMatch p false).trailer p).rest = (((s.trailer p).reported rep.model).enrolled i pr).rest := by
      rw [enrols.leaves.rest]
      have same := congrArg (fun x : TrailerRecord => (x.enrolled i pr).rest) record
      exact same
    have state : ((w.tryMatch p false).trailer p).state = .enrolled := TrailerRecord.field_of_rest rest TrailerRecord.state fun _ => rfl
    have custody : ((w.tryMatch p false).trailer p).custody = .none :=
      TrailerRecord.field_of_rest rest TrailerRecord.custody fun _ => rfl
    have c := concludes state (.inr rfl) fun _ => ⟨pr, enrols.unevaluated⟩
    have binding := c.binding
    rw [TrailerRecord.field_of_rest rest TrailerRecord.binding fun _ => rfl, now] at binding
    have field {α : Type} (π : TrailerRecord → α) (hπ : ∀ x, π x.binding = π x) := TrailerRecord.field_of_binding binding π hπ
    refine ⟨field TrailerRecord.serial fun _ => rfl, ?_,
      field TrailerRecord.arrival fun _ => rfl, field TrailerRecord.lastStatus fun _ => rfl,
      field TrailerRecord.inhibit fun _ => rfl, field TrailerRecord.deferral fun _ => rfl, c.verifies p verified,
      keeps state (.inr rfl) c, fun i' pr' same => ?_, nofun⟩
    · exact (field TrailerRecord.model fun _ => rfl).trans held
    · cases same
      refine ⟨field TrailerRecord.state fun _ => rfl, field TrailerRecord.profile fun _ => rfl, field TrailerRecord.f fun _ => rfl,
        field TrailerRecord.r fun _ => rfl, field TrailerRecord.mask fun _ => rfl,
        (c.custody (.inl (by rw [custody]; nofun))).trans custody, field TrailerRecord.lastDefrostEnd fun _ => rfl,
        (c.lastEval state unit).trans (by rw [now]), fun one => ?_⟩
      exact (c.stands .unknownModel (by decide)).trans (enrols.clears (whole.inOneSet (by decide) one))
  | none =>
    have vain := tryMatch_of_none (w := w) (p := p) (by rw [model, matching]; exact matched) false
    have produced := leaves_produce w p .unknownModel (w.trailer p).model.toNat 0
    rw [← vain] at produced
    have rest : ((w.tryMatch p false).trailer p).rest = ((s.trailer p).reported rep.model).rest := produced.rest.trans record
    have stands : ((w.tryMatch p false).trailer p).stands .unknownModel = true := by
      rw [vain]
      exact (stands_produce w p .unknownModel _ 0).2 (whole.running.trans (running_of_phase running))
    have state : ((w.tryMatch p false).trailer p).state = .arriving :=
      (TrailerRecord.field_of_rest rest TrailerRecord.state fun _ => rfl).trans arriving
    have c := concludes state (.inl rfl) nofun
    have ended := c.unevaluated (.inl (by rw [state]; nofun))
    rw [rest, now] at ended
    have field {α : Type} (π : TrailerRecord → α) (hπ : ∀ x, π x.rest = π x) : π (u.trailer p) = _ :=
      (hπ (u.trailer p)).symm.trans (congrArg π ended)
    have still : (u.trailer p).state = .arriving := (field TrailerRecord.state fun _ => rfl).trans arriving
    have idle : u.run p = none :=
      TrailerRecord.run_eq_none_iff.mpr (lawful.idle_of_not_enrolled (by rw [still]; nofun)).share
    refine ⟨field TrailerRecord.serial fun _ => rfl, ?_, field TrailerRecord.arrival fun _ => rfl,
      field TrailerRecord.lastStatus fun _ => rfl, field TrailerRecord.inhibit fun _ => rfl,
      field TrailerRecord.deferral fun _ => rfl, c.verifies p verified, keeps state (.inl rfl) c, nofun, fun _ => ?_⟩
    · exact (field TrailerRecord.model fun _ => rfl).trans held
    · exact ⟨still, field TrailerRecord.profile fun _ => rfl, field TrailerRecord.f fun _ => rfl, field TrailerRecord.r fun _ => rfl,
        field TrailerRecord.mask fun _ => rfl, field TrailerRecord.custody fun _ => rfl, field TrailerRecord.door fun _ => rfl,
        field TrailerRecord.fuel fun _ => rfl, idle, field TrailerRecord.lastEval fun _ => rfl,
        (c.stands .unknownModel (by decide)).trans stands⟩

end

/-! ## A record that does not verify (R28) -/

/-- What the rebuild of a serial leaves at the post. -/
structure Rebuilds (p : Post) (rep : StatusReport) (s t : State) : Prop where
  reads : SameReads s t
  directory : (rep.serial, p) ∈ t.directory
  verifies : (t.trailer p).verifies = true
  last : t.RebuiltNow
  known : ∀ i pr, s.matching rep.model = some (i, pr) →
    (t.trailer p).rest = (TrailerRecord.rebuilt rep.serial rep.model s.now (some (i, pr))).rest ∧ t.Unevaluated p pr
  unknown : s.matching rep.model = none →
    (t.trailer p).rest = (TrailerRecord.rebuilt rep.serial rep.model s.now none).rest ∧
    (s.running = true → (t.trailer p).stands .unknownModel = true)

theorem rebuilds_arriveRebuilt {s b : State} (reads : SameReads s b) (now : b.RebuiltNow) (p : Post) (rep : StatusReport) :
    Rebuilds p rep s (b.arriveRebuilt p rep) := by
  have record := State.trailer_putTrailer_self b p (.rebuilt rep.serial rep.model b.now (b.matching rep.model))
  have put : SameReads b ((b.putTrailer p (.rebuilt rep.serial rep.model b.now (b.matching rep.model))).dirInsert rep.serial p) :=
    ⟨rfl, rfl, rfl, rfl⟩
  have listed : (rep.serial, p)
      ∈ ((b.putTrailer p (.rebuilt rep.serial rep.model b.now (b.matching rep.model))).dirInsert rep.serial p).directory :=
    mem_insertEntry.mpr (.inl rfl)
  have last : ((b.putTrailer p (.rebuilt rep.serial rep.model b.now (b.matching rep.model))).dirInsert rep.serial p).RebuiltNow :=
    now.of_same rfl rfl
  replace record : ((b.putTrailer p (.rebuilt rep.serial rep.model b.now (b.matching rep.model))).dirInsert rep.serial p).trailer p
      = (TrailerRecord.rebuilt rep.serial rep.model b.now (b.matching rep.model)).sealed := record
  unfold State.arriveRebuilt
  dsimp only
  generalize (b.putTrailer p (.rebuilt rep.serial rep.model b.now (b.matching rep.model))).dirInsert rep.serial p = w at *
  rw [matching_of_reads reads, reads.now] at record
  rw [matching_of_reads reads]
  cases matched : s.matching rep.model with
  | some e =>
    obtain ⟨i, pr⟩ := e
    rw [matched] at record
    dsimp only [Option.isNone]
    rw [if_neg nofun]
    refine ⟨reads.trans put, listed, by rw [record]; rfl, last, fun i' pr' found => ?_,
      fun no => absurd (matched.symm.trans no) nofun⟩
    cases matched.symm.trans found
    refine ⟨by rw [record]; rfl, ?_, by rw [record]; rfl, ?_⟩
    · unfold State.run
      rw [record]
      rfl
    · exact profileOf_of_matching (reads.trans put) matched (by rw [record]; rfl)
  | none =>
    rw [matched] at record
    dsimp only [Option.isNone]
    rw [if_pos rfl]
    have produced := leaves_produce w p .unknownModel rep.model.toNat 0
    refine ⟨(reads.trans put).trans produced.reads, produced.directory ▸ listed, ?_, last.of_framed fun f => f.produce w p _ _ _,
      fun i pr found => absurd (matched.symm.trans found) nofun, fun _ => ⟨produced.rest.trans (by rw [record]; rfl), fun on => ?_⟩⟩
    · refine TableKit.verifies.kit.produce w (p := p) trivial .unknownModel _ 0 p ?_
      rw [record]
      rfl
    · refine (stands_produce w p .unknownModel _ 0).2 ?_
      unfold State.running at on ⊢
      rw [(reads.trans put).phase]
      exact on

theorem reads_rebuildAway (s : State) (p : Post) : SameReads s (s.rebuildAway p) := by
  have cut : SameReads s ((s.cutShort p .rebuild).dirRemove p) :=
    (SameReads.of_framed fun f => f.cutShort s p .rebuild).trans ⟨rfl, rfl, rfl, rfl⟩
  unfold State.rebuildAway
  generalize (s.cutShort p .rebuild).dirRemove p = w at *
  have emptied := cut.trans (.of_framed fun f => f.emptySets w p)
  generalize w.emptySets p = v at *
  have put : SameReads v (v.putTrailer p .vacant) := ⟨rfl, rfl, rfl, rfl⟩
  exact (emptied.trans put).trans (reads_recordRebuild _)

theorem rebuiltNow_rebuildAway (s : State) (p : Post) : (s.rebuildAway p).RebuiltNow := rebuiltNow_recordRebuild _

theorem lifecycle_of_unverified {s : State} {p : Post} {rep : StatusReport} (unit : rep.unit = .unit)
    (broken : (s.trailer p).verifies = false) (present : (s.trailer p).state ≠ .vacant)
    (lookup : (s.rebuildAway p).dirLookup rep.serial = none) :
    (s.verifyAt p).lifecycle p rep = Arrival.mk ((s.rebuildAway p).arriveRebuilt p rep) TrailerRecord.vacant.atArrival
      (some (s.rebuildAway p).rebuilds.length) (s.trailer p).run.isSome := by
  have vacant := (vacated_rebuildAway s p).vacant
  have verified : s.verifyAt p = Arrival.mk (s.rebuildAway p) TrailerRecord.vacant.atArrival
      (some (s.rebuildAway p).rebuilds.length) (s.trailer p).run.isSome := by
    unfold State.verifyAt
    dsimp only
    rw [if_neg (by rw [broken]; nofun), if_neg present]
  rw [verified]
  generalize s.rebuildAway p = w at *
  unfold Arrival.lifecycle Arrival.arrive Arrival.on
  dsimp only
  rw [unit]
  dsimp only
  rw [if_pos vacant, lookup]
  rfl

section
variable {s : State} {l : Line} {bytes : List Byte} {r : Round} {rep : StatusReport} {p : Post}

/-- The record of a serial that has been rebuilt, as the exchange has ended (R28, R36). -/
theorem rebuilt_exchangeGood (h : s.Hears l bytes r rep) (hp : r.exchange.post = p) (unit : rep.unit = .unit) {a : Arrival}
    (step : ((s.hearPost l p).verifyAt p).lifecycle p rep = a) (rebuilds : Rebuilds p rep s a.s) (counted : a.rebuilt.isSome = true)
    {u : State} (hu : s.exchangeGood l r rep = u) :
    let t' := u.trailer p
    (t'.serial = rep.serial ∧ t'.model = rep.model ∧ t'.arrival = some s.now ∧ t'.lastStatus = some s.now ∧
      t'.unitAbsent = 0 ∧ t'.r = 0 ∧ t'.lastDefrostEnd = none ∧ t'.inhibit = false ∧ t'.deferral = none) ∧
    ((rep.serial, p) ∈ u.directory ∧ t'.verifies = true) ∧ t'.custody = .unknown ∧
    (s.phase = .running → t'.stands .recordRebuilt = true) ∧ u.rebuilds.getLast? = some s.now ∧
    (∀ i pr, s.matching rep.model = some (i, pr) →
      t'.state = .enrolled ∧ t'.profile = some i ∧ t'.f = pr.fth ∧ t'.mask = pr.mask ||| 0x8000 ∧ t'.lastEval = some s.now) ∧
    (s.matching rep.model = none →
      t'.state = .arriving ∧ t'.profile = none ∧ t'.f = 0 ∧ t'.mask = 0xFFFF ∧ t'.lastEval = none ∧
      (s.phase = .running → t'.stands .unknownModel = true)) := by
  dsimp only
  have now := rebuilds.reads.now
  have framed : u.now = s.now := by
    have world := world_exchangeGood h
    rw [hu] at world
    unfold State.now
    rw [world.runCounter]
  have concludes {state : RecordState} (is : (a.s.trailer p).state = state) (listed : state = .arriving ∨ state = .enrolled)
      (first : state = .enrolled → ∃ pr, a.s.Unevaluated p pr) :
      Concludes p rep a.rebuilt (r.Spares (s.line l)) a.s u := by
    rw [← hu]
    refine concludes_exchangeGood h hp step ?_ (.inl ?_) fun enrolled _ => first (is.symm.trans enrolled)
    all_goals
      rw [is]
      obtain rfl | rfl := listed <;> nofun
  have raises (c : Concludes p rep a.rebuilt (r.Spares (s.line l)) a.s u) (running : s.phase = .running) :
      (u.trailer p).stands .recordRebuilt = true := by
    refine c.raises counted ?_
    unfold State.running
    rw [rebuilds.reads.phase]
    exact running_of_phase running
  have last (c : Concludes p rep a.rebuilt (r.Spares (s.line l)) a.s u) : u.rebuilds.getLast? = some s.now := by
    have recorded := c.last rebuilds.last
    unfold State.RebuiltNow at recorded
    rw [recorded, framed]
  cases matched : s.matching rep.model with
  | some e =>
    obtain ⟨i, pr⟩ := e
    obtain ⟨rest, unevaluated⟩ := rebuilds.known i pr matched
    have state : (a.s.trailer p).state = .enrolled := TrailerRecord.field_of_rest rest TrailerRecord.state fun _ => rfl
    have custody : (a.s.trailer p).custody = .unknown := TrailerRecord.field_of_rest rest TrailerRecord.custody fun _ => rfl
    have c := concludes state (.inr rfl) fun _ => ⟨pr, unevaluated⟩
    have binding := c.binding
    rw [TrailerRecord.field_of_rest rest TrailerRecord.binding fun _ => rfl, now] at binding
    have field {α : Type} (π : TrailerRecord → α) (hπ : ∀ x, π x.binding = π x) := TrailerRecord.field_of_binding binding π hπ
    refine ⟨⟨field TrailerRecord.serial fun _ => rfl, field TrailerRecord.model fun _ => rfl,
      field TrailerRecord.arrival fun _ => rfl, field TrailerRecord.lastStatus fun _ => rfl,
      field TrailerRecord.unitAbsent fun _ => rfl, field TrailerRecord.r fun _ => rfl,
      field TrailerRecord.lastDefrostEnd fun _ => rfl, field TrailerRecord.inhibit fun _ => rfl,
      field TrailerRecord.deferral fun _ => rfl⟩, ⟨c.kept _ rebuilds.directory (.inl (by dsimp only; rw [state]; nofun)),
      c.verifies p rebuilds.verifies⟩, (c.custody (.inl (by rw [custody]; nofun))).trans custody, raises c, last c,
      fun i' pr' same => ?_, nofun⟩
    cases same
    exact ⟨field TrailerRecord.state fun _ => rfl, field TrailerRecord.profile fun _ => rfl, field TrailerRecord.f fun _ => rfl,
      field TrailerRecord.mask fun _ => rfl, (c.lastEval state unit).trans (by rw [now])⟩
  | none =>
    obtain ⟨rest, stands⟩ := rebuilds.unknown matched
    have state : (a.s.trailer p).state = .arriving := TrailerRecord.field_of_rest rest TrailerRecord.state fun _ => rfl
    have c := concludes state (.inl rfl) nofun
    have whole := c.unevaluated (.inl (by rw [state]; nofun))
    rw [rest, now] at whole
    have field {α : Type} (π : TrailerRecord → α) (hπ : ∀ x, π x.rest = π x) : π (u.trailer p) = _ :=
      (hπ (u.trailer p)).symm.trans (congrArg π whole)
    refine ⟨⟨field TrailerRecord.serial fun _ => rfl, field TrailerRecord.model fun _ => rfl,
      field TrailerRecord.arrival fun _ => rfl, field TrailerRecord.lastStatus fun _ => rfl,
      field TrailerRecord.unitAbsent fun _ => rfl, field TrailerRecord.r fun _ => rfl,
      field TrailerRecord.lastDefrostEnd fun _ => rfl, field TrailerRecord.inhibit fun _ => rfl,
      field TrailerRecord.deferral fun _ => rfl⟩, ⟨c.kept _ rebuilds.directory (.inl (by dsimp only; rw [state]; nofun)),
      c.verifies p rebuilds.verifies⟩, field TrailerRecord.custody fun _ => rfl, raises c, last c, nofun, fun _ => ?_⟩
    exact ⟨field TrailerRecord.state fun _ => rfl, field TrailerRecord.profile fun _ => rfl, field TrailerRecord.f fun _ => rfl,
      field TrailerRecord.mask fun _ => rfl, field TrailerRecord.lastEval fun _ => rfl, fun running =>
      (c.stands .unknownModel (by decide)).trans (stands (running_of_phase running))⟩

/-- A record that does not verify is rebuilt from the status (R28). -/
theorem lifecycle_of_broken (unit : rep.unit = .unit) (l : Line)
    (broken : (s.trailer p).verifies = false) (present : (s.trailer p).state ≠ .vacant)
    (here : (s.entry p).map (·.state) ≠ some .lost) (linked : (s.trailer p).stands .linkLost = false)
    (sole : ∀ e ∈ s.directory, e.1 = rep.serial → e.2 = p) :
    ∃ a, ((s.hearPost l p).verifyAt p).lifecycle p rep = a ∧ Rebuilds p rep s a.s ∧ a.rebuilt.isSome = true := by
  have heard := leaves_hearPost s l p
  have record := trailer_hearPost_of_present here linked l
  rw [← record] at broken present
  rw [← heard.directory] at sole
  refine ⟨_, lifecycle_of_unverified unit broken present (State.dirLookup_eq_none fun e he same => ?_), ?_, rfl⟩
  · rw [(vacated_rebuildAway _ p).directory] at he
    obtain ⟨mem, away⟩ := List.mem_filter.mp he
    exact of_decide_eq_true away (sole e mem same)
  · exact rebuilds_arriveRebuilt (heard.reads.trans (reads_rebuildAway _ p)) (rebuiltNow_rebuildAway _ p) p rep

end

/-! ## The statement -/

/-- Settles O41, clause by clause of what the lifecycle step finds at the post, from what a GOOD exchange leaves of what that
step has made. -/
theorem statusArrivesOrHolds : Obligations.StatusArrivesOrHolds := by
  intro l bytes s r rep
  dsimp only
  intro h unit running law
  refine ⟨_, h.exec, ?_⟩
  generalize hp : r.exchange.post = p
  have heard := leaves_hearPost s l p
  have reached := reaches_hearPost s l p
  have serial := heard.field TrailerRecord.serial fun _ => rfl
  have state := heard.field TrailerRecord.state fun _ => rfl
  have verifies := LineKit.verifies.hearPost s l p p
  refine ⟨fun comes lookup => ?_, fun owner takes lookup apart present =>
    held_exchangeGood h hp running law unit takes lookup apart present rfl, fun owner retries lookup apart present => ?_,
    fun verified arriving same => arriving_exchangeGood h hp running law unit verified arriving same rfl,
    fun broken present here linked sole => ?_⟩
  · have absent {b : State} (reaches : Reaches p s b) : b.dirLookup rep.serial = none :=
      (reaches.lookup rep.serial (by rw [lookup]; nofun)).trans lookup
    obtain takes | ⟨verified, held, same⟩ := comes
    · rw [← state, ← serial] at takes
      obtain ⟨b, before, arriving, -, step⟩ := lifecycle_of_takes unit (takes.imp_right fun both => ⟨verifies both.1, both.2⟩)
      have reaches := reached.trans arriving
      obtain ⟨a, arrived, arrives, -⟩ := arrive_of_unknown reaches.reads (absent reaches) before
      exact arrived_exchangeGood h hp running law unit (step.trans arrived) arrives rfl
    · have step := lifecycle_of_held unit (verifies verified) (state.trans held) (serial.trans same)
      obtain ⟨a, retried, arrives, -⟩ := retryHeld_of_unknown reached.reads (absent reached) ((s.hearPost l p).trailer p).atArrival
      exact arrived_exchangeGood h hp running law unit (step.trans retried) arrives rfl
  · obtain ⟨verified, held, same⟩ := retries
    exact stillHeld_exchangeGood h hp unit verified held same lookup apart present rfl
  · obtain ⟨a, step, rebuilds, counted⟩ := lifecycle_of_broken unit l broken present here linked sole
    obtain ⟨arrived, listed, custody, rebuilt, last, known, unknown⟩ := rebuilt_exchangeGood h hp unit step rebuilds counted rfl
    refine ⟨arrived, listed, custody, rebuilt running, last, known, fun none => ?_⟩
    obtain ⟨arriving, profile, f, mask, lastEval, stands⟩ := unknown none
    exact ⟨arriving, profile, f, mask, lastEval, stands running⟩

end Sys2Proof.Machine


/-! # A GOOD status that departs a record or counts an absent unit (O42) -/

namespace Sys2Proof.Machine

/-! ## A record that has gone stays gone -/

section
variable {s t : State} {q : Post} (h : s.Gone q)
include h

theorem State.Gone.idle : s.run q = none := by
  unfold State.run
  rw [h.vacant]
  rfl

theorem State.Gone.of_apart (apart : StandsApart q s t) (known : ∀ e ∈ t.directory, e ∈ s.directory) : t.Gone q :=
  ⟨apart.trailer.trans h.vacant, apart.inForce.trans h.inForce, fun e he => h.directory e (known e he), apart.unfiled⟩

theorem State.Gone.of_alone (alone : ArbiterAlone s t) (apart : StandsApart q s t) : t.Gone q :=
  h.of_apart apart fun _ he => alone.directory ▸ he

theorem State.Gone.of_fields (records : t.records = s.records) (actions : t.actions = s.actions) (queues : t.queues = s.queues)
    (directory : t.directory = s.directory) : t.Gone q := by
  refine ⟨Eq.trans ?_ h.vacant, Eq.trans ?_ h.inForce, directory ▸ h.directory, fun q' x hx => h.unfiled q' x ?_⟩
  · unfold State.trailer
    rw [records]
  · unfold State.inForce
    rw [actions]
  · unfold State.queue at hx ⊢
    rw [← queues]
    exact hx

theorem State.Gone.discardRestored (l : Line) : (s.discardRestored l).Gone q :=
  forEach_keeps (fun u => u.Gone q) (f := fun s' p => if (s'.trailer p).state = .restored then s'.depart p else s')
    (fun u p hu => by
      split
      · rename_i restored
        refine hu.depart ?_
        rintro rfl
        rw [hu.vacant] at restored
        cases restored
      · exact hu) (postsOn l) s h

end

/-- A record that has gone, through a change of a line, as a kit. -/
def ChangeKit.gone (q : Post) : ChangeKit where
  rel t s := s.Gone q → t.Gone q
  refl _ := id
  after x y := x ∘ y
  putLine s l c h := h.of_fields (by rw [State.putLine_changes]) (by rw [State.putLine_changes]) (by rw [State.putLine_changes])
    (by rw [State.putLine_changes])
  joins s p h := by
    by_cases here : p = q
    · unfold State.causeJoins
      rw [here, h.idle]
      exact h
    · exact h.of_alone (arbiterAlone_causeJoins s p .line 0) ((FindingKit.apart q).causeJoins s here .line 0 h.unfiled)
  leaves s p h := by
    by_cases here : p = q
    · unfold State.causeLeaves
      rw [here, h.idle]
      exact h
    · exact h.of_alone (arbiterAlone_causeLeaves s p .line) ((FindingKit.apart q).causeLeaves s here .line h.unfiled)
  walk s q' h := h.of_alone (arbiterAlone_walk s q') (standsApart_walk h.unfiled q')

section
variable {s : State} {q : Post} (h : s.Gone q)
include h

theorem State.Gone.nextAddress {l : Line} {r : Round} (round : (s.line l).round = some r ∨ (s.line l).round = none) :
    (s.nextAddress l).Gone q := by
  obtain round | none := round
  · cases more : r.remaining with
    | nil =>
      have judged : (s.roundJudged l r).Gone q := (ChangeKit.gone q).changeLine s l _ h
      rw [nextAddress_of_last round more]
      exact endRound_of (P := fun u => u.Gone q) s l r judged (judged.discardRestored l)
    | cons p rest =>
      rw [nextAddress_of_more round more]
      have polls := polls_beginExchange s l p false { r with remaining := rest }
      generalize s.beginExchange l p false { r with remaining := rest } = u at *
      exact h.of_fields (by rw [polls.changes]) (by rw [polls.changes]) (by rw [polls.changes]) (by rw [polls.changes])
  · rw [nextAddress_of_none none]
    exact h

theorem State.Gone.settlePlugged (p : Post) (rep : StatusReport) : (s.settlePlugged p rep).Gone q := by
  unfold State.settlePlugged
  split
  · exact h
  · exact h.of_fields rfl rfl rfl rfl

theorem State.Gone.outputAtGood (p : Post) (carried actual : Levels) : (s.outputAtGood p carried actual).Gone q := by
  by_cases here : p = q
  · rw [here]
    cases ho : s.output q with
    | none =>
      unfold State.outputAtGood
      rw [ho]
      exact h
    | some o =>
      have put : (s.putOutput q (some (o.taking carried actual))).Gone q := h.of_fields rfl rfl rfl rfl
      have vacant : (s.trailer q).state = .vacant := by rw [h.vacant]; rfl
      rw [outputAtGood_eq ho]
      generalize s.putOutput q (some (o.taking carried actual)) = u at *
      split
      · unfold State.clearFinding
        rw [put.vacant]
        exact put
      · rw [if_neg (fun both => both.2 vacant)]
        exact put
  · refine h.of_apart ((Kit.apart q).outputAtGood s here carried actual h.unfiled) fun e he => ?_
    rw [(leaves_outputAtGood s p carried actual).directory] at he
    exact he

end

/-- A record that the table has let go is gone as the exchange has ended. -/
theorem State.Gone.exchangeGood {s : State} {l : Line} {bytes : List Byte} {r : Round} {rep : StatusReport}
    (h : s.Hears l bytes r rep) {q : Post} (gone : (s.atTable l r.exchange rep).Gone q) : (s.exchangeGood l r rep).Gone q := by
  obtain ⟨-, takes, round⟩ := settled_goodResult h
  have result : (s.goodResult l r.exchange rep).Gone q := by
    rw [goodResult_eq]
    exact (gone.settlePlugged _ rep).outputAtGood _ _ _
  rw [exchangeGood_eq]
  generalize s.goodResult l r.exchange rep = v at *
  have changes := takes.changes
  have settled : v.settleCauses.Gone q :=
    result.of_fields (by rw [changes]) (by rw [changes]) (by rw [changes]) (by rw [changes])
  exact settled.nextAddress round

end Sys2Proof.Machine


/-! # A GOOD status that departs a record or counts an absent unit (R30, R31) -/

namespace Sys2Proof.Machine

/-! ## At the table -/

/-- A record that the lifecycle step has left VACANT is done with (R26). -/
theorem statusAtTable_of_vacant {s : State} {p : Post} {rep : StatusReport} {a : Arrival}
    (step : (s.verifyAt p).lifecycle p rep = a) (vacant : (a.s.trailer p).state = .vacant) (counted : a.rebuilt = none) (b : Bool) :
    s.statusAtTable p rep b = a.s := by
  have stamp : a.s.stampStatus p = a.s := by
    unfold State.stampStatus
    rw [if_pos vacant]
  have stamped : s.stamped p rep = a := by
    unfold State.stamped
    rw [step]
    unfold Arrival.on
    dsimp only
    rw [stamp]
  rw [State.statusAtTable_eq, stamped, counted]
  unfold Arrival.handled
  dsimp only
  have apart : ¬ ((a.s.trailer p).state = .enrolled ∧ rep.unit = .unit) := by
    rw [vacant]
    exact fun both => absurd both.1 nofun
  rw [if_neg apart]

theorem lifecycle_of_unplugged {s : State} {p : Post} {rep : StatusReport} (away : rep.unit = .unplugged)
    (verifies : (s.trailer p).verifies = true) (present : (s.trailer p).state ≠ .vacant) :
    (s.verifyAt p).lifecycle p rep = Arrival.mk (s.depart p) (s.trailer p).atArrival none false := by
  rw [verifyAt_of_verifies verifies]
  unfold Arrival.lifecycle Arrival.on
  dsimp only
  rw [away]
  dsimp only
  rw [if_pos present]

theorem lifecycle_of_vacant {s : State} {p : Post} {rep : StatusReport} (away : rep.unit ≠ .unit)
    (vacant : (s.trailer p).state = .vacant) :
    ∃ a, (s.verifyAt p).lifecycle p rep = a ∧ (a.s.trailer p).state = .vacant ∧ a.rebuilt = none := by
  have verified : ∃ a, s.verifyAt p = a ∧ (a.s.trailer p).state = .vacant ∧ a.rebuilt = none := by
    refine ⟨_, rfl, ?_⟩
    unfold State.verifyAt
    dsimp only
    split
    · exact ⟨vacant, rfl⟩
    · dsimp only
      rw [trailer_recordRebuild, State.trailer_putTrailer_self]
      exact ⟨rfl, rfl⟩
  obtain ⟨a, step, gone, counted⟩ := verified
  refine ⟨a, ?_, gone, counted⟩
  rw [step]
  unfold Arrival.lifecycle
  cases unit : rep.unit with
  | unit => exact absurd unit away
  | noUnit =>
    dsimp only
    rw [if_neg (by rw [gone]; nofun), counted]
    rfl
  | unplugged =>
    dsimp only
    rw [if_neg (fun no => no gone), counted]
    rfl

theorem lifecycle_of_absent {s : State} {p : Post} {rep : StatusReport} (away : rep.unit = .noUnit)
    (verifies : (s.trailer p).verifies = true) (enrolled : (s.trailer p).state = .enrolled) :
    (s.verifyAt p).lifecycle p rep = Arrival.mk (s.countAbsent p) (s.trailer p).atArrival none false := by
  rw [verifyAt_of_verifies verifies]
  unfold Arrival.lifecycle Arrival.on
  dsimp only
  rw [away]
  dsimp only
  rw [if_pos enrolled]

theorem lifecycle_of_uncounted {s : State} {p : Post} {rep : StatusReport} (away : rep.unit = .noUnit)
    (verifies : (s.trailer p).verifies = true) (other : (s.trailer p).state ≠ .enrolled) :
    (s.verifyAt p).lifecycle p rep = Arrival.mk s (s.trailer p).atArrival none false := by
  rw [verifyAt_of_verifies verifies]
  unfold Arrival.lifecycle
  dsimp only
  rw [away]
  dsimp only
  rw [if_neg other]
  rfl

/-- What a count of an absent unit leaves (R31). -/
structure CountsAbsent (p : Post) (s t : State) : Prop where
  leaves : Leaves p [.linkLost, .defrostAborted] { s.trailer p with unitAbsent := min 3 ((s.trailer p).unitAbsent + 1) } s t
  lost : s.running = true → (s.trailer p).unitAbsent = 2 → (t.trailer p).stands .linkLost = true

theorem countsAbsent_countAbsent (s : State) (p : Post) : CountsAbsent p s (s.countAbsent p) := by
  have counted := leaves_edit s p (fun t => { t with unitAbsent := min 3 ((s.trailer p).unitAbsent + 1) }) rfl rfl
  unfold State.countAbsent
  dsimp only
  generalize (s.editTrailer p fun t => { t with unitAbsent := min 3 ((s.trailer p).unitAbsent + 1) }) = w at *
  split
  · exact ⟨counted.calm (leaves_produce w p .linkLost 2 0),
      fun on _ => (stands_produce w p .linkLost 2 0).2 (counted.running.trans on)⟩
  · rename_i other
    exact ⟨counted.mono nofun, fun _ two => absurd two other⟩

/-! ## As the exchange has ended -/

section
variable {s : State} {l : Line} {bytes : List Byte} {r : Round} {rep : StatusReport} {p : Post}

/-- A plug that is out departs the record (R30). -/
theorem unplugged_exchangeGood (h : s.Hears l bytes r rep) (hp : r.exchange.post = p) (law : s.GrantLaw)
    (away : rep.unit = .unplugged) (verifies : (s.trailer p).verifies = true) (present : (s.trailer p).state ≠ .vacant) :
    (s.exchangeGood l r rep).Gone p := by
  have heard := leaves_hearPost s l p
  have verified : ((s.hearPost l p).trailer p).verifies = true := LineKit.verifies.hearPost s l p p verifies
  have step := lifecycle_of_unplugged away verified (by rw [heard.field TrailerRecord.state fun _ => rfl]; exact present)
  have gone := gone_depart (StepKit.grants.lines.hearPost s l p law) p
  refine State.Gone.exchangeGood h ?_
  unfold State.atTable
  rw [hp, statusAtTable_of_vacant step (vacated_depart _ p).vacant rfl]
  exact gone

/-- A VACANT record stays so with no unit (R26). -/
theorem vacant_exchangeGood (h : s.Hears l bytes r rep) (hp : r.exchange.post = p) (away : rep.unit ≠ .unit)
    (vacant : (s.trailer p).state = .vacant) : ((s.exchangeGood l r rep).trailer p).state = .vacant := by
  have heard := leaves_hearPost s l p
  obtain ⟨a, step, gone, counted⟩ := lifecycle_of_vacant away ((heard.field TrailerRecord.state fun _ => rfl).trans vacant)
  have lands := lands_exchangeGood h
  unfold State.atTable at lands
  rw [hp, statusAtTable_of_vacant step gone counted] at lands
  exact (TrailerRecord.field_of_rest (lands.rest (.inl (by rw [gone]; nofun))) TrailerRecord.state fun _ => rfl).trans gone

/-- A status with no unit counts at an ENROLLED record (R31). -/
theorem absent_exchangeGood (h : s.Hears l bytes r rep) (hp : r.exchange.post = p) (away : rep.unit = .noUnit)
    (verifies : (s.trailer p).verifies = true) (enrolled : (s.trailer p).state = .enrolled) {u : State}
    (hu : s.exchangeGood l r rep = u) :
    (u.trailer p).rest = { (s.trailer p).rest with
      unitAbsent := min 3 ((s.trailer p).unitAbsent + 1), lastStatus := some s.now } ∧
    (s.phase = .running → (s.trailer p).unitAbsent = 2 → (u.trailer p).stands .linkLost = true) := by
  have heard := leaves_hearPost s l p
  have verified : ((s.hearPost l p).trailer p).verifies = true := LineKit.verifies.hearPost s l p p verifies
  have step := lifecycle_of_absent away verified ((heard.field TrailerRecord.state fun _ => rfl).trans enrolled)
  have counts := countsAbsent_countAbsent (s.hearPost l p) p
  have rest : (((s.hearPost l p).countAbsent p).trailer p).rest
      = { (s.trailer p).rest with unitAbsent := min 3 ((s.trailer p).unitAbsent + 1) } := by
    rw [counts.leaves.rest]
    have same := congrArg (fun x : TrailerRecord => { x with unitAbsent := min 3 (x.unitAbsent + 1) }) heard.rest
    exact same
  have now := counts.leaves.now.trans heard.now
  have state : (((s.hearPost l p).countAbsent p).trailer p).state = .enrolled :=
    (congrArg TrailerRecord.state rest).trans enrolled
  have c := concludes_exchangeGood h hp step (by dsimp only; rw [state]; nofun) (.inl (by dsimp only; rw [state]; nofun))
    fun _ unit => nomatch away.symm.trans unit
  rw [hu] at c
  dsimp only at c
  have whole := c.unevaluated (.inr (by rw [away]; nofun))
  rw [rest, now] at whole
  refine ⟨whole, fun running two => (c.stands .linkLost (by decide)).trans (counts.lost ?_ ?_)⟩
  · exact heard.running.trans (running_of_phase running)
  · exact (heard.field TrailerRecord.unitAbsent fun _ => rfl).trans two

/-- A status with no unit leaves a record that is not ENROLLED (R31). -/
theorem uncounted_exchangeGood (h : s.Hears l bytes r rep) (hp : r.exchange.post = p) (law : s.GrantLaw)
    (away : rep.unit = .noUnit) (verifies : (s.trailer p).verifies = true) (present : (s.trailer p).state ≠ .vacant)
    (other : (s.trailer p).state ≠ .enrolled) (stays : (s.trailer p).state ≠ .restored ∨ r.Spares (s.line l)) {u : State}
    (hu : s.exchangeGood l r rep = u) :
    let t := s.trailer p
    let t' := u.trailer p
    t'.lastStatus = some s.now ∧ (∀ d ∈ s.directory, d.2 = p → d ∈ u.directory) ∧
    { t' with lastStatus := t.lastStatus, active := t.active, noted := t.noted, checkError := 0 } = t := by
  dsimp only
  have lawful : u.GrantLaw := hu ▸ StepKit.grants.exchangeGood s l r rep law
  have heard := leaves_hearPost s l p
  have state := heard.field TrailerRecord.state fun _ => rfl
  have verified : ((s.hearPost l p).trailer p).verifies = true := LineKit.verifies.hearPost s l p p verifies
  have step := lifecycle_of_uncounted away verified (by rw [state]; exact other)
  have c := concludes_exchangeGood h hp step (by dsimp only; rw [state]; exact present) (by dsimp only; rw [state]; exact stays)
    fun _ unit => nomatch away.symm.trans unit
  rw [hu] at c
  dsimp only at c
  have whole := c.unevaluated (.inr (by rw [away]; nofun))
  rw [heard.rest, heard.now] at whole
  have ended : (u.trailer p).state = (s.trailer p).state := by
    have same := congrArg TrailerRecord.state whole
    exact same
  have idle : (s.trailer p).run = none := TrailerRecord.run_eq_none_iff.mpr (law.idle_of_not_enrolled other).share
  have idle' : (u.trailer p).run = none :=
    TrailerRecord.run_eq_none_iff.mpr (lawful.idle_of_not_enrolled (by rw [ended]; exact other)).share
  have sealed : (s.trailer p).checkError = 0 := of_decide_eq_true verifies
  refine ⟨(TrailerRecord.field_of_rest (u := { (s.trailer p).rest with lastStatus := some s.now }) whole TrailerRecord.lastStatus fun _ => rfl), fun d hd here => c.kept d (heard.directory ▸ hd) ?_, ?_⟩
  · rw [here, state]
    exact stays
  · generalize s.trailer p = t at *
    generalize u.trailer p = t' at *
    cases t
    cases t'
    simp_all [TrailerRecord.rest]

end

end Sys2Proof.Machine


/-! # A RESTORED record that its serial confirms (R40) -/

namespace Sys2Proof.Machine

/-! ## A binding settled (R34, R36, R40) -/

/-- The binding settled, and the match tried where the record's profile is gone (R36, R40). -/
def State.rebound (s : State) (p : Post) : State :=
  if (s.settleBinding p).2 then (s.settleBinding p).1 else (s.settleBinding p).1.tryMatch p true

/-- What such a step leaves of a record with no run that has not been evaluated. -/
structure Binds (p : Post) (w v : State) : Prop where
  leaves : Leaves p [.unknownModel, .defrostAborted] (v.trailer p) w v
  rest : (v.trailer p).rest = { (w.trailer p).rest with state := (v.trailer p).state, profile := (v.trailer p).profile }
  listed : (v.trailer p).state = .arriving ∨ (v.trailer p).state = .enrolled
  first : (v.trailer p).state = .enrolled → ∃ pr, v.Unevaluated p pr
  known : ∀ pr, w.profileOf (w.trailer p) = some pr →
    (v.trailer p).state = .enrolled ∧ (v.trailer p).profile = (w.trailer p).profile
  unknown : w.profileOf (w.trailer p) = none → w.matching (w.trailer p).model = none →
    (v.trailer p).state = .arriving ∧ (v.trailer p).profile = none ∧
    (w.running = true → (v.trailer p).stands .unknownModel = true)

/-- A step beside a record, its profile unread. -/
theorem profileOf_of_same {s t : State} (reads : SameReads s t) {x y : TrailerRecord} (profile : y.profile = x.profile) :
    t.profileOf y = s.profileOf x := by
  unfold State.profileOf
  rw [reads.config, profile]

theorem settleBinding_of_known {w : State} {p : Post} {pr : Profile} (known : w.profileOf (w.trailer p) = some pr) :
    w.settleBinding p = (w.editTrailer p fun t => { t with state := .enrolled }, true) := by
  unfold State.settleBinding
  rw [known]
  rfl

theorem settleBinding_of_unknown {w : State} {p : Post} (gone : w.profileOf (w.trailer p) = none) :
    w.settleBinding p = (w.editTrailer p fun t => { t with state := .arriving, profile := none }, false) := by
  unfold State.settleBinding
  rw [gone]
  rfl

theorem run_edit {w : State} {p : Post} {f : TrailerRecord → TrailerRecord} (idle : w.run p = none)
    (same : (f (w.trailer p)).run = (w.trailer p).run) : (w.editTrailer p f).run p = none :=
  (State.field_editTrailer_self w p f TrailerRecord.run fun _ => rfl).trans (same.trans idle)

theorem binds_rebound {w : State} {p : Post} (idle : w.run p = none) (first : (w.trailer p).lastEval = none) :
    Binds p w (w.rebound p) := by
  unfold State.rebound
  cases found : w.profileOf (w.trailer p) with
  | some pr =>
    rw [settleBinding_of_known found]
    dsimp only
    rw [if_pos rfl]
    have edited := leaves_edit w p (fun t => { t with state := .enrolled }) rfl rfl
    have run : (w.editTrailer p fun t => { t with state := .enrolled }).run p = none := run_edit idle rfl
    generalize (w.editTrailer p fun t => { t with state := .enrolled }) = v at *
    have state : (v.trailer p).state = .enrolled := edited.field TrailerRecord.state fun _ => rfl
    have profile : (v.trailer p).profile = (w.trailer p).profile := edited.field TrailerRecord.profile fun _ => rfl
    refine ⟨(edited.as edited.rest.symm).mono nofun, ?_, .inr state, fun _ => ⟨pr, run, ?_, ?_⟩, fun _ _ => ⟨state, profile⟩, ?_⟩
    · rw [edited.rest, state, profile]
      rfl
    · exact (edited.field TrailerRecord.lastEval fun _ => rfl).trans first
    · exact (profileOf_of_same edited.reads profile).trans found
    · exact fun no => absurd (found.symm.trans no) nofun
  | none =>
    rw [settleBinding_of_unknown found]
    dsimp only
    rw [if_neg nofun]
    have edited := leaves_edit w p (fun t => { t with state := .arriving, profile := none }) rfl rfl
    have run : (w.editTrailer p fun t => { t with state := .arriving, profile := none }).run p = none := run_edit idle rfl
    generalize (w.editTrailer p fun t => { t with state := .arriving, profile := none }) = x at *
    have model : (x.trailer p).model = (w.trailer p).model := edited.field TrailerRecord.model fun _ => rfl
    have unread : (x.trailer p).lastEval = none := (edited.field TrailerRecord.lastEval fun _ => rfl).trans first
    have matching := matching_of_reads edited.reads (w.trailer p).model
    have whole : Leaves p [.unknownModel, .defrostAborted] ((x.tryMatch p true).trailer p) w (x.tryMatch p true) :=
      edited.trans (leaves_tryMatch x p true)
    cases matched : w.matching (w.trailer p).model with
    | some e =>
      obtain ⟨i, pr⟩ := e
      rw [matched, ← model] at matching
      have bound : x.tryMatch p true = x.bindKeeping p i := by
        unfold State.tryMatch
        rw [matching]
        rfl
      have keeps := leaves_bindKeeping x p i
      have unrun : (x.bindKeeping p i).run p = none := unrun_announceEnrolment (run_edit run rfl) i
      rw [bound] at whole ⊢
      generalize x.bindKeeping p i = v at *
      have state : (v.trailer p).state = .enrolled := keeps.field TrailerRecord.state fun _ => rfl
      have profile : (v.trailer p).profile = some i := keeps.field TrailerRecord.profile fun _ => rfl
      refine ⟨whole, ?_, .inr state, fun _ => ⟨pr, unrun, ?_, ?_⟩, fun _ known => absurd (found.symm.trans known) nofun,
        fun _ no => absurd (matched.symm.trans no) nofun⟩
      · rw [keeps.rest, state, profile]
        have same := congrArg (fun y : TrailerRecord => { y with state := .enrolled, profile := some i }) edited.rest
        exact same
      · exact (keeps.field TrailerRecord.lastEval fun _ => rfl).trans unread
      · exact profileOf_of_matching (edited.reads.trans keeps.reads) matched profile
    | none =>
      rw [matched, ← model] at matching
      have vain := tryMatch_of_none matching true
      have produced := leaves_produce x p .unknownModel (x.trailer p).model.toNat 0
      have stands := (stands_produce x p .unknownModel (x.trailer p).model.toNat 0).2
      rw [vain] at whole ⊢
      generalize x.produce p .unknownModel (x.trailer p).model.toNat 0 = v at *
      have state : (v.trailer p).state = .arriving :=
        (produced.field TrailerRecord.state fun _ => rfl).trans (edited.field TrailerRecord.state fun _ => rfl)
      have profile : (v.trailer p).profile = none :=
        (produced.field TrailerRecord.profile fun _ => rfl).trans (edited.field TrailerRecord.profile fun _ => rfl)
      refine ⟨whole, ?_, .inl state, fun enrolled => absurd (state.symm.trans enrolled) nofun,
        fun _ known => absurd (found.symm.trans known) nofun, fun _ _ => ⟨state, profile, fun on => stands (edited.running.trans on)⟩⟩
      rw [produced.rest, edited.rest, state, profile]
      rfl

theorem Binds.present {p : Post} {w v : State} (h : Binds p w v) : (v.trailer p).state ≠ .vacant := by
  obtain is | is := h.listed <;> rw [is] <;> nofun

theorem Binds.unrestored {p : Post} {w v : State} (h : Binds p w v) : (v.trailer p).state ≠ .restored := by
  obtain is | is := h.listed <;> rw [is] <;> nofun

theorem Binds.item {p : Post} {w v : State} (h : Binds p w v) (b : ItemBody) : Binds p w (v.item p b) := by
  have same := State.item_trailer v p p b
  have item := leaves_item v p p b
  have whole := h.leaves.calm item
  rw [List.append_nil] at whole
  refine ⟨by rw [same]; exact whole, by rw [same]; exact h.rest, by rw [same]; exact h.listed, fun enrolled => ?_,
    by rw [same]; exact h.known, by rw [same]; exact h.unknown⟩
  rw [same] at enrolled
  obtain ⟨pr, idle, first, profile⟩ := h.first enrolled
  refine ⟨pr, FindingKit.unrun.item v p b trivial p idle, by rw [same]; exact first, ?_⟩
  rw [same]
  exact (profileOf_of_same item.reads rfl).trans profile

/-! ## The confirmation -/

theorem lifecycle_of_restored {s : State} {p : Post} {rep : StatusReport} (unit : rep.unit = .unit)
    (verifies : (s.trailer p).verifies = true) (restored : (s.trailer p).state = .restored)
    (serial : (s.trailer p).serial = rep.serial) {w : State} (hw : (s.editTrailer p fun t => { t with model := rep.model }) = w)
    (idle : w.run p = none) (first : (w.trailer p).lastEval = none) :
    ∃ a, (s.verifyAt p).lifecycle p rep = a ∧ Binds p w a.s ∧ a.rebuilt = none := by
  have binds := binds_rebound idle first
  refine ⟨_, rfl, ?_⟩
  rw [verifyAt_of_verifies verifies]
  unfold Arrival.lifecycle Arrival.same Arrival.on
  dsimp only
  rw [unit]
  dsimp only
  rw [if_neg (by rw [restored]; nofun), if_pos serial, restored]
  dsimp only
  rw [hw]
  unfold State.rebound at binds
  refine ⟨?_, rfl⟩
  split
  · rename_i known
    rw [if_pos known] at binds
    split
    · exact binds.item _
    · exact binds
  · rename_i unknown
    rw [if_neg unknown] at binds
    exact binds

section
variable {s : State} {l : Line} {bytes : List Byte} {r : Round} {rep : StatusReport} {p : Post}

/-- A RESTORED record confirmed by its serial keeps its values (R40). -/
theorem restored_exchangeGood (h : s.Hears l bytes r rep) (hp : r.exchange.post = p) (law : s.GrantLaw)
    (verifies : (s.trailer p).verifies = true) (unit : rep.unit = .unit) (restored : (s.trailer p).state = .restored)
    (serial : (s.trailer p).serial = rep.serial) (unread : (s.trailer p).lastEval = none) {u : State}
    (hu : s.exchangeGood l r rep = u) :
    let t := s.trailer p
    let t' := u.trailer p
    (∀ pr, s.profileOf t = some pr →
      t'.state = .enrolled ∧ t'.profile = t.profile ∧ t'.f = t.f ∧ t'.r = t.r ∧ t'.mask = t.mask ∧
      t'.inhibit = t.inhibit ∧ t'.arrival = t.arrival ∧ t'.lastDefrostEnd = t.lastDefrostEnd ∧
      t'.model = rep.model ∧ t'.lastStatus = some s.now ∧ t'.lastEval = some s.now) ∧
    (s.profileOf t = none → s.matching rep.model = none →
      t'.state = .arriving ∧ t'.profile = none ∧ t'.f = t.f ∧ t'.r = t.r ∧ t'.mask = t.mask ∧
      t'.model = rep.model ∧ t'.lastStatus = some s.now ∧
      (s.phase = .running → t'.stands .unknownModel = true)) := by
  dsimp only
  have heard := leaves_hearPost s l p
  have verified : ((s.hearPost l p).trailer p).verifies = true := LineKit.verifies.hearPost s l p p verifies
  have state : ((s.hearPost l p).trailer p).state = .restored := (heard.field TrailerRecord.state fun _ => rfl).trans restored
  have idle : (s.hearPost l p).run p = none :=
    TrailerRecord.run_eq_none_iff.mpr ((StepKit.grants.lines.hearPost s l p law).idle_of_not_enrolled (by rw [state]; nofun)).share
  have named := leaves_edit (s.hearPost l p) p (fun t => { t with model := rep.model }) rfl rfl
  have run : ((s.hearPost l p).editTrailer p fun t => { t with model := rep.model }).run p = none := run_edit idle rfl
  have step := lifecycle_of_restored unit verified state ((heard.field TrailerRecord.serial fun _ => rfl).trans serial) rfl run
    ((named.field TrailerRecord.lastEval fun _ => rfl).trans ((heard.field TrailerRecord.lastEval fun _ => rfl).trans unread))
  have record : (((s.hearPost l p).editTrailer p fun t => { t with model := rep.model }).trailer p).rest
      = { (s.trailer p).rest with model := rep.model } := by
    rw [named.rest]
    have same := congrArg (fun x : TrailerRecord => { x with model := rep.model }) heard.rest
    exact same
  have reads := heard.reads.trans named.reads
  clear heard verified state idle named run
  generalize (s.hearPost l p).editTrailer p (fun t => { t with model := rep.model }) = w at *
  obtain ⟨a, step, binds, -⟩ := step
  have c := concludes_exchangeGood h hp step binds.present (.inl binds.unrestored) fun enrolled _ => binds.first enrolled
  rw [hu] at c
  have now : a.s.now = s.now := (reads.trans binds.leaves.reads).now
  have binding := c.binding
  rw [TrailerRecord.field_of_rest (t := a.s.trailer p) (u := { (w.trailer p).rest with
      state := (a.s.trailer p).state, profile := (a.s.trailer p).profile }) binds.rest TrailerRecord.binding fun _ => rfl,
    record, now] at binding
  have field {α : Type} (π : TrailerRecord → α) (hπ : ∀ x, π x.binding = π x) := TrailerRecord.field_of_binding binding π hπ
  have profile : (w.trailer p).profile = (s.trailer p).profile :=
    TrailerRecord.field_of_rest (u := { (s.trailer p).rest with model := rep.model }) record TrailerRecord.profile fun _ => rfl
  have model : (w.trailer p).model = rep.model :=
    TrailerRecord.field_of_rest (u := { (s.trailer p).rest with model := rep.model }) record TrailerRecord.model fun _ => rfl
  have held : w.profileOf (w.trailer p) = s.profileOf (s.trailer p) := profileOf_of_same reads profile
  have bound : (u.trailer p).profile = (a.s.trailer p).profile := field TrailerRecord.profile fun _ => rfl
  have ended : (u.trailer p).state = (a.s.trailer p).state := field TrailerRecord.state fun _ => rfl
  refine ⟨fun pr known => ?_, fun gone no => ?_⟩
  · obtain ⟨enrolled, kept⟩ := binds.known pr (held.trans known)
    exact ⟨ended.trans enrolled, bound.trans (kept.trans profile), field TrailerRecord.f fun _ => rfl,
      field TrailerRecord.r fun _ => rfl, field TrailerRecord.mask fun _ => rfl, field TrailerRecord.inhibit fun _ => rfl,
      field TrailerRecord.arrival fun _ => rfl, field TrailerRecord.lastDefrostEnd fun _ => rfl,
      field TrailerRecord.model fun _ => rfl, field TrailerRecord.lastStatus fun _ => rfl, (c.lastEval enrolled unit).trans (by rw [now])⟩
  · have vain : w.matching (w.trailer p).model = none := by
      rw [matching_of_reads reads, model]
      exact no
    obtain ⟨arriving, none, stands⟩ := binds.unknown (held.trans gone) vain
    refine ⟨ended.trans arriving, bound.trans none, field TrailerRecord.f fun _ => rfl,
      field TrailerRecord.r fun _ => rfl, field TrailerRecord.mask fun _ => rfl,
      field TrailerRecord.model fun _ => rfl, field TrailerRecord.lastStatus fun _ => rfl, fun running => ?_⟩
    refine (c.stands .unknownModel (by decide)).trans (stands ?_)
    unfold State.running
    rw [reads.phase]
    exact running_of_phase running

end

end Sys2Proof.Machine


/-! # A serial that moves from another post (R36) -/

namespace Sys2Proof.Machine

/-! ## The owner's record cut short (R108) -/

/-- A record whose run has been cut short: the frost account as it stood at the grant, and no run. -/
def TrailerRecord.released (t : TrailerRecord) : TrailerRecord := { t with f := (t.run.map (·.f0)).getD t.f, run := none }

theorem field_cutShort {s : State} (law : s.GrantLaw) (p : Post) (c : AbortCause) {α : Type} (π : TrailerRecord → α)
    (hπ : ∀ t, π t.sealed = π t) : π ((s.cutShort p c).trailer p) = π (s.trailer p).released := by
  unfold State.cutShort
  rw [removeRequest_trailer]
  cases run : s.run p with
  | none =>
    rw [State.endRun_of_none run]
    unfold State.run at run
    unfold TrailerRecord.released
    rw [run]
    generalize s.trailer p = t at *
    cases t
    cases run
    rfl
  | some x =>
    have unfiled : s.Unfiled p := law.unfiled_of_run (by rw [run]; nofun)
    rw [field_endRun run unfiled _ _ π hπ]
    unfold State.run at run
    unfold TrailerRecord.released TrailerRecord.settleRun
    rw [run]
    rfl

/-! ## The record carried (R36, steps 1 to 4) -/

theorem trailer_withdrawActions_of_idle {s : State} {p : Post} (idle : s.run p = none) :
    (s.withdrawActions p).trailer p = s.trailer p := by
  refine forEach_keeps (fun u => u.trailer p = s.trailer p) (f := fun s' a => s'.withdrawAction p a) (fun u a hu => ?_)
    settledActions s rfl
  have run : u.run p = none := (run_of_trailer hu).trans idle
  rw [withdrawAction_of_idle run]
  split
  · exact hu
  · exact hu

/-- What the first steps of a move leave, before the binding is settled. -/
structure Carries (o p : Post) (rep : StatusReport) (b w : State) : Prop where
  reads : SameReads b w
  rest : (w.trailer p).rest = ((b.trailer o).released.carried rep.model b.now).rest
  idle : w.run p = none
  linked : (b.trailer o).InOneSet .linkLost → (w.trailer p).stands .linkLost = false
  directory : (rep.serial, p) ∈ w.directory
  gone : w.Gone o

theorem reads_placedCarried (b : State) (o p : Post) (rep : StatusReport) : SameReads b (b.placedCarried o p rep) := by
  have cut : SameReads b (b.cutShort o .move) := .of_framed fun f => f.cutShort b o .move
  unfold State.placedCarried
  generalize b.cutShort o .move = c at *
  have withdrawn : SameReads c (c.withdrawActions p) := .of_framed fun f => f.withdrawActions c p
  exact (cut.trans withdrawn).trans ⟨rfl, rfl, rfl, rfl⟩

section
variable {b : State} {o p : Post} {rep : StatusReport} (law : b.GrantLaw)
include law

theorem trailer_placedCarried :
    (b.placedCarried o p rep).trailer p = ((b.trailer o).released.carried rep.model b.now).sealed := by
  have carried := field_cutShort law o .move (fun t => (t.carried rep.model b.now).sealed) fun _ => rfl
  unfold State.placedCarried
  rw [State.trailer_putTrailer_self]
  exact carried

/-- The actions settled leave the carried record, and LINK-LOST clears (R36, step 3). -/
theorem acts_actingCarried :
    Leaves p [.linkLost] ((b.trailer o).released.carried rep.model b.now) (b.placedCarried o p rep) (b.actingCarried o p rep) ∧
    (b.actingCarried o p rep).run p = none ∧
    ((b.trailer o).InOneSet .linkLost → ((b.actingCarried o p rep).trailer p).stands .linkLost = false) := by
  have record := trailer_placedCarried (o := o) (p := p) (rep := rep) law
  unfold State.actingCarried
  generalize b.placedCarried o p rep = w at *
  have idle : w.run p = none := by
    unfold State.run
    rw [record]
    rfl
  have settles := settlesIdle_settleActions idle
  have settled : Leaves p [] (w.trailer p) w (w.settleActions p) :=
    leaves_of_offRun (fun q => by rw [settles.trailer]) (.of_framed fun f => f.settleActions w p) (identity_settleActions w p).directory
  have cleared := leaves_clearFinding (w.settleActions p) p .linkLost false
  have clears := clears_clearFinding (w.settleActions p) p .linkLost false
  have whole := (settled.calm cleared).as (y := (b.trailer o).released.carried rep.model b.now) (by rw [record]; rfl)
  have run : (w.settleActions p).run p = none := (run_of_trailer (settles.trailer p)).trans idle
  refine ⟨whole, FindingKit.unrun.clearFinding _ (p := p) trivial .linkLost false p run, fun one => clears.not_stands ?_⟩
  rw [settles.trailer, record]
  exact one

variable (listing : b.DirectoryLaw) (entry : (rep.serial, o) ∈ b.directory) (apart : o ≠ p) (idle : b.Idle p)
include listing entry apart idle

theorem gone_leftBehind : (b.leftBehind o p rep).Gone o := by
  have left := repointed_leftBehind b o p rep (listing.sound _ entry).2 apart
  have lawful := (law.leftBehind idle o rep).1
  refine ⟨?_, ?_, fun e he here => ?_, lawful.unfiled_of_vacant (by rw [left.vacant]; nofun)⟩
  · have put := State.trailer_putTrailer_self (b.actingCarried o p rep) o .vacant
    have unrun : ((b.actingCarried o p rep).putTrailer o .vacant).run o = none := by
      unfold State.run
      rw [put]
      rfl
    unfold State.leftBehind
    rw [State.dirRepoint_trailer, trailer_withdrawActions_of_idle unrun, put]
    rfl
  · unfold State.leftBehind
    generalize (b.actingCarried o p rep).putTrailer o .vacant = c
    have withdrawn := inForce_withdrawActions c o
    generalize c.withdrawActions o = d at *
    exact withdrawn
  · rw [left.directory] at he
    obtain ⟨d, mem, is⟩ := List.mem_map.mp he
    split at is
    · rw [← is] at here
      exact apart here.symm
    · rename_i other
      rw [← is] at here
      have serials := (listing.sound d mem).2
      rw [here, (listing.sound _ entry).2] at serials
      exact other serials.symm

theorem carries_leftBehind : Carries o p rep b (b.leftBehind o p rep) := by
  have left := repointed_leftBehind b o p rep (listing.sound _ entry).2 apart
  obtain ⟨acts, run, linked⟩ := acts_actingCarried (o := o) (p := p) (rep := rep) law
  have reads := (reads_placedCarried b o p rep).trans acts.reads
  have gone := gone_leftBehind law listing entry apart idle
  have same : (b.leftBehind o p rep).trailer p = (b.actingCarried o p rep).trailer p := by
    unfold State.leftBehind
    rw [State.dirRepoint_trailer, ((FindingKit.others o).withdrawActions _ rfl p apart.symm).1,
      State.trailer_putTrailer_other _ _ _ _ apart.symm]
  refine ⟨reads.trans ?_, by rw [same]; exact acts.rest, (run_of_trailer same).trans run, by rw [same]; exact linked, ?_, gone⟩
  · unfold State.leftBehind
    generalize b.actingCarried o p rep = a
    have put : SameReads a (a.putTrailer o .vacant) := ⟨rfl, rfl, rfl, rfl⟩
    generalize a.putTrailer o .vacant = c at *
    have withdrawn : SameReads c (c.withdrawActions o) := .of_framed fun f => f.withdrawActions c o
    exact (put.trans withdrawn).trans ⟨rfl, rfl, rfl, rfl⟩
  · rw [left.directory]
    refine List.mem_map.mpr ⟨_, entry, ?_⟩
    dsimp only
    rw [if_pos rfl]

end

end Sys2Proof.Machine


/-! # A serial that moves: the lifecycle step (R35, R36, R38) -/

namespace Sys2Proof.Machine

/-! ## Beside another post -/

namespace SideKit

variable {q : Post} (h : SideKit q) (s : State) {p : Post} (hp : p ≠ q)
include hp

theorem editAny (f : TrailerRecord → TrailerRecord) : h.rel (s.editTrailer p f) s := by
  obtain e | ⟨e, -⟩ := State.editTrailer_cases s p f <;> rw [e]
  · exact h.put s p _ hp
  · exact h.refl s

theorem announceEnrolment (i : ProfileId) : h.rel (s.announceEnrolment p i) s :=
  (h.clearFinding _ hp .unknownModel false).trans (h.item s p (.enrolled i) hp)

theorem tryMatch (b : Bool) : h.rel (s.tryMatch p b) s := by
  unfold State.tryMatch
  split
  · split
    · exact (h.announceEnrolment _ hp _).trans (h.editAny s hp _)
    · exact (h.announceEnrolment _ hp _).trans (h.editAny s hp _)
  · exact h.produce s hp _ _ _

theorem settleBinding : h.rel (s.settleBinding p).1 s := by
  unfold State.settleBinding
  split
  · dsimp only
    exact h.editAny s hp _
  · dsimp only
    exact h.editAny s hp _

theorem rebound : h.rel (s.rebound p) s := by
  unfold State.rebound
  split
  · exact h.settleBinding s hp
  · exact (h.tryMatch _ hp true).trans (h.settleBinding s hp)

theorem arriveRebuilt (rep : StatusReport) : h.rel (s.arriveRebuilt p rep) s := by
  have placed := (h.directory (s.putTrailer p (.rebuilt rep.serial rep.model s.now (s.matching rep.model)))
    (insertEntry rep.serial p s.directory)).trans (h.put s p (.rebuilt rep.serial rep.model s.now (s.matching rep.model)) hp)
  unfold State.arriveRebuilt
  dsimp only
  split
  · exact (h.produce _ hp _ _ _).trans placed
  · exact placed

end SideKit

theorem State.Gone.beside {s t : State} {q : Post} (h : s.Gone q) (side : (SideKit.apart q).rel t s)
    (known : ∀ e ∈ t.directory, e.2 ≠ q) : t.Gone q :=
  have stands : StandsApart q s t := side h.unfiled
  ⟨stands.trailer.trans h.vacant, stands.inForce.trans h.inForce, known, stands.unfiled⟩

/-! ## The two ways of a move -/

section
variable {b : State} {o p : Post} {rep : StatusReport}

theorem move_of_verifies (verifies : (b.trailer o).verifies = true) (before : AtArrival) :
    (Arrival.mk b before none false).move o p rep = Arrival.mk (b.carry o p rep) before none (b.run o).isSome := by
  unfold Arrival.move
  dsimp only
  rw [if_pos verifies, Bool.false_or]

theorem move_of_broken (broken : (b.trailer o).verifies = false) (before : AtArrival) :
    (Arrival.mk b before none false).move o p rep = Arrival.mk (((b.rebuildAway o).emptySets p).arriveRebuilt p rep) before
      (some (b.rebuildAway o).rebuilds.length) (b.run o).isSome := by
  unfold Arrival.move
  dsimp only
  rw [if_neg (by rw [broken]; nofun), Bool.false_or]

theorem State.carry_rebound (b : State) (o p : Post) (rep : StatusReport) :
    b.carry o p rep = ((b.leftBehind o p rep).rebound p).item p (.moved o p) := State.carry_eq b o p rep

theorem gone_rebuildAway (law : b.GrantLaw) (o : Post) : (b.rebuildAway o).Gone o := by
  have vacated := vacated_rebuildAway b o
  have cut := (law.cutShort o .rebuild).2
  unfold State.rebuildAway at vacated ⊢
  generalize b.cutShort o .rebuild = c at *
  have empties := emptiesSets_emptySets (c.dirRemove o) o
  have keeps := (keepsGrants_dirRemove c o).trans (keepsGrants_emptySets (c.dirRemove o) o)
  generalize (c.dirRemove o).emptySets o = e at *
  have unfiled := cut.unfiled.shrinks keeps.shrinks
  refine ⟨?_, ?_, fun x hx => ?_, ?_⟩
  · rw [trailer_recordRebuild]
    exact State.trailer_putTrailer_self _ o _
  · have same : ((e.putTrailer o .vacant).recordRebuild).inForce o = e.inForce o := by
      rw [recordRebuild_changes]
      rfl
    exact same.trans empties.inForce
  · rw [vacated.directory] at hx
    exact of_decide_eq_true (List.mem_filter.mp hx).2
  · rw [recordRebuild_changes]
    exact unfiled

theorem known_arriveRebuilt (c : State) (p : Post) (rep : StatusReport) :
    ∀ e ∈ (c.arriveRebuilt p rep).directory, e = (rep.serial, p) ∨ e ∈ c.directory := fun e he => by
  unfold State.arriveRebuilt at he
  dsimp only at he
  split at he
  · rw [(identity_produce _ p _ _ _).directory] at he
    exact mem_insertEntry.mp he
  · exact mem_insertEntry.mp he

/-- What a move makes of the arriving post, of the owner's record and of the directory. -/
structure Moves (o p : Post) (rep : StatusReport) (b : State) (a : Arrival) : Prop where
  gone : a.s.Gone o
  carried : (b.trailer o).verifies = true → ∃ w, Carries o p rep b w ∧ Binds p w a.s ∧ a.rebuilt = none
  rebuilt : (b.trailer o).verifies = false → Rebuilds p rep b a.s ∧ a.rebuilt.isSome = true

variable (law : b.GrantLaw) (apart : o ≠ p)
include law apart

/-- A record that verifies is carried (R36). -/
theorem carried_carry (listing : b.DirectoryLaw) (entry : (rep.serial, o) ∈ b.directory) (idle : b.Idle p) :
    (b.carry o p rep).Gone o ∧ ∃ w, Carries o p rep b w ∧ Binds p w (b.carry o p rep) := by
  have carries := carries_leftBehind law listing entry apart idle
  rw [State.carry_rebound]
  generalize b.leftBehind o p rep = w at *
  have unread : (w.trailer p).lastEval = none := TrailerRecord.field_of_rest carries.rest TrailerRecord.lastEval fun _ => rfl
  have binds := (binds_rebound carries.idle unread).item (.moved o p)
  have side := ((SideKit.apart o).item (w.rebound p) p (.moved o p) apart.symm).trans ((SideKit.apart o).rebound w apart.symm)
  generalize (w.rebound p).item p (.moved o p) = v at *
  exact ⟨carries.gone.beside side fun e he => carries.gone.directory e (binds.leaves.directory ▸ he), w, carries, binds⟩

/-- The serial of a record that does not verify is rebuilt at the arriving post (R36). -/
theorem rebuilt_move :
    (((b.rebuildAway o).emptySets p).arriveRebuilt p rep).Gone o ∧
    Rebuilds p rep b (((b.rebuildAway o).emptySets p).arriveRebuilt p rep) := by
  have gone := gone_rebuildAway law o
  have reads := reads_rebuildAway b o
  have now := rebuiltNow_rebuildAway b o
  generalize b.rebuildAway o = w at *
  have empties : SameReads w (w.emptySets p) := .of_framed fun f => f.emptySets w p
  have emptied := now.of_framed fun f => f.emptySets w p
  have directory := (identity_emptySets w p).directory
  have emptiesSide := (SideKit.apart o).emptySets w apart.symm
  generalize w.emptySets p = v at *
  have side := ((SideKit.apart o).arriveRebuilt v apart.symm rep).trans emptiesSide
  have rebuilds := rebuilds_arriveRebuilt (reads.trans empties) emptied p rep
  have known := known_arriveRebuilt v p rep
  generalize v.arriveRebuilt p rep = u at *
  exact ⟨gone.beside side fun e he => (known e he).elim (fun same => same ▸ apart.symm)
    fun before => gone.directory e (directory ▸ before), rebuilds⟩

theorem moves_move (listing : b.DirectoryLaw) (entry : (rep.serial, o) ∈ b.directory) (idle : b.Idle p) (before : AtArrival) :
    Moves o p rep b ((Arrival.mk b before none false).move o p rep) := by
  cases verifies : (b.trailer o).verifies with
  | true =>
    obtain ⟨gone, w, carries, binds⟩ := carried_carry law apart listing entry idle
    rw [move_of_verifies verifies]
    generalize b.carry o p rep = v at *
    refine ⟨gone, fun _ => ⟨w, carries, binds, rfl⟩, fun broken => ?_⟩
    rw [verifies] at broken
    cases broken
  | false =>
    obtain ⟨gone, rebuilds⟩ := rebuilt_move (rep := rep) law apart
    rw [move_of_broken verifies]
    generalize ((b.rebuildAway o).emptySets p).arriveRebuilt p rep = v at *
    refine ⟨gone, fun sound => ?_, fun _ => ⟨rebuilds, rfl⟩⟩
    rw [verifies] at sound
    cases sound

end

/-! ## The way to a move -/

theorem gone_eq_true_of_not_present {s : State} {o : Post} (absent : ¬ s.Present o) : s.gone o = true := by
  cases gone : s.gone o with
  | true => rfl
  | false => exact absurd ((gone_eq_false_iff s o).mp gone) absent

theorem off_of_not_present {s : State} {o : Post} (absent : ¬ s.Present o) (law : s.GrantLaw) : s.Off o := by
  by_cases live : (s.entry o).map (·.state) = some .live
  · refine .inr (law.unfiled_of_vacant fun enrolled => absent ⟨live, .inr enrolled⟩)
  · exact .inl live

theorem reaches_clearFinding (s : State) (p : Post) (c : FindingClass) : Reaches p s (s.clearFinding p c false) where
  reads := (leaves_clearFinding s p c false).reads
  lookup u _ := by
    unfold State.dirLookup
    rw [(leaves_clearFinding s p c false).directory]
  entry q _ := entry_of_framed (fun f => f.clearFinding s p c false) q
  others := (leaves_clearFinding s p c false).others
  law law := law.of_keeps (keepsGrants_clearFinding s p c false)
  listing law := law.of_identity (identity_clearFinding s p c false)
  fixed _ hq off := off.fixed fun k => k.clearFinding s hq.symm c false

/-- A serial whose owner is gone moves (R35, R36, R38). -/
theorem lifecycle_of_moves {s : State} {p owner : Post} {rep : StatusReport} (unit : rep.unit = .unit)
    (lookup : s.dirLookup rep.serial = some owner) (apart : owner ≠ p) (absent : ¬ s.Present owner)
    (comes : (s.trailer p).state = .vacant ∨
      ((s.trailer p).verifies = true ∧ ((s.trailer p).serial ≠ rep.serial ∨ (s.trailer p).state = .held))) :
    ∃ b before, Reaches p s b ∧ (b.trailer p).state ≠ .enrolled ∧
      (s.verifyAt p).lifecycle p rep = (Arrival.mk b before none false).move owner p rep := by
  have found {b : State} (reaches : Reaches p s b) : b.dirLookup rep.serial = some owner :=
    (reaches.lookup rep.serial (by rw [lookup]; exact fun e => apart (Option.some.inj e))).trans lookup
  have away {b : State} (reaches : Reaches p s b) : b.gone owner = true := by
    refine gone_eq_true_of_not_present fun present => absent ?_
    exact present.of_others (reaches.entry owner apart).symm (reaches.others owner apart).symm
  have takes (takes : (s.trailer p).state = .vacant ∨ ((s.trailer p).verifies = true ∧ (s.trailer p).serial ≠ rep.serial)) :
      ∃ b before, Reaches p s b ∧ (b.trailer p).state ≠ .enrolled ∧
        (s.verifyAt p).lifecycle p rep = (Arrival.mk b before none false).move owner p rep := by
    obtain ⟨b, before, reaches, vacant, step⟩ := lifecycle_of_takes unit takes
    refine ⟨b, before, reaches, by rw [vacant]; nofun, step.trans ?_⟩
    unfold Arrival.arrive
    dsimp only
    rw [found reaches]
    dsimp only
    rw [if_pos (away reaches)]
  obtain vacant | ⟨verifies, other | held⟩ := comes
  · exact takes (.inl vacant)
  · exact takes (.inr ⟨verifies, other⟩)
  · by_cases serial : (s.trailer p).serial = rep.serial
    · have reaches := reaches_clearFinding s p .duplicateUnit
      have state : ((s.clearFinding p .duplicateUnit false).trailer p).state = .held :=
        ((leaves_clearFinding s p .duplicateUnit false).field TrailerRecord.state fun _ => rfl).trans held
      refine ⟨_, (s.trailer p).atArrival, reaches, by rw [state]; nofun, ?_⟩
      rw [lifecycle_of_held unit verifies held serial]
      unfold Arrival.retryHeld Arrival.on
      dsimp only
      rw [lookup]
      dsimp only
      rw [if_pos (gone_eq_true_of_not_present absent)]
    · exact takes (.inr ⟨verifies, serial⟩)

end Sys2Proof.Machine


/-! # A GOOD status that departs, counts, confirms or moves (O42) -/

namespace Sys2Proof.Machine

/-! ## As the exchange has ended -/

theorem Rebuilds.of_reads {p : Post} {rep : StatusReport} {s b t : State} (h : Rebuilds p rep b t) (reads : SameReads s b) :
    Rebuilds p rep s t where
  reads := reads.trans h.reads
  directory := h.directory
  verifies := h.verifies
  last := h.last
  known i pr found := by
    rw [← reads.now]
    exact h.known i pr ((matching_of_reads reads rep.model).trans found)
  unknown none := by
    obtain ⟨rest, stands⟩ := h.unknown ((matching_of_reads reads rep.model).trans none)
    rw [← reads.now]
    refine ⟨rest, fun on => stands ?_⟩
    unfold State.running at on ⊢
    rw [reads.phase]
    exact on

theorem Rebuilds.awaits {p : Post} {rep : StatusReport} {s t : State} (h : Rebuilds p rep s t) :
    (t.trailer p).state ≠ .vacant ∧ ((t.trailer p).state = .enrolled → ∃ pr, t.Unevaluated p pr) := by
  cases matched : s.matching rep.model with
  | some e =>
    obtain ⟨rest, unevaluated⟩ := h.known e.1 e.2 matched
    have enrolled : (t.trailer p).state = .enrolled := TrailerRecord.field_of_rest rest TrailerRecord.state fun _ => rfl
    exact ⟨by rw [enrolled]; nofun, fun _ => ⟨e.2, unevaluated⟩⟩
  | none =>
    have arriving : (t.trailer p).state = .arriving :=
      TrailerRecord.field_of_rest (h.unknown matched).1 TrailerRecord.state fun _ => rfl
    rw [arriving]
    exact ⟨nofun, nofun⟩

section
variable {s : State} {l : Line} {bytes : List Byte} {r : Round} {rep : StatusReport} {p owner : Post}

/-- Another record that the lifecycle step has let go is gone as the exchange has ended. -/
theorem gone_exchangeGood (h : s.Hears l bytes r rep) (hp : r.exchange.post = p) {a : Arrival}
    (step : ((s.hearPost l p).verifyAt p).lifecycle p rep = a) (present : (a.s.trailer p).state ≠ .vacant)
    (first : (a.s.trailer p).state = .enrolled → rep.unit = .unit → ∃ pr, a.s.Unevaluated p pr) (apart : owner ≠ p)
    (gone : a.s.Gone owner) : (s.exchangeGood l r rep).Gone owner := by
  have tabled := tabled_statusAtTable step present first (s.trailer p).atArrival.runHeating
  refine State.Gone.exchangeGood h ?_
  unfold State.atTable
  rw [hp]
  generalize (s.hearPost l p).statusAtTable p rep (s.trailer p).atArrival.runHeating = w at *
  exact gone.beside (tabled.side owner apart.symm (SideKit.apart owner)) fun e he => gone.directory e (tabled.leaves.directory ▸ he)

/-- What the record that a serial moved to holds, of the owner's record as it stood. -/
structure Keeps (p : Post) (rep : StatusReport) (s : State) (o t' : TrailerRecord) : Prop where
  model : t'.model = rep.model
  lastStatus : t'.lastStatus = some s.now
  known : ∀ pr, s.profileOf o = some pr →
    t'.state = .enrolled ∧ t'.serial = o.serial ∧ t'.profile = o.profile ∧ t'.arrival = o.arrival ∧
    t'.f = (o.run.map (·.f0)).getD o.f ∧ t'.r = o.r ∧ t'.lastDefrostEnd = o.lastDefrostEnd ∧
    t'.inhibit = o.inhibit ∧ t'.deferral = o.deferral ∧ t'.mask = o.mask ∧ t'.unitAbsent = 0 ∧
    t'.lastEval = some s.now ∧ (o.InOneSet .linkLost → t'.stands .linkLost = false) ∧
    ((rep.door ≠ .opened ∨ o.door.held = some .opened) → t'.custody = o.custody ∧
      t'.door.history = o.door.history ∧ t'.door.pn = o.door.pn)
  unknown : s.profileOf o = none → s.matching rep.model = none →
    t'.state = .arriving ∧ t'.serial = o.serial ∧ t'.profile = none ∧ t'.arrival = o.arrival ∧
    t'.f = (o.run.map (·.f0)).getD o.f ∧ t'.r = o.r ∧ t'.custody = o.custody ∧ t'.door = o.door

theorem carried_exchangeGood (h : s.Hears l bytes r rep) (hp : r.exchange.post = p) (unit : rep.unit = .unit) {a : Arrival}
    (step : ((s.hearPost l p).verifyAt p).lifecycle p rep = a) {b w : State} (reads : SameReads s b)
    (carries : Carries owner p rep b w) (binds : Binds p w a.s) {u : State} (hu : s.exchangeGood l r rep = u) :
    (rep.serial, p) ∈ u.directory ∧ Keeps p rep s (b.trailer owner) (u.trailer p) := by
  have c := concludes_exchangeGood h hp step binds.present (.inl binds.unrestored) fun enrolled _ => binds.first enrolled
  rw [hu] at c
  refine ⟨c.kept _ (binds.leaves.directory ▸ carries.directory) (.inl binds.unrestored), ?_⟩
  have whole := reads.trans carries.reads
  have now : a.s.now = s.now := (whole.trans binds.leaves.reads).now
  have rest := carries.rest
  rw [reads.now] at rest
  have linked := carries.linked
  generalize b.trailer owner = o at *
  have placed : (a.s.trailer p).rest = { (o.released.carried rep.model s.now).rest with
      state := (a.s.trailer p).state, profile := (a.s.trailer p).profile } := by
    rw [← rest]
    exact binds.rest
  have binding := c.binding
  rw [TrailerRecord.field_of_rest (t := a.s.trailer p) (u := { (o.released.carried rep.model s.now).rest with
      state := (a.s.trailer p).state, profile := (a.s.trailer p).profile }) placed TrailerRecord.binding fun _ => rfl, now] at binding
  have field {α : Type} (π : TrailerRecord → α) (hπ : ∀ x, π x.binding = π x) := TrailerRecord.field_of_binding binding π hπ
  have bound : (u.trailer p).profile = (a.s.trailer p).profile := field TrailerRecord.profile fun _ => rfl
  have ended : (u.trailer p).state = (a.s.trailer p).state := field TrailerRecord.state fun _ => rfl
  have door : (a.s.trailer p).door = o.door :=
    TrailerRecord.field_of_rest (u := { (o.released.carried rep.model s.now).rest with
      state := (a.s.trailer p).state, profile := (a.s.trailer p).profile }) placed TrailerRecord.door fun _ => rfl
  have custody : (a.s.trailer p).custody = o.custody :=
    TrailerRecord.field_of_rest (u := { (o.released.carried rep.model s.now).rest with
      state := (a.s.trailer p).state, profile := (a.s.trailer p).profile }) placed TrailerRecord.custody fun _ => rfl
  have profile : (w.trailer p).profile = o.profile := TrailerRecord.field_of_rest rest TrailerRecord.profile fun _ => rfl
  have model : (w.trailer p).model = rep.model := TrailerRecord.field_of_rest rest TrailerRecord.model fun _ => rfl
  have held : w.profileOf (w.trailer p) = s.profileOf o := profileOf_of_same whole profile
  refine ⟨field TrailerRecord.model fun _ => rfl, field TrailerRecord.lastStatus fun _ => rfl, fun pr known => ?_, fun gone no => ?_⟩
  · obtain ⟨enrolled, kept⟩ := binds.known pr (held.trans known)
    refine ⟨ended.trans enrolled, field TrailerRecord.serial fun _ => rfl, bound.trans (kept.trans profile),
      field TrailerRecord.arrival fun _ => rfl, field TrailerRecord.f fun _ => rfl, field TrailerRecord.r fun _ => rfl,
      field TrailerRecord.lastDefrostEnd fun _ => rfl, field TrailerRecord.inhibit fun _ => rfl,
      field TrailerRecord.deferral fun _ => rfl, field TrailerRecord.mask fun _ => rfl, field TrailerRecord.unitAbsent fun _ => rfl,
      (c.lastEval enrolled unit).trans (by rw [now]), fun one => ?_, fun shut => ?_⟩
    · exact ((c.stands .linkLost (by decide)).trans (binds.leaves.stands (by decide))).trans (linked one)
    · have still : ¬ rep.door.Opens (a.s.trailer p).door := by
        rw [door]
        exact fun opens => shut.elim (fun no => no opens.1) fun is => opens.2 is
      obtain ⟨history, pn⟩ := c.door still
      rw [door] at history pn
      exact ⟨(c.custody (.inr still)).trans custody, history, pn⟩
  · have vain : w.matching (w.trailer p).model = none := by
      rw [matching_of_reads whole, model]
      exact no
    obtain ⟨arriving, none, -⟩ := binds.unknown (held.trans gone) vain
    have unevaluated := c.unevaluated (.inl (by rw [arriving]; nofun))
    have settled : (u.trailer p).door = (a.s.trailer p).door ∧ (u.trailer p).custody = (a.s.trailer p).custody :=
      Prod.mk.inj (TrailerRecord.field_of_rest (u := { (a.s.trailer p).rest with lastStatus := some a.s.now }) unevaluated
        (fun x => (x.door, x.custody)) fun _ => rfl)
    exact ⟨ended.trans arriving, field TrailerRecord.serial fun _ => rfl, bound.trans none,
      field TrailerRecord.arrival fun _ => rfl, field TrailerRecord.f fun _ => rfl, field TrailerRecord.r fun _ => rfl,
      settled.2.trans custody, settled.1.trans door⟩

/-- A serial whose owner is gone moves to the post that reports it (R36). -/
theorem moved_exchangeGood (h : s.Hears l bytes r rep) (hp : r.exchange.post = p) (law : s.GrantLaw) (listing : s.DirectoryLaw)
    (unit : rep.unit = .unit) (lookup : s.dirLookup rep.serial = some owner) (apart : owner ≠ p) (absent : ¬ s.Present owner)
    (comes : (s.trailer p).state = .vacant ∨
      ((s.trailer p).verifies = true ∧ ((s.trailer p).serial ≠ rep.serial ∨ (s.trailer p).state = .held)))
    {u : State} (hu : s.exchangeGood l r rep = u) :
    let o := s.trailer owner
    let t' := u.trailer p
    u.Gone owner ∧ (rep.serial, p) ∈ u.directory ∧ t'.model = rep.model ∧ t'.lastStatus = some s.now ∧
    (o.verifies = true → Keeps p rep s o t') ∧
    (o.verifies = false →
      t'.serial = rep.serial ∧ t'.arrival = some s.now ∧ t'.custody = .unknown ∧
      u.rebuilds.getLast? = some s.now ∧
      (s.phase = .running → t'.stands .recordRebuilt = true) ∧
      (∀ i pr, s.matching rep.model = some (i, pr) →
        t'.state = .enrolled ∧ t'.profile = some i ∧ t'.f = pr.fth ∧ t'.r = 0) ∧
      (s.matching rep.model = none → t'.state = .arriving ∧ t'.profile = none ∧ t'.f = 0 ∧ t'.r = 0)) := by
  dsimp only
  have heard := leaves_hearPost s l p
  have reached := reaches_hearPost s l p
  have off := off_of_not_present absent law
  have found : (s.hearPost l p).dirLookup rep.serial = some owner :=
    (reached.lookup rep.serial (by rw [lookup]; exact fun e => apart (Option.some.inj e))).trans lookup
  have away : ¬ (s.hearPost l p).Present owner := fun present =>
    absent (present.of_others (reached.entry owner apart).symm (reached.others owner apart).symm)
  rw [← heard.field TrailerRecord.state fun _ => rfl, ← heard.field TrailerRecord.serial fun _ => rfl] at comes
  have verified := LineKit.verifies.hearPost s l p p
  obtain ⟨b, before, moving, other, step⟩ := lifecycle_of_moves unit found apart away
    (comes.imp_right fun both => ⟨verified both.1, both.2⟩)
  have reaches := reached.trans moving
  have record := (reaches.fixed owner apart off).trailer
  have entry : (rep.serial, owner) ∈ b.directory := State.mem_of_dirLookup
    ((reaches.lookup rep.serial (by rw [lookup]; exact fun e => apart (Option.some.inj e))).trans lookup)
  have moves := moves_move (reaches.law law) apart (reaches.listing listing) entry ((reaches.law law).idle_of_not_enrolled other) before
  rw [← step] at moves
  clear heard reached found away comes verified moving step
  obtain ⟨a, step⟩ : ∃ a, ((s.hearPost l p).verifyAt p).lifecycle p rep = a := ⟨_, rfl⟩
  rw [step] at moves
  have departs (present : (a.s.trailer p).state ≠ .vacant)
      (first : (a.s.trailer p).state = .enrolled → ∃ pr, a.s.Unevaluated p pr) : u.Gone owner :=
    hu ▸ gone_exchangeGood h hp step present (fun enrolled _ => first enrolled) apart moves.gone
  rw [← record]
  cases verifies : (b.trailer owner).verifies with
  | true =>
    obtain ⟨w, carries, binds, -⟩ := moves.carried verifies
    obtain ⟨listed, keeps⟩ := carried_exchangeGood h hp unit step reaches.reads carries binds hu
    exact ⟨departs binds.present binds.first, listed, keeps.model, keeps.lastStatus,
      fun _ => keeps, nofun⟩
  | false =>
    obtain ⟨rebuilds, counted⟩ := moves.rebuilt verifies
    have placed := rebuilds.of_reads reaches.reads
    obtain ⟨⟨serial, model, arrival, lastStatus, -, r, -⟩, ⟨listed, -⟩, custody, rebuilt, last, known, unknown⟩ :=
      rebuilt_exchangeGood h hp unit step placed counted hu
    obtain ⟨present, first⟩ := placed.awaits
    refine ⟨departs present first, listed, model, lastStatus, nofun, fun _ => ⟨serial, arrival, custody, last, rebuilt, ?_, ?_⟩⟩
    · intro i pr matched
      obtain ⟨enrolled, profile, f, -⟩ := known i pr matched
      exact ⟨enrolled, profile, f, r⟩
    · intro none
      obtain ⟨arriving, profile, f, -⟩ := unknown none
      exact ⟨arriving, profile, f, r⟩

end

/-! ## The statement -/

/-- Settles O42, clause by clause of what the lifecycle step does, from what a GOOD exchange leaves of what that step has
made; that the directory names the serial's post alone is the directory's law. -/
theorem statusMovesConfirmsOrDeparts : Obligations.StatusMovesConfirmsOrDeparts := by
  intro l bytes s r rep
  dsimp only
  intro h law listing
  refine ⟨_, h.exec, ?_⟩
  generalize hp : r.exchange.post = p
  have listed : (s.exchangeGood l r rep).DirectoryLaw := StepKit.directory.exchangeGood s l r rep listing
  obtain ⟨u, hu⟩ : ∃ u, s.exchangeGood l r rep = u := ⟨_, rfl⟩
  rw [hu] at listed ⊢
  refine ⟨fun verifies away present => ?_, fun away vacant => hu ▸ vacant_exchangeGood h hp away vacant,
    fun verifies away enrolled => ?_, fun verifies away other => ?_, fun verifies unit restored serial unread =>
    restored_exchangeGood h hp law verifies unit restored serial unread hu, fun owner unit lookup apart absent comes => ?_⟩
  · have gone : u.Gone p := hu ▸ unplugged_exchangeGood h hp law away verifies present
    exact ⟨gone.vacant, gone.inForce, gone.directory, gone.unfiled⟩
  · obtain ⟨rest, lost⟩ := absent_exchangeGood h hp away verifies enrolled hu
    have field {α : Type} (π : TrailerRecord → α) (hπ : ∀ x, π x.rest = π x) : π (u.trailer p) = _ :=
      (hπ (u.trailer p)).symm.trans (congrArg π rest)
    exact ⟨(field TrailerRecord.state fun _ => rfl).trans enrolled, field TrailerRecord.serial fun _ => rfl,
      field TrailerRecord.profile fun _ => rfl, field TrailerRecord.lastStatus fun _ => rfl,
      field TrailerRecord.unitAbsent fun _ => rfl, field TrailerRecord.f fun _ => rfl, field TrailerRecord.r fun _ => rfl,
      field TrailerRecord.lastEval fun _ => rfl, field TrailerRecord.custody fun _ => rfl, field TrailerRecord.door fun _ => rfl,
      field TrailerRecord.fuel fun _ => rfl, lost⟩
  · have parts : (s.trailer p).state ≠ .vacant ∧ (s.trailer p).state ≠ .enrolled ∧
        ((s.trailer p).state ≠ .restored ∨ r.Spares (s.line l)) := by
      obtain is | is | ⟨is, spares⟩ := other <;> rw [is]
      · exact ⟨nofun, nofun, .inl nofun⟩
      · exact ⟨nofun, nofun, .inl nofun⟩
      · exact ⟨nofun, nofun, .inr spares⟩
    exact uncounted_exchangeGood h hp law away verifies parts.1 parts.2.1 parts.2.2 hu
  · obtain ⟨gone, entry, model, lastStatus, keeps, rebuilt⟩ :=
      moved_exchangeGood h hp law listing unit lookup apart absent comes hu
    exact ⟨gone.vacant, gone.inForce, entry, fun e he same => listed.unique (u := rep.serial) (same ▸ he) entry, gone.unfiled,
      model, lastStatus, fun pr verifies => (keeps verifies).known pr, fun verifies => (keeps verifies).unknown, rebuilt⟩

end Sys2Proof.Machine
